-- ==== Sys2Proof/Word.lean ====
section
/-! DEFINITION. Words, bytes and bit fields: the plainest arithmetic of the model (12-bit to 64-bit values are
kept as naturals or integers wherever the manual only counts or computes with them). -/

namespace Sys2Proof

/-- A 32-bit register, memory or hopper word (R43, R60). -/
abbrev Word := BitVec 32

/-- One byte of sheaf memory, state memory or a frame on a link. -/
abbrev Byte := BitVec 8

/-- The place of a bit field in a register: its lowest bit and its width. -/
structure Fld where
  lo : Nat
  w  : Nat
deriving DecidableEq, Repr

/-- The mask of a field inside its register. -/
def Fld.mask (f : Fld) : Word := BitVec.ofNat 32 ((2 ^ f.w - 1) <<< f.lo)

/-- The value of a field, right-aligned. -/
def getF (v : Word) (f : Fld) : Nat := (v.toNat >>> f.lo) % 2 ^ f.w

/-- A register value with one field replaced; other bits stay. -/
def setF (v : Word) (f : Fld) (x : Nat) : Word :=
  (v &&& ~~~ f.mask) ||| BitVec.ofNat 32 ((x % 2 ^ f.w) <<< f.lo)

/-- Is bit `k` of a natural set? -/
def bitOf (n k : Nat) : Bool := (n >>> k) % 2 == 1

/-- A Boolean as a one-bit number. -/
def b2n (b : Bool) : Nat := if b then 1 else 0

/-- Two's-complement reading of the low `w` bits of a natural. -/
def sext (w n : Nat) : Int :=
  let m := n % 2 ^ w
  if m < 2 ^ (w - 1) then (m : Int) else (m : Int) - 2 ^ w

/-- Two's-complement encoding of an integer in `w` bits. -/
def enc (w : Nat) (i : Int) : Nat := (i % (2 ^ w : Int)).toNat

/-- A word from a natural, taken modulo 2^32. -/
def wN (n : Nat) : Word := BitVec.ofNat 32 n

/-- A word from an integer, in two's complement modulo 2^32. -/
def wI (i : Int) : Word := BitVec.ofNat 32 (enc 32 i)

/-- The signed reading of a word. -/
def sW (v : Word) : Int := sext 32 v.toNat

/-- Saturation of an integer to the range of a signed number of `w` bits. -/
def satS (w : Nat) (i : Int) : Int :=
  if i > 2 ^ (w - 1) - 1 then 2 ^ (w - 1) - 1 else if i < - 2 ^ (w - 1) then - 2 ^ (w - 1) else i

/-- Saturation of a natural to `w` bits. -/
def satU (w n : Nat) : Nat := if n > 2 ^ w - 1 then 2 ^ w - 1 else n

/-- Division rounded toward zero; 0 when the divisor is 0. -/
def divZ (a b : Int) : Int := Int.tdiv a b

/-- Division rounded to nearest, a half away from zero, for a positive divisor. -/
def divNear (a b : Int) : Int :=
  if a ≥ 0 then (2 * a + b) / (2 * b) else - ((2 * (-a) + b) / (2 * b))

/-- The bytes of a value, least significant first (R12). -/
def leBytes : Nat → Nat → List Nat
  | 0, _ => []
  | k + 1, n => (n % 256) :: leBytes k (n / 256)

/-- The value of bytes, least significant first (R12). -/
def ofLE : List Nat → Nat
  | [] => 0
  | b :: bs => b % 256 + 256 * ofLE bs

/-- The element at a place of a list, or a default. -/
def nth {α : Type} (d : α) (l : List α) (k : Nat) : α := l.getD k d

/-- A list with the element at one place changed. -/
def modNth {α : Type} (l : List α) (k : Nat) (f : α → α) : List α := l.modify k f

end Sys2Proof
end

