-- ==== Sys2Proof/Types.lean ====
section
/-! DEFINITION. Data that commands carry: CAN frames, bus errors, host requests and errors, packets of the pair link; with the
unit states that an image of the mirror holds. -/

namespace Sys2Proof

/-- A CAN frame: identifier (a base identifier in bits 10:0), format bits, DLC, payload bytes, timestamp of its SOF in µs
(R478, R488), remote frame (R452). -/
structure CanFrm where
  id   : Nat
  ide  : Bool
  fdf  : Bool
  brs  : Bool
  esi  : Bool
  dlc  : Nat
  data : List Nat
  ts   : Nat
  rtr  : Bool
deriving DecidableEq, Repr

/-- A bus error (R480): its code in the encoding of CANx_LEC, data phase, a dominant bit after the error flag (or during a
passive one), the exception of ISO 11898-1 for stuff errors in arbitration, further counts of 8 for a bus that
stays dominant or an error inside a flag, and the loop delay where an own FD frame had passed its FDF-to-res edge (R456). -/
structure BusErr where
  code : Nat
  dataPh : Bool
  dom  : Bool
  exc  : Bool
  more : Nat
  tdc  : Option Nat
deriving DecidableEq, Repr

/-- A pad of a feedback channel in a fabric cycle: its level, and how many samples in a row have shown it (R116). -/
structure Pad where
  lvl : Bool
  run : Nat
deriving DecidableEq, Repr

/-- The pads H1 to H3 in a cycle. -/
structure HallPads where
  h1 : Pad
  h2 : Pad
  h3 : Pad
deriving DecidableEq, Repr

/-- The pad Z with the cycle of the running frame. -/
structure ZPad where
  pad : Pad
  cyc : Nat
deriving DecidableEq, Repr

/-- A request on the host link (R534): ADDR, TAG, payload bytes, cycle of the running frame in which its last stop bit ends. -/
structure HReq where
  addr : Nat
  tag  : Nat
  body : List Nat
  cyc  : Nat
deriving DecidableEq, Repr

/-- What is wrong with a host frame (R536), or a TYPE that R538 does not list. -/
inductive HErr
| framing
| gap
| length
| crc
| type (typ : Nat) (r : HReq)
deriving DecidableEq, Repr

/-- An error a memory word showed when it was read or scrubbed: memory (ID of R617), address, uncorrectable. -/
structure EccEv where
  mem  : Nat
  addr : Nat
  dbl  : Bool
deriving DecidableEq, Repr

/-- What the world gives at a frame edge: voltages of ISA, ISB, ISC and VDC per axis in µV (R244, R701), what the pads SD_D0 to SD_D7 showed in the
frame that ends: for each pad and each of the ten cycles after a rising edge of SD_CLK the levels, that of the first edge lowest (R423), general outputs and safety channels whose readback disagrees (R408), FIELD_24 in 10 mV, buses
of CANA and CANB idle. -/
structure FrameIn where
  adc   : List (List Nat)
  sd    : List (List Nat)
  mis   : Nat
  vf    : Nat
  idleA : Bool
  idleB : Bool
deriving DecidableEq, Repr

namespace Machine

/-- Motion states of an axis (R165, AXn_STAT.MSTATE). -/
inductive Mot | idle | move | table | halt | dwell | home | limstop
deriving DecidableEq, Repr

/-- Homing states (R189, AXn_HSTAT.HSTATE). -/
inductive Hst | idle | seek | clear | find | done | fail
deriving DecidableEq, Repr

/-- A planned path: start values, jerk phases (jerk, duration in 1/256 fabric cycles), exact end position if the path
ends at a target, time already run; positions, speeds, accelerations and jerks scaled by 2^32. -/
structure Plan where
  s0     : Int
  v0     : Int
  a0     : Int
  phases : List (Int × Nat)
  fin    : Option Int
  el     : Nat
  goal   : Int              -- target position the plan was made for
  lim    : Int × Int × Int  -- V, A, J it was made with
deriving DecidableEq, Repr

/-- A segment table (R166): point count and words of points, by point: time, position, velocity as written. -/
structure Tbl where
  n   : Nat
  pts : List (Nat × (Nat × Nat × Nat))
deriving DecidableEq, Repr

/-- The stage a two-phase stepper's or BLDC bridge is in, and the axis's other state of chapters 04 and 06. -/
structure AxS where
  mot     : Mot
  s       : Int            -- commanded path coordinate, scaled by 2^32
  v       : Int
  a       : Int
  base    : Int            -- commanded position = base + s·num/den, base scaled (R186; 0 and 1/1 outside group moves)
  num     : Int
  den     : Int
  linked  : Bool           -- on the path of its group (R186)
  plan    : Option Plan
  tgt     : Int            -- target of the run
  again   : Bool           -- a new run follows the stop (R172, R187)
  retgt   : Bool
  dwell   : Nat            -- frames of the dwell left
  tStart  : Int            -- commanded position at the start of a TABLE
  tK      : Nat            -- frame edges since the start of a TABLE
  tab     : Tbl            -- active table
  tabS    : Tbl            -- shadow table
  tblbad  : Bool
  hst     : Hst
  hcause  : Nat
  homed   : Bool
  hend    : Bool           -- a homing has ended, not yet told (R615)
  hStart  : Nat            -- time of the HOME command
  hCnt    : Int            -- accumulator at entry of FIND
  poslost : Bool
  ired    : Bool
  wake    : Bool           -- full current asked for, first release with W = 0 (R194)
  psi     : Int            -- extended step count SCNT·2^48 + Φ (R175, R176)
  psiT    : Nat            -- time up to which psi counts
  w       : Int            -- released velocity word
  wNext   : Int            -- staged velocity word
  staged  : Bool           -- STEP_STAGE has run in this frame
  zeroW   : Bool           -- the next release carries W = 0 (R182)
  lapsed  : Bool
  lastStp : Nat            -- time of the last step issued, or since when the commanded speed is 0
  stopped : Bool           -- an immediate stop applies in this frame (R221)
  still   : Bool           -- stopped immediately and not moved since (R364)
  chat    : List (List Nat)  -- times of level changes of reference, positive and negative switch (R192)
  chLat   : Nat            -- chatter bits: 0 reference, 1 positive, 2 negative
  swLvl   : Nat            -- filtered input levels latched last, IN0 to IN31 (R192)
  m       : Nat            -- microstep table index (R252, R253)
  vcap    : Option Nat     -- speed cap of a closing door (R273), in place of VRUN
  dtgt    : Option Int     -- target of a command from the sequencer or stop table, in place of AXn_TGT
  wCom    : Int            -- velocity word that the registers show (R58, R197)
  back    : Bool           -- direction of the DIR pad: backward (R177)
  dirT    : Nat            -- time of its last change
  stq     : List Nat       -- times at which the STEP pad rises: steps not long over, and steps that wait (R177)
deriving DecidableEq, Repr
/-- A door of the sequencer beside its registers (R261–R276). `axc`: the axis command that acts in the next frame (R263),
none inside for HALT. -/
structure DorS where
  st     : Nat               -- STATE in the encoding of R281
  part   : Bool              -- PARTIAL
  hold0  : Nat               -- start of the hold timer
  reo    : Nat
  rcause : Nat
  fcause : Nat
  wait   : Nat               -- command that waits (R272): 0 none, 1 CLOSE, 2 NUDGE
  lockTo : Bool              -- LOCKTO has been given since entry to CLOSED
  tEnt   : Nat               -- entry to CLOSED
  tMove  : Nat               -- start of the running move
  fc     : Nat               -- frames of force above its limit
  ec     : Nat               -- frames of energy above its cap
  way    : Nat               -- commanded direction the counts belong to: 0 none, 1 toward open, 2 toward closed
  cmds   : List Nat          -- commands of DOR_CMDd that wait for DOOR_SEQ (R265, R266)
  axc    : Option (Option Int)
  goal   : Int
  imm    : Bool              -- an immediate stop of the axis not yet seen by the sequencer
  con    : Bool              -- closed contact in the frame before
  fest   : Option Int        -- force estimate of this frame, 0.1 N
  fA     : List Nat
  fS     : List Nat
  thW    : Bool              -- THOLD has been written since reset (R275)
deriving DecidableEq, Repr
/-- A stop (R300): the landing served by the lower deck and the one served by the upper deck. -/
structure StopId where
  lo : Option Nat
  up : Option Nat
deriving DecidableEq, Repr

/-- What the stop table keeps in state memory (R293): call entries that are not 0 (R292), destination records that are
not free by number (state and bits 27:0 of their word, R299), stop state (R307) and the selected stop. -/
structure StpC where
  tab    : List (Nat × Nat)
  recs   : List (Nat × (Nat × Nat))
  cst    : Nat                     -- CSTATE in the encoding of R313
  dir    : Nat                     -- 0 none, 1 up, 2 down
  commit : Bool
  next   : Option (StopId × Int)   -- NEXT and its level position
  pres   : Option (StopId × Int)   -- the present stop and its level position
  adv    : Bool                    -- ADVOPEN
  srvd   : Bool                    -- served at the present stop
  tgt    : Option StopId           -- target set by HELD
  load   : Nat
  served : Nat                     -- STP_SERVED
  tSt    : Nat                     -- entry to START
  stTo   : Bool                    -- STARTTO given since
  tRl    : Nat                     -- entry to RELEVEL
  rlc    : Nat                     -- frames of the re-levelling trigger
deriving DecidableEq, Repr

/-- An open-call entry (R325, R335): state (1 OPEN, 2 AWARDED, 3 LOCAL), SEQ, AGE when entered and the time of entry, identity
word, class, round, COMMIT, HCOST, holder, own cost; T_serve and E_term of it; opened and not yet bid for, TICK seen,
own bid and own re-bid outstanding, no bid in this round; the award stands in the stop table and has been seen there;
CLOSE and re-announcement staged; time since which the holder holds; last published cost and time, COMMIT published;
priced since it was opened; served by the stop table (R339); a HOLD that did not go out is owed. -/
structure BidE where
  st    : Nat
  seq   : Nat
  age0  : Nat
  t0    : Nat
  idw   : Nat
  pcl   : Nat
  round : Nat
  cmt   : Bool
  hcost : Nat
  hold  : Nat
  own   : Nat
  tsv   : Nat
  etm   : Int
  new   : Bool
  sof   : Nat
  tick  : Bool
  bidO  : Bool
  rebO  : Bool
  noBid : Bool
  mine  : Bool
  live  : Bool
  clsd  : Bool
  rean  : Bool
  tHold : Nat
  pubC  : Nat
  pubT  : Nat
  pubK  : Bool
  prcd  : Bool
  srv   : Bool
  owed  : Bool
deriving DecidableEq, Repr

/-- What BID keeps: the open-call table, local queue of hall-call words (R332), SEQ counter, rotation of COST, call operations
for the stop table (R336), frames to stage as records of R319, cancellations, times of own re-bids, cars heard (time,
in RUN, eligible), STATUS count and time. -/
structure BidC where
  tab   : List (Nat × BidE)
  pq    : List Nat
  ctr   : Nat
  rot   : Nat
  ops   : List Nat
  out   : List (Nat × Nat × Nat × Nat)
  canc  : List (Nat × Nat × Bool)
  rbt   : List Nat
  cars  : List (Nat × (Nat × Bool × Bool))
  stn   : Nat
  stt   : Nat
  wasAl : Bool
deriving DecidableEq, Repr

/-- Escalation of a gap (R361): reference, count. -/
structure EscS where
  ref : Int
  cnt : Nat
deriving DecidableEq, Repr

/-- A landing table (R286): count, levels and access nibbles that are not 0. -/
structure LandT where
  n   : Nat
  lv  : List (Nat × Int)
  acc : List (Nat × Nat)
deriving DecidableEq, Repr

/-- The headland guard (R351–R389): state, trip latch, consecutive good frames while ARMING, frames since a guard stop was
decided (from 0), the frame that decided a guard stop AX0 has not yet taken; values of the frame: P_g, v_g, envelopes, gaps; overspeed
counts and the sign they belong to; zone disagreement count; doors were locked, P_ref; last valid neighbour record,
missing count, a valid record came in this frame, the record received at INGEST, the own record; the last received record
claimed the own SPOS; causes are evaluated in this frame, cause bits of the frame before and of this frame; the escalation
rule runs in this frame (R362); the configuration has been judged in this schedule (R356); the zone disagreement has reached
ZDN; landing table and DECKH of the last committed frame (R359). -/
structure HdlS where
  gst    : Nat
  trip   : Bool
  armN   : Nat
  nH     : Nat
  stopRq : Option Nat
  p      : Int
  v      : Int
  dstop  : Nat
  demg   : Nat
  gterm  : Int
  gshaft : Int
  et     : EscS
  es     : EscS
  ovS    : Nat
  ovT    : Nat
  ovSg   : Int
  zdN    : Nat
  wasLk  : Bool
  pref   : Option Int
  nrec   : Option (List Word)
  miss   : Nat
  nval   : Bool
  rxImg  : Option (List Word)
  own    : List Word
  spos   : Bool
  act    : Bool
  cb     : Nat
  cbN    : Nat
  esc    : Bool
  judged : Bool
  zdOn   : Bool
  land   : Option (LandT × Int)
deriving DecidableEq, Repr

/-- The state of one unit as the mirror carries it (R565); the manual numbers no unit-state words, so a unit's words go
together, and the stop and open-call tables, which it puts into state memory without an address, go the same way. -/
inductive UnitSt
| axis (n : Nat) (x : AxS)
| door (d : Nat) (x : DorS)
| stop (c : StpC)
| guard (h : HdlS)
| bid (c : BidC)
deriving DecidableEq, Repr

/-- An entry of an image (R567): state memory word by index, register by offset from 0x4000_0000, word of an active bank by
SWAP object and word number, entry not backed by a register, unit state. -/
inductive PEnt
| smem (ix : Nat) (v : Word)
| reg (off : Nat) (v : Word)
| bank (ix w : Nat) (v : Word)
| obj (ix sub : Nat) (v : Nat)
| unit (u : UnitSt)
deriving DecidableEq, Repr

/-- The content of an image (R566): SIDE, words of the IMG_SEND slot, frame, CRC, entries of the frame still to follow, FIO_OCMD,
compare values U, V and W of six axes, positions and speeds of eight channels; entries with the frame each belongs to, which follows from
their order and the counts still to follow of the images before. -/
structure PImg where
  side  : Bool
  n     : Nat
  frame : Nat
  crc   : Nat
  rest  : Nat
  ocmd  : Nat
  cmp   : List (Nat × Nat × Nat)
  pos   : List Int
  vel   : List Int
  ents  : List (Nat × PEnt)
deriving DecidableEq, Repr

/-- A BEACON (R562): claim, module state, role, SIDE, SYNC, LOCK, frame counter, CONFIRM. -/
structure Beacon where
  claim : Nat
  mst   : Nat
  role  : Nat
  side  : Bool
  sync  : Bool
  lock  : Bool
  frame : Nat
  conf  : Nat
deriving DecidableEq, Repr

/-- The first and the last word of a packet as received: its head word and its CRC-32C (R560). -/
structure PktEnds where
  head : Word
  crc  : Word
deriving DecidableEq, Repr

/-- The body of an IMAGE packet: a mirror image of role REDUNDANT (R566), or the words of role SHAFT (R370). -/
inductive Img
| mirror (i : PImg)
| shaft (ws : List Word)
deriving DecidableEq, Repr

end Machine

end Sys2Proof
end

