-- ==== Sys2Proof/Syntax.lean ====
section
/-! DEFINITION. The commands of the block, one constructor for each row of the opcode table, with the operands they carry.
Slot commands name their slot descriptor by its number k in the running sheaf; `mism` says that the lockstep lanes
differed in it (R234). Events carry the fabric cycle of the running frame in which they happen. -/

namespace Sys2Proof

/-- The commands (rows of the opcode table, in its order but for seven moved ahead of chapter 18, so that the last ones take no
operand: Lean's compiler builds no constructor with operands beyond number 243). -/
inductive Instr
| frameBoundary (i : FrameIn)
| release
| frameCommit
| accumulationIntervalEnd
| hopperCheck (es : List EccEv)
| frameOverrun (k cyc : Nat)
| backgroundCrcPass
| hmove (k : Nat)
| inLatch (k : Nat)
| edgePop (k : Nat)
| outStage (k : Nat)
| fbLatch (k : Nat)
| fbSpeed (k : Nat)
| sdTake (k : Nat)
| rms (k : Nat)
| acc (k : Nat)
| rxTake (k : Nat)
| txStage (k : Nat)
| imgTake (k : Nat)
| imgSend (k : Nat)
| fmaBlk (k : Nat) (mism : Bool)
| piLoop (k : Nat) (mism : Bool)
| pidLoop (k : Nat) (mism : Bool)
| plaus (k : Nat) (mism : Bool)
| blend (k : Nat) (mism : Bool)
| segEval (k : Nat)
| limChk (k : Nat)
| homeStep (k : Nat)
| envelope (k : Nat) (mism : Bool)
| termChk (k : Nat) (mism : Bool)
| ovsChk (k : Nat) (mism : Bool)
| shaftChk (k : Nat) (mism : Bool)
| zoneChk (k : Nat) (mism : Bool)
| ucmChk (k : Nat) (mism : Bool)
| stopScan (k : Nat)
| stpCommit (k : Nat)
| cost (k : Nat)
| bidStage (k : Nat)
| doorSeq (k : Nat)
| forceEst (k : Nat)
| pwmStage (k : Nat)
| stepStage (k : Nat)
| chopUpd (k : Nat)
| smemLoad (k : Nat)
| smemStore (k : Nat)
| compareLoad (n cyc : Nat)
| quadratureEdge (n : Nat) (a b : Pad) (cyc : Nat)
| hallTransition (n : Nat) (h : HallPads) (cyc : Nat)
| qualifiedIndex (n : Nat) (z : ZPad)
| serialWord (n : Nat) (inTime : Bool) (data : Nat) (eb wb : Bool) (crc cyc : Nat)
| serialTimeout (n : Nat)
| standstill (n : Nat)
| posSet (n : Nat)
| zrefClr (n : Nat)
| zarm (n : Nat)
| positionSnapshotRead (n : Nat)
| axMove (n : Nat)
| axTable (n : Nat)
| axHalt (n : Nat)
| axAbort (n : Nat)
| axHome (n : Nat)
| chatClr (n : Nat)
| posset (n : Nat)
| dwellElapsed (n : Nat)
| homingTimeout (n cyc : Nat)
| chatterLatch (n k : Nat)
| currentReduction (n cyc : Nat)
| stepIssued (n cyc : Nat)
| overcurrent (n uv cyc : Nat)
| ocClear (n : Nat)
| drivePhaseEnd (n x uv peak cyc : Nat)
| decayPhaseEnd (n x uv cyc : Nat)
| doorOpen (d : Nat)
| doorClose (d : Nat)
| doorNudge (d : Nat)
| doorStop (d : Nat)
| doorFreset (d : Nat)
| holdTimerExpiry (d cyc : Nat)
| tlockExpiry (d cyc : Nat)
| tmoveExceeded (d cyc : Nat)
| setCc (e : Nat)
| clearCc (e : Nat)
| awardHu (e : Nat)
| awardHd (e : Nat)
| withdrawHu (e : Nat)
| withdrawHd (e : Nat)
| clearEveryCc
| addDestinationRecord (e dest side pax : Nat)
| resume
| tstartExpiry (cyc : Nat)
| relevelTrigger
| relevelTimeout (cyc : Nat)
| hallCallWord (w : Nat)
| dupclr
| announce (f : CanFrm) (own : Bool)
| tick (f : CanFrm) (own : Bool)
| bid (f : CanFrm) (own : Bool)
| holdFrame (f : CanFrm) (own : Bool)
| closeFrame (f : CanFrm) (own : Bool)
| status (f : CanFrm) (own : Bool)
| statusPeriod
| holdPublication (k : Nat)
| carAbsent (n : Nat)
| tripclr
| guardArmed
| overspeed
| escalationTrip (src : Nat)
| neighbourRecordMissing
| zoneDisagreement
| inputChange (k : Nat) (b v : Bool) (cyc : Nat)
| edgeAccepted (k : Nat) (b : Bool) (cyc : Nat)
| runAbandoned (k : Nat) (b : Bool) (cyc : Nat)
| staleInput (k cyc : Nat)
| staleFlagClear (m : Nat)
| tapDiscrepancy (j cyc : Nat)
| readbackDisagreement (k : Nat)
| safetyChannelStuck (k : Nat)
| safetyChannelFailed (k : Nat)
| outputOverload (k : Nat)
| silentLogic (cyc : Nat)
| fieldStart
| field24Warning
| field24Fault
| field24Recovered (cyc : Nat)
| fieldLost
| fieldPulsesResumed (cyc : Nat)
| arma
| armb
| edgeRecordRead (g : Nat)
| clr
| snap
| modulatorStuck (c : Nat)
| forcedBoundary
| checkpoint
| pulseStart
| pulseHighEnd
| pulseLowEnd
| canFrameReceived (x cyc : Nat) (f : CanFrm) (age : Nat)
| transmitStart (x cyc : Nat)
| arbitrationLost (x cyc : Nat)
| transmitComplete (x cyc tdc : Nat)
| alone (x : Nat)
| busError (x cyc : Nat) (e : BusErr)
| releaseInstantDue (x k cyc : Nat)
| req (x : Nat)
| cancel (x : Nat)
| borq (x : Nat)
| busOffRecoveryDone (x : Nat)
| integrationDone (x : Nat)
| sleep (x : Nat)
| sleepEntry (x : Nat)
| wake (x : Nat)
| wakeEvent (x : Nat)
| lockTimeout (x cyc : Nat)
| rxWindowRead (x w : Nat)
| rxSelect (x k : Nat)
| hpBufferRead (x : Nat)
| sdoDownloadInitiate (x cyc : Nat) (bs : List Nat)
| sdoUploadInitiate (x cyc : Nat) (bs : List Nat)
| sdoSegment (x cyc : Nat) (bs : List Nat)
| sdoTimeout (x cyc : Nat)
| startRemoteNode (node : Nat)
| stopRemoteNode (node : Nat)
| enterPreOperational (node : Nat)
| resetNode (node : Nat)
| resetCommunication (node : Nat)
| bootUp (cyc : Nat)
| heartbeat (cyc : Nat)
| emcySend (cyc : Nat)
| epoch (r : HReq)
| ident (r : HReq)
| objRead (r : HReq)
| objWrite (r : HReq)
| regRead (r : HReq)
| regWrite (r : HReq)
| bulkOpen (r : HReq)
| bulkData (r : HReq)
| bulkClose (r : HReq)
| recRead (r : HReq)
| fetch (r : HReq)
| hostFrameError (e : HErr)
| response (cyc : Nat) (coll : Bool)
| epochLost (cyc : Nat)
| bulkSessionTimeout (cyc : Nat)
| beaconReceived (ends : Machine.PktEnds) (b : Machine.Beacon) (cyc : Nat)
| imageReceived (ends : Machine.PktEnds) (i : Machine.Img) (cyc : Nat)
| markerReceived (ends : Machine.PktEnds) (frame count cyc : Nat)
| pairLinkLost
| claimWord (w cyc : Nat)
| peerClaimTimeout (cyc : Nat)
| gapHoldEnd (cyc : Nat)
| takeover
| peerWaitTimeout (cyc : Nat)
| discord
| handreq
| resync
| sdlyExpired (cyc : Nat)
| handlingEnd (cyc : Nat)
| rearm
| ack
| holdOffEnd (k : Nat)
| windowEnd (k cyc : Nat)
| reportDrop (k cyc : Nat)
| crcPreset (p : Nat)
| crcStart
| crcOpen
| crcData (v : Word)
| crcClose
| crcAbort
| crcJobDone (merr : Bool)
| flush
| flushTimer (cyc : Nat)
| flushEnd (bad : List Nat)
| eraseDone (bad : Bool)
| clear
| wallTimeSet (hi : Word)
| recordWindowRead
| loftScanDone (bad : Bool)
| swapRequest (a : Nat)
| readClear (a : Nat)
| writeRegister (a : Nat) (v : Word)
| rateRead (n : Nat)
| faultFrameRead (last : Bool)
| modulatorDataResumed (c : Nat)
| storeDone (fails : Nat) (noBlock : Bool)
| powerOnReset
| brownOut
| resetPad
| railOutOfRange (r : Nat) (high : Bool)
| railRecovered (r : Nat)
| oscillatorStable
| pllLock (us : Nat)
| resetEnd
| memoryInitDone
| bootSlotChecked
| pllLockLost
| powerFailWarning
| configCommand
| readyCommand
| runCommand
| holdCommand
| fclr
| loadCommand
| loadCheckDone
| storeCommand
| resetCommand
| verifyRequest
| switchRequest
| bankCheckDone
| jointSwapRequest
| frameCounterRead
| frameOffsetRead
| wallTimeRead
| powerFailWarningEnd
deriving DecidableEq, Repr

end Sys2Proof
end

