-- ==== Sys2Proof/Decode.lean ====
section
/-! DEFINITION. The command a table word spells. The opcode table gives no row any bits (the block is commanded by register
accesses, packets and events, not by instruction words), so no word spells a command. -/

namespace Sys2Proof

/-- The command that a word of the opcode table's bits spells: none. -/
def decodeTableWord (nbits w : Nat) : Option Instr :=
  match nbits, w with
  | _, _ => none

end Sys2Proof
end

