-- ==== Sys2Proof/Config.lean ====
section
/-! DEFINITION. Values the spec leaves open, as constants without a body: nothing can evaluate them, so a claim holds
whatever they are. Each is named in the assumption log. -/

namespace Sys2Proof.Config

/-- Payload and sign of a NaN the engine produces, from the operands; the manual gives no bits. -/
opaque nanBits : Word → Word → Word → Nat

/-- Whether a commanded point that is no whole number is reported rounded up (numbered by the state's counter). -/
opaque roundUp : Nat → Bool

/-- The unit state index of a mirrored unit, by the unit's place (R567 numbers none). -/
opaque unitIndex : Nat → Nat

/-- The value word of a unit's entry on the pair link. -/
opaque unitWord : Machine.UnitSt → Word

/-- The tag of an entry for an object that no register holds (R567 gives none). -/
opaque objTag : Nat → Nat → Word

/-- A value the manual leaves open, numbered by the state's counter. -/
opaque freeWord : Nat → Nat

/-- The deviation of a sine of the drive stage, by its angle in 1/196,608 turn; the precision of the transforms is not given. -/
opaque sinDev : Nat → Nat

/-- The rounding of the angle of a two-phase voltage; its precision is not given. -/
opaque atanDev : Int → Int → Nat

/-- The centre of the first hall sector as an electrical angle in 1/65,536 turn; not given. -/
opaque hallZero : Nat

/-- Whether a program of a checkpoint block fails its verification, which no command tells; numbered by the state's counter. -/
opaque blockFails : Nat → Bool

/-- How many more records the running flush has programmed by a frame boundary: a record takes at most 16 µs, and no time is given for
one; numbered by the state's counter. -/
opaque flushed : Nat → Nat

end Sys2Proof.Config
end

