-- ==== Sys2Proof/Machine/AList.lean ====
section
/-! DEFINITION. Sparse tables in canonical form: lists of key and value, keys strictly rising. Memory and the
register file are such tables. -/

namespace Sys2Proof.Machine

/-- The value a table holds at a key. -/
def aget {α : Type} : List (Nat × α) → Nat → Option α
  | [], _ => none
  | (k, v) :: t, a => if k = a then some v else aget t a

/-- A table with one key set. -/
def aput {α : Type} : List (Nat × α) → Nat → α → List (Nat × α)
  | [], a, x => [(a, x)]
  | (k, v) :: t, a, x =>
    if k = a then (a, x) :: t else if a < k then (a, x) :: (k, v) :: t else (k, v) :: aput t a x

/-- A table with one key removed. -/
def adel {α : Type} : List (Nat × α) → Nat → List (Nat × α)
  | [], _ => []
  | (k, v) :: t, a => if k = a then adel t a else (k, v) :: adel t a

/-- Are all keys of a table above a bound, and strictly rising? -/
def risingFrom {α : Type} (b : Nat) : List (Nat × α) → Bool
  | [] => true
  | (k, _) :: t => decide (b ≤ k) && risingFrom (k + 1) t

/-- A row of `n` like units with unit k changed; `d` stands for a unit that is not listed. -/
def setAt {α : Type} (n : Nat) (d : α) (l : List α) (k : Nat) (f : α → α) : List α :=
  (List.range n).map (fun j => if j = k then f (l.getD j d) else l.getD j d)

end Sys2Proof.Machine
end

