-- ==== Sys2Proof/Machine/RegMap.lean ====
section
/-! DEFINITION. The register map: where every register of the module lies (R44), and the fields of each with access
code, reset value, the mark CONFIG-only (R112) and the range a written value is judged by (R113), as the register
tables of the chapters give them (R4, R99–R106, R149–R155, R196–R198, R237, R238, R278–R281, R312, R313, R348, R349,
R387, R388, R420, R421, R449, R450, R486, R487, R553–R555, R591, R592, R625–R628, R657, R658, R683, R684). -/

namespace Sys2Proof.Machine

/-- Access codes of the register tables. -/
inductive Acc | rw | ro | wo | w1c | rc | rwf
deriving DecidableEq, Repr

/-- One field of a register: place, access code, reset value, CONFIG-only mark, allowed values as intervals (none
listed: every value). -/
structure FieldRow where
  fld   : Fld
  acc   : Acc
  reset : Nat
  cfg   : Bool
  rng   : List (Nat × Nat)
deriving DecidableEq, Repr

/-- One register, or an array of `count` registers `stride` bytes apart, for the instances `ilo` to `ihi` of its page. -/
structure RegRow where
  off    : Nat
  stride : Nat
  count  : Nat
  ilo    : Nat
  ihi    : Nat
  rows   : List FieldRow
deriving DecidableEq, Repr

/-- A field row, written short. -/
def fr (lo w : Nat) (a : Acc) (rst : Nat) (cfg : Bool := false) (rng : List (Nat × Nat) := []) : FieldRow :=
  ⟨⟨lo, w⟩, a, rst, cfg, rng⟩

/-- Base of feedback channel `n` (R44, R110). -/
def fbBase (n : Nat) : Nat :=
  if n < 6 then 0x40014000 + 0x1000 * n else 0x4001A000 + 0x100 * (n - 6)

/-- Base of axis page `n` (R44). -/
def axBase (n : Nat) : Nat := 0x40014000 + 0x1000 * n

/-- Base of the registers of door `d` (R280). -/
def dorBase (d : Nat) : Nat := 0x40012000 + 0x100 * d

/-- Base of the CAN page: 0 is CANA, 1 is CANB (R44). -/
def canBase (x : Nat) : Nat := 0x40009000 + 0x1000 * x

namespace Addr

def SCH_STAT : Nat := 0x40002004
def SCH_FRM_LO : Nat := 0x40002008
def SCH_FRM_HI : Nat := 0x4000200C
def SCH_CFG : Nat := 0x40002010
def SCH_TPH0 : Nat := 0x40002014
def SCH_TPH1 : Nat := 0x40002018
def SCH_BANK : Nat := 0x40002020
def SCH_LDCAUSE : Nat := 0x40002024
def SCH_CRC_A : Nat := 0x40002030
def SCH_CRC_B : Nat := 0x40002034
def SCH_OVR_CNT : Nat := 0x40002040
def SCH_OVR_INFO : Nat := 0x40002044
def SCH_HOP_FULL : Nat := 0x40002048
def SCH_HOP_EMPTY : Nat := 0x4000204C
def SCH_HOP_RES : Nat := 0x40002050
def SCH_HOP_RMAP_LO : Nat := 0x40002054
def SCH_HOP_RMAP_HI : Nat := 0x40002058
def SCH_STG_OCC : Nat := 0x40002060
def SCH_STG_REF : Nat := 0x40002064
def SCH_STG_FRM : Nat := 0x40002068
def SCH_JSW01 : Nat := 0x40002070
def SCH_JSW23 : Nat := 0x40002074
def SCH_JSWCTL : Nat := 0x40002078
def FB_CTL (n : Nat) : Nat := fbBase n + 0x000
def FB_STAT (n : Nat) : Nat := fbBase n + 0x004
def FB_CNT (n : Nat) : Nat := fbBase n + 0x008
def FB_POS (n : Nat) : Nat := fbBase n + 0x00C
def FB_VEL (n : Nat) : Nat := fbBase n + 0x010
def FB_SPD (n : Nat) : Nat := fbBase n + 0x014
def FB_VBND (n : Nat) : Nat := fbBase n + 0x018
def FB_TS (n : Nat) : Nat := fbBase n + 0x01C
def FB_TFE (n : Nat) : Nat := fbBase n + 0x020
def FB_ZLAT (n : Nat) : Nat := fbBase n + 0x024
def FB_ZDEV (n : Nat) : Nat := fbBase n + 0x028
def FB_ZCPR (n : Nat) : Nat := fbBase n + 0x02C
def FB_ZCFG (n : Nat) : Nat := fbBase n + 0x030
def FB_PRE (n : Nat) : Nat := fbBase n + 0x034
def FB_SCALE (n : Nat) : Nat := fbBase n + 0x038
def FB_SER (n : Nat) : Nat := fbBase n + 0x03C
def FB_SCRC (n : Nat) : Nat := fbBase n + 0x040
def FB_SPDCFG (n : Nat) : Nat := fbBase n + 0x044
def FB_SRAW_LO (n : Nat) : Nat := fbBase n + 0x048
def FB_SRAW_HI (n : Nat) : Nat := fbBase n + 0x04C
def FB_ERRCNT (n : Nat) : Nat := fbBase n + 0x050
def FB_OUT (n : Nat) : Nat := fbBase n + 0x054
def FB_DIV (n : Nat) : Nat := fbBase n + 0x058
def FB_CMD (n : Nat) : Nat := fbBase n + 0x05C
def AX_PCFG (n : Nat) : Nat := axBase n + 0x100
def AX_STEP (n : Nat) : Nat := axBase n + 0x148
def AX_PCMD (n : Nat) : Nat := axBase n + 0x104
def AX_SSCALE (n : Nat) : Nat := axBase n + 0x14C
def AX_STAT (n : Nat) : Nat := axBase n + 0x108
def AX_RATE_LO (n : Nat) : Nat := axBase n + 0x150
def AX_TGT (n : Nat) : Nat := axBase n + 0x10C
def AX_RATE_HI (n : Nat) : Nat := axBase n + 0x154
def AX_CPOS (n : Nat) : Nat := axBase n + 0x110
def AX_SCNT (n : Nat) : Nat := axBase n + 0x158
def AX_CVEL (n : Nat) : Nat := axBase n + 0x114
def AX_HCFG (n : Nat) : Nat := axBase n + 0x15C
def AX_CACC (n : Nat) : Nat := axBase n + 0x118
def AX_HSPD (n : Nat) : Nat := axBase n + 0x160
def AX_VMAX (n : Nat) : Nat := axBase n + 0x11C
def AX_HPOS (n : Nat) : Nat := axBase n + 0x164
def AX_AMAX (n : Nat) : Nat := axBase n + 0x120
def AX_HTIME (n : Nat) : Nat := axBase n + 0x168
def AX_JMAX (n : Nat) : Nat := axBase n + 0x124
def AX_LSW (n : Nat) : Nat := axBase n + 0x16C
def AX_VRUN (n : Nat) : Nat := axBase n + 0x128
def AX_HSTAT (n : Nat) : Nat := axBase n + 0x170
def AX_ARUN (n : Nat) : Nat := axBase n + 0x12C
def AX_IRED (n : Nat) : Nat := axBase n + 0x174
def AX_JRUN (n : Nat) : Nat := axBase n + 0x130
def AX_TSWAP (n : Nat) : Nat := axBase n + 0x178
def AX_VLO (n : Nat) : Nat := axBase n + 0x134
def AX_TNPT (n : Nat) : Nat := axBase n + 0x17C
def AX_VHI (n : Nat) : Nat := axBase n + 0x138
def AX_TPTR (n : Nat) : Nat := axBase n + 0x180
def AX_ALIM (n : Nat) : Nat := axBase n + 0x13C
def AX_TDATA (n : Nat) : Nat := axBase n + 0x184
def AX_JLIM (n : Nat) : Nat := axBase n + 0x140
def AX_TCHK (n : Nat) : Nat := axBase n + 0x188
def AX_DWELL (n : Nat) : Nat := axBase n + 0x144
def AX_VSS (n : Nat) : Nat := axBase n + 0x18C
def THR_STAT : Nat := 0x40011000
def THR_LSMM : Nat := 0x40011004
def THR_LSCNT : Nat := 0x40011008
def THR_CPTR : Nat := 0x40011010
def THR_CDATA : Nat := 0x40011014
def THR_CCHK : Nat := 0x40011018
def THR_CSWAP (k : Nat) : Nat := 0x40011020 + 4 * k
def THR_MCFG (k : Nat) : Nat := 0x40011040 + 4 * k
def THR_BSTAT (k : Nat) : Nat := 0x40011060 + 4 * k
def THR_LSTAT (k : Nat) : Nat := 0x40011100 + 4 * k
def THR_LOUT (k : Nat) : Nat := 0x40011200 + 4 * k
def THR_LINT (k : Nat) : Nat := 0x40011280 + 4 * k
def THR_PRES (k : Nat) : Nat := 0x40011300 + 4 * k
def THR_PTH (k : Nat) : Nat := 0x40011340 + 4 * k
def THR_PCFG (k : Nat) : Nat := 0x40011380 + 4 * k
def AX_PWMCFG (n : Nat) : Nat := axBase n + 0x200
def AX_MSWAP (n : Nat) : Nat := axBase n + 0x228
def AX_CMP01 (n : Nat) : Nat := axBase n + 0x204
def AX_MPTR (n : Nat) : Nat := axBase n + 0x22C
def AX_CMP2 (n : Nat) : Nat := axBase n + 0x208
def AX_MDATA (n : Nat) : Nat := axBase n + 0x230
def AX_ISCFG (n : Nat) : Nat := axBase n + 0x20C
def AX_MCHK (n : Nat) : Nat := axBase n + 0x234
def AX_IAB (n : Nat) : Nat := axBase n + 0x210
def AX_EMF (n : Nat) : Nat := axBase n + 0x238
def AX_IC (n : Nat) : Nat := axBase n + 0x214
def AX_LACFG (n : Nat) : Nat := axBase n + 0x23C
def AX_CHOP (n : Nat) : Nat := axBase n + 0x218
def AX_LANG (n : Nat) : Nat := axBase n + 0x240
def AX_ICOIL (n : Nat) : Nat := axBase n + 0x21C
def AX_DSTAT (n : Nat) : Nat := axBase n + 0x244
def AX_CHOFS (n : Nat) : Nat := axBase n + 0x220
def AX_IOC (n : Nat) : Nat := axBase n + 0x248
def AX_MSTEP (n : Nat) : Nat := axBase n + 0x224
def AX_ELEC (n : Nat) : Nat := axBase n + 0x24C
def DOR_CFG (d : Nat) : Nat := dorBase d + 0x000
def DOR_STAT (d : Nat) : Nat := dorBase d + 0x020
def DOR_IN (d : Nat) : Nat := dorBase d + 0x004
def DOR_FEST (d : Nat) : Nat := dorBase d + 0x024
def DOR_OPEN (d : Nat) : Nat := dorBase d + 0x008
def DOR_KE (d : Nat) : Nat := dorBase d + 0x028
def DOR_CLOSE (d : Nat) : Nat := dorBase d + 0x00C
def DOR_VCAP (d : Nat) : Nat := dorBase d + 0x02C
def DOR_TIM (d : Nat) : Nat := dorBase d + 0x010
def DOR_FSWAP (d : Nat) : Nat := dorBase d + 0x030
def DOR_TMV (d : Nat) : Nat := dorBase d + 0x014
def DOR_FPTR (d : Nat) : Nat := dorBase d + 0x034
def DOR_BOFF (d : Nat) : Nat := dorBase d + 0x018
def DOR_FDATA (d : Nat) : Nat := dorBase d + 0x038
def DOR_CMD (d : Nat) : Nat := dorBase d + 0x01C
def DOR_FCHK (d : Nat) : Nat := dorBase d + 0x03C
def STP_CFG : Nat := 0x4000F000
def STP_CMARG : Nat := 0x4000F030
def STP_STAT : Nat := 0x4000F004
def STP_ADV : Nat := 0x4000F034
def STP_NEXT : Nat := 0x4000F008
def STP_TSTART : Nat := 0x4000F038
def STP_LEVEL : Nat := 0x4000F00C
def STP_LOAD : Nat := 0x4000F03C
def STP_DIST : Nat := 0x4000F010
def STP_SERVED : Nat := 0x4000F040
def STP_CALLQ : Nat := 0x4000F014
def STP_WDREF : Nat := 0x4000F044
def STP_QSTAT : Nat := 0x4000F018
def STP_LSWAP : Nat := 0x4000F048
def STP_DECKH : Nat := 0x4000F01C
def STP_LNUM : Nat := 0x4000F04C
def STP_LTOL : Nat := 0x4000F020
def STP_LPTR : Nat := 0x4000F050
def STP_RLV : Nat := 0x4000F024
def STP_LDATA : Nat := 0x4000F054
def STP_RLV2 : Nat := 0x4000F028
def STP_LCHK : Nat := 0x4000F058
def STP_RLVEL : Nat := 0x4000F02C
def STP_CMD : Nat := 0x4000F05C
def STP_ENT (k : Nat) : Nat := 0x4000F400 + 4 * k
def STP_DREC (k : Nat) : Nat := 0x4000F800 + 4 * k
def BID_CFG : Nat := 0x4000E000
def BID_CALLIN : Nat := 0x4000E028
def BID_STAT : Nat := 0x4000E004
def BID_OCC : Nat := 0x4000E02C
def BID_TIME : Nat := 0x4000E008
def BID_PRES_LO : Nat := 0x4000E030
def BID_COST1 : Nat := 0x4000E00C
def BID_PRES_HI : Nat := 0x4000E034
def BID_COST2 : Nat := 0x4000E010
def BID_WON : Nat := 0x4000E038
def BID_ENRG : Nat := 0x4000E014
def BID_LOST : Nat := 0x4000E03C
def BID_EUP : Nat := 0x4000E018
def BID_LATE : Nat := 0x4000E040
def BID_EDN : Nat := 0x4000E01C
def BID_BLATE : Nat := 0x4000E044
def BID_RALL : Nat := 0x4000E020
def BID_REALL : Nat := 0x4000E048
def BID_ALIVE : Nat := 0x4000E024
def BID_CMD : Nat := 0x4000E04C
def BID_CALL (k : Nat) : Nat := 0x4000E400 + 4 * k
def HDL_CFG : Nat := 0x4000D000
def HDL_DSTOP : Nat := 0x4000D044
def HDL_STAT : Nat := 0x4000D004
def HDL_DEMG : Nat := 0x4000D048
def HDL_CMD : Nat := 0x4000D008
def HDL_GTERM : Nat := 0x4000D04C
def HDL_AGRD : Nat := 0x4000D00C
def HDL_VLIM : Nat := 0x4000D050
def HDL_AEMG : Nat := 0x4000D010
def HDL_PREF : Nat := 0x4000D054
def HDL_TIME : Nat := 0x4000D014
def HDL_PERM : Nat := 0x4000D058
def HDL_MARGIN : Nat := 0x4000D018
def HDL_CCHK : Nat := 0x4000D05C
def HDL_TERMHI : Nat := 0x4000D01C
def HDL_ESC : Nat := 0x4000D060
def HDL_TERMLO : Nat := 0x4000D020
def HDL_OVP (k : Nat) : Nat := 0x4000D080 + 8 * k
def HDL_ESCCFG : Nat := 0x4000D024
def HDL_OVV (k : Nat) : Nat := 0x4000D084 + 8 * k
def HDL_OVCFG : Nat := 0x4000D028
def HDL_SHCFG : Nat := 0x4000D100
def HDL_ZWIN : Nat := 0x4000D02C
def HDL_TOP : Nat := 0x4000D104
def HDL_RLV : Nat := 0x4000D030
def HDL_BOT : Nat := 0x4000D108
def HDL_DLMASK : Nat := 0x4000D034
def HDL_SEP : Nat := 0x4000D10C
def HDL_DLPOL : Nat := 0x4000D038
def HDL_SGAP : Nat := 0x4000D110
def HDL_ZIN : Nat := 0x4000D03C
def HDL_SOFS : Nat := 0x4000D114
def HDL_VG : Nat := 0x4000D040
def HDL_NPOS : Nat := 0x4000D118
def HDL_NVG : Nat := 0x4000D11C
def HDL_NDSTOP : Nat := 0x4000D120
def HDL_GSHAFT : Nat := 0x4000D124
def HDL_GTRIP : Nat := 0x4000D128
def HDL_NSTAT : Nat := 0x4000D12C
def FIO_STAT : Nat := 0x4000B000
def FIO_EOCC : Nat := 0x4000B060
def FIO_IN : Nat := 0x4000B004
def FIO_EOVF01 : Nat := 0x4000B064
def FIO_INRAW : Nat := 0x4000B008
def FIO_EOVF23 : Nat := 0x4000B068
def FIO_TAP : Nat := 0x4000B00C
def FIO_OCMD : Nat := 0x4000B070
def FIO_DEB (k : Nat) : Nat := 0x4000B010 + 4 * k
def FIO_ORB : Nat := 0x4000B074
def FIO_STLEN : Nat := 0x4000B030
def FIO_OWN : Nat := 0x4000B078
def FIO_STLT : Nat := 0x4000B034
def FIO_PAR : Nat := 0x4000B07C
def FIO_STALE : Nat := 0x4000B038
def FIO_SAFE : Nat := 0x4000B080
def FIO_TAPCFG : Nat := 0x4000B03C
def FIO_OCFG : Nat := 0x4000B084
def FIO_EFL (k : Nat) : Nat := 0x4000B040 + 4 * k
def FIO_HCMD : Nat := 0x4000B088
def FIO_EFH (k : Nat) : Nat := 0x4000B050 + 4 * k
def FIO_SCMD : Nat := 0x4000B08C
def FIO_SSTAT : Nat := 0x4000B090
def FIO_VF24 : Nat := 0x4000B094
def NRG_CFG : Nat := 0x4000C000
def NRG_EVTH2 : Nat := 0x4000C0A8
def NRG_STAT : Nat := 0x4000C004
def NRG_EVSTART (k : Nat) : Nat := 0x4000C0B0 + 16 * k
def NRG_CMD : Nat := 0x4000C008
def NRG_EVDUR (k : Nat) : Nat := 0x4000C0B4 + 16 * k
def NRG_SDCFG : Nat := 0x4000C00C
def NRG_EVEXT (k : Nat) : Nat := 0x4000C0B8 + 16 * k
def NRG_GAIN (k : Nat) : Nat := 0x4000C010 + 8 * k
def NRG_EVCNT (k : Nat) : Nat := 0x4000C0BC + 16 * k
def NRG_OFS (k : Nat) : Nat := 0x4000C014 + 8 * k
def NRG_PCFG : Nat := 0x4000C0E0
def NRG_INST (k : Nat) : Nat := 0x4000C050 + 4 * k
def NRG_PEPP : Nat := 0x4000C0E4
def NRG_PLINE : Nat := 0x4000C070
def NRG_PSTAT : Nat := 0x4000C0E8
def NRG_PDCL : Nat := 0x4000C074
def NRG_LOST : Nat := 0x4000C0EC
def NRG_FREQ : Nat := 0x4000C078
def NRG_CKFRM : Nat := 0x4000C0F0
def NRG_HCFRM : Nat := 0x4000C07C
def NRG_PUBFRM : Nat := 0x4000C0F4
def NRG_URMS (k : Nat) : Nat := 0x4000C080 + 4 * k
def NRG_SNAP_LO (k : Nat) : Nat := 0x4000C100 + 8 * k
def NRG_SNAP_HI (k : Nat) : Nat := 0x4000C104 + 8 * k
def NRG_IRMS (k : Nat) : Nat := 0x4000C08C + 4 * k
def NRG_SWRAP0 : Nat := 0x4000C140
def NRG_SWRAP1 : Nat := 0x4000C144
def NRG_UDIN : Nat := 0x4000C0A0
def NRG_SFRM : Nat := 0x4000C148
def NRG_EVTH1 : Nat := 0x4000C0A4
def NRG_SNAPCTL : Nat := 0x4000C14C
def CAN_CFG (x : Nat) : Nat := canBase x + 0x000
def CAN_RXSEL (x : Nat) : Nat := canBase x + 0x044
def CAN_STAT (x : Nat) : Nat := canBase x + 0x004
def CAN_TXSEL (x : Nat) : Nat := canBase x + 0x048
def CAN_CMD (x : Nat) : Nat := canBase x + 0x008
def CAN_TXCTL (x : Nat) : Nat := canBase x + 0x04C
def CAN_NBT (x : Nat) : Nat := canBase x + 0x00C
def CAN_CANST (x : Nat) : Nat := canBase x + 0x050
def CAN_DBT (x : Nat) : Nat := canBase x + 0x010
def CAN_QSTAT (x : Nat) : Nat := canBase x + 0x054
def CAN_TDC (x : Nat) : Nat := canBase x + 0x014
def CAN_QOVF (x : Nat) : Nat := canBase x + 0x058
def CAN_ERR (x : Nat) : Nat := canBase x + 0x018
def CAN_PEND (x : Nat) (k : Nat) : Nat := canBase x + 0x060 + 4 * k
def CAN_LEC (x : Nat) : Nat := canBase x + 0x01C
def CAN_NEW (x : Nat) (k : Nat) : Nat := canBase x + 0x070 + 4 * k
def CAN_TS (x : Nat) : Nat := canBase x + 0x024
def CAN_RXD (x : Nat) (k : Nat) : Nat := canBase x + 0x080 + 4 * k
def CAN_TSFE (x : Nat) : Nat := canBase x + 0x028
def CAN_TXD (x : Nat) (k : Nat) : Nat := canBase x + 0x100 + 4 * k
def CAN_WAKEID (x : Nat) : Nat := canBase x + 0x030
def CAN_HPD (x : Nat) (k : Nat) : Nat := canBase x + 0x180 + 4 * k
def CAN_WAKEMASK (x : Nat) : Nat := canBase x + 0x034
def CAN_OCFG (x : Nat) (k : Nat) : Nat := canBase x + 0x400 + 8 * k
def CAN_HPID (x : Nat) : Nat := canBase x + 0x038
def CAN_OID (x : Nat) (k : Nat) : Nat := canBase x + 0x404 + 8 * k
def CAN_HPMASK (x : Nat) : Nat := canBase x + 0x03C
def CAN_HPSTAT (x : Nat) : Nat := canBase x + 0x040
def HLK_CFG : Nat := 0x40008000
def HLK_STAT : Nat := 0x40008004
def HLK_EPNUM : Nat := 0x40008008
def HLK_EPFRM_LO : Nat := 0x4000800C
def HLK_EPFRM_HI : Nat := 0x40008010
def HLK_EPCYC : Nat := 0x40008014
def HLK_SLOT : Nat := 0x40008018
def HLK_ERRCNT : Nat := 0x4000801C
def HLK_SLOTMISS : Nat := 0x40008020
def PAIR_CFG : Nat := 0x40007000
def PAIR_LAST : Nat := 0x40007020
def PAIR_STAT : Nat := 0x40007004
def PAIR_SYNCCNT : Nat := 0x40007024
def PAIR_CLAIM : Nat := 0x40007008
def PAIR_SWEEP : Nat := 0x40007028
def PAIR_SYNCCFG : Nat := 0x4000700C
def PAIR_IMG : Nat := 0x4000702C
def PAIR_PTOL : Nat := 0x40007010
def PAIR_ERRCNT : Nat := 0x40007030
def PAIR_CMD : Nat := 0x40007014
def PAIR_SWCNT : Nat := 0x40007034
def PAIR_FOFS_LO : Nat := 0x40007018
def PAIR_TAKE : Nat := 0x40007038
def PAIR_FOFS_HI : Nat := 0x4000701C
def FLT_STAT : Nat := 0x40004000
def FLT_GCFG : Nat := 0x40004028
def FLT_CMD : Nat := 0x40004004
def FLT_GMASK : Nat := 0x4000402C
def FLT_FIRST : Nat := 0x40004008
def FLT_GSTAT : Nat := 0x40004030
def FLT_FFRM_LO : Nat := 0x4000400C
def FLT_FFRM_HI : Nat := 0x40004010
def FLT_GCNT : Nat := 0x40004034
def FLT_LAST : Nat := 0x40004014
def FLT_ECCSTAT : Nat := 0x40004040
def FLT_LFRM_LO : Nat := 0x40004018
def FLT_LFRM_HI : Nat := 0x4000401C
def FLT_ECCCADDR : Nat := 0x40004044
def FLT_ECCUADDR : Nat := 0x40004048
def FLT_COUNT : Nat := 0x40004020
def FLT_ECCCNT : Nat := 0x4000404C
def FLT_RCFG : Nat := 0x40004024
def FLT_SCRUB : Nat := 0x40004050
def FLT_ACT (k : Nat) : Nat := 0x40004080 + 4 * k
def FLT_GTAB (k : Nat) : Nat := 0x40004100 + 4 * k
def REC_CFG : Nat := 0x40006000
def REC_WALL_LO : Nat := 0x40006024
def REC_STAT : Nat := 0x40006004
def REC_WALL_HI : Nat := 0x40006028
def REC_CMD : Nat := 0x40006008
def REC_LOFT : Nat := 0x4000602C
def REC_SEQ : Nat := 0x4000600C
def REC_DROPCNT : Nat := 0x40006030
def REC_OLD : Nat := 0x40006010
def REC_BADCNT : Nat := 0x40006034
def REC_UNFL : Nat := 0x40006014
def REC_FLFRM : Nat := 0x40006038
def REC_GEN : Nat := 0x40006018
def REC_WEAR : Nat := 0x4000603C
def REC_CUR : Nat := 0x4000601C
def REC_WIN (k : Nat) : Nat := 0x40006040 + 4 * k
def REC_WSTAT : Nat := 0x40006020
def PWR_MSTATE : Nat := 0x40001000
def PWR_MCMD : Nat := 0x40001004
def PWR_RSTSRC : Nat := 0x40001008
def PWR_SUP : Nat := 0x4000100C
def CLK_STAT : Nat := 0x40001010
def PWR_STORE : Nat := 0x40001014
def PWR_BOOT : Nat := 0x40001018
def PWR_SLOT (k : Nat) : Nat := 0x4000101C + 4 * k
def HIF_UNITS : Nat := 0x40000004
def HIF_VIOL_ADDR : Nat := 0x40000020
def HIF_VIOL_INFO : Nat := 0x40000024
def HIF_VIOL_CODE : Nat := 0x40000028
def HIF_VIOL_CNT : Nat := 0x4000002C
def CRC_CFG : Nat := 0x40005000
def CRC_POLY : Nat := 0x40005004
def CRC_INIT : Nat := 0x40005008
def CRC_XOR : Nat := 0x4000500C
def CRC_CTL : Nat := 0x40005010
def CRC_ADDR : Nat := 0x40005014
def CRC_LEN : Nat := 0x40005018
def CRC_DATA : Nat := 0x4000501C
def CRC_RES : Nat := 0x40005020
def CRC_STAT : Nat := 0x40005024
def CRC_CNT : Nat := 0x40005028
def PRF_GMAP : Nat := 0x40010000
def PRF_BUSY : Nat := 0x40010004
def DOR_SUM : Nat := 0x40012000
def INT_SUM : Nat := 0x40003000
def INT_CFG : Nat := 0x40003004
def INT_CAUSE (k : Nat) : Nat := 0x40003040 + 4 * k
def INT_EN (k : Nat) : Nat := 0x40003080 + 4 * k

end Addr

namespace Fl

def SCH_STAT_HOPR : Fld := ⟨7, 1⟩
def SCH_STAT_HOPF : Fld := ⟨6, 1⟩
def SCH_STAT_OVR : Fld := ⟨5, 1⟩
def SCH_STAT_RUNNING : Fld := ⟨4, 1⟩
def SCH_STAT_PHASE : Fld := ⟨0, 4⟩
def SCH_FRM_LO_VAL : Fld := ⟨0, 32⟩
def SCH_FRM_HI_VAL : Fld := ⟨0, 16⟩
def SCH_CFG_RATE : Fld := ⟨16, 2⟩
def SCH_CFG_NCYC : Fld := ⟨0, 16⟩
def SCH_TPH0_TEMT : Fld := ⟨16, 16⟩
def SCH_TPH0_TCMP : Fld := ⟨0, 16⟩
def SCH_TPH1_TEND : Fld := ⟨16, 16⟩
def SCH_TPH1_TDRN : Fld := ⟨0, 16⟩
def SCH_BANK_VCAUSE : Fld := ⟨8, 8⟩
def SCH_BANK_REFUSED : Fld := ⟨7, 1⟩
def SCH_BANK_CANC : Fld := ⟨6, 1⟩
def SCH_BANK_SWPEND : Fld := ⟨5, 1⟩
def SCH_BANK_VOK : Fld := ⟨4, 1⟩
def SCH_BANK_BUSY : Fld := ⟨3, 1⟩
def SCH_BANK_VFYREQ : Fld := ⟨2, 1⟩
def SCH_BANK_SWREQ : Fld := ⟨1, 1⟩
def SCH_BANK_ACT : Fld := ⟨0, 1⟩
def SCH_LDCAUSE_INDEX : Fld := ⟨16, 16⟩
def SCH_LDCAUSE_KIND : Fld := ⟨9, 2⟩
def SCH_LDCAUSE_BANK : Fld := ⟨8, 1⟩
def SCH_LDCAUSE_CAUSE : Fld := ⟨0, 8⟩
def SCH_CRC_A_VAL : Fld := ⟨0, 32⟩
def SCH_CRC_B_VAL : Fld := ⟨0, 32⟩
def SCH_OVR_CNT_VAL : Fld := ⟨0, 32⟩
def SCH_OVR_INFO_PHASE : Fld := ⟨16, 2⟩
def SCH_OVR_INFO_SLOT : Fld := ⟨0, 16⟩
def SCH_HOP_FULL_VAL : Fld := ⟨0, 32⟩
def SCH_HOP_EMPTY_VAL : Fld := ⟨0, 32⟩
def SCH_HOP_RES_VAL : Fld := ⟨0, 32⟩
def SCH_HOP_RMAP_LO_MAP : Fld := ⟨0, 32⟩
def SCH_HOP_RMAP_HI_MAP : Fld := ⟨0, 32⟩
def SCH_STG_OCC_OCC : Fld := ⟨0, 7⟩
def SCH_STG_REF_COUNT : Fld := ⟨0, 32⟩
def SCH_STG_FRM_FRAME : Fld := ⟨0, 32⟩
def SCH_JSW01_IDX1 : Fld := ⟨16, 16⟩
def SCH_JSW01_IDX0 : Fld := ⟨0, 16⟩
def SCH_JSW23_IDX3 : Fld := ⟨16, 16⟩
def SCH_JSW23_IDX2 : Fld := ⟨0, 16⟩
def SCH_JSWCTL_FAILMAP : Fld := ⟨4, 4⟩
def SCH_JSWCTL_FAIL : Fld := ⟨3, 1⟩
def SCH_JSWCTL_DONE : Fld := ⟨2, 1⟩
def SCH_JSWCTL_PEND : Fld := ⟨1, 1⟩
def SCH_JSWCTL_GO : Fld := ⟨0, 1⟩
def FB_CTL_UNIT : Fld := ⟨16, 2⟩
def FB_CTL_FILT : Fld := ⟨12, 3⟩
def FB_CTL_ZPOL : Fld := ⟨10, 1⟩
def FB_CTL_ZGATE : Fld := ⟨8, 2⟩
def FB_CTL_ZMODE : Fld := ⟨4, 2⟩
def FB_CTL_MODE : Fld := ⟨0, 3⟩
def FB_STAT_MISSCNT : Fld := ⟨24, 8⟩
def FB_STAT_HCODE : Fld := ⟨16, 3⟩
def FB_STAT_CFGERR : Fld := ⟨15, 1⟩
def FB_STAT_POSSAT : Fld := ⟨14, 1⟩
def FB_STAT_TOUT : Fld := ⟨13, 1⟩
def FB_STAT_STALE : Fld := ⟨12, 1⟩
def FB_STAT_TRUNC : Fld := ⟨11, 1⟩
def FB_STAT_ENCWARN : Fld := ⟨10, 1⟩
def FB_STAT_ENCERR : Fld := ⟨9, 1⟩
def FB_STAT_CRCERR : Fld := ⟨8, 1⟩
def FB_STAT_HALLERR : Fld := ⟨7, 1⟩
def FB_STAT_QERR : Fld := ⟨6, 1⟩
def FB_STAT_ZMISSING : Fld := ⟨5, 1⟩
def FB_STAT_ZWIN : Fld := ⟨4, 1⟩
def FB_STAT_ZFLT : Fld := ⟨3, 1⟩
def FB_STAT_ZARMED : Fld := ⟨2, 1⟩
def FB_STAT_ZREF : Fld := ⟨1, 1⟩
def FB_STAT_VALID : Fld := ⟨0, 1⟩
def FB_CNT_COUNT : Fld := ⟨0, 32⟩
def FB_POS_POS : Fld := ⟨0, 32⟩
def FB_VEL_VEL : Fld := ⟨0, 32⟩
def FB_SPD_EST : Fld := ⟨4, 2⟩
def FB_SPD_VSAT : Fld := ⟨3, 1⟩
def FB_SPD_DECAY : Fld := ⟨2, 1⟩
def FB_SPD_DIR : Fld := ⟨1, 1⟩
def FB_SPD_LOWCONF : Fld := ⟨0, 1⟩
def FB_VBND_VBND : Fld := ⟨0, 32⟩
def FB_TS_TS : Fld := ⟨0, 32⟩
def FB_TFE_TFE : Fld := ⟨0, 32⟩
def FB_ZLAT_ZLAT : Fld := ⟨0, 32⟩
def FB_ZDEV_ZDEV : Fld := ⟨0, 32⟩
def FB_ZCPR_CPR : Fld := ⟨0, 32⟩
def FB_ZCFG_ZMLIM : Fld := ⟨16, 8⟩
def FB_ZCFG_ZTOL : Fld := ⟨0, 16⟩
def FB_PRE_PRE : Fld := ⟨0, 32⟩
def FB_SCALE_NUM : Fld := ⟨16, 16⟩
def FB_SCALE_DEN : Fld := ⟨0, 16⟩
def FB_SER_SLAT : Fld := ⟨24, 8⟩
def FB_SER_TOUT : Fld := ⟨16, 8⟩
def FB_SER_CLKDIV : Fld := ⟨8, 8⟩
def FB_SER_ERRLVL : Fld := ⟨7, 1⟩
def FB_SER_ERRBIT : Fld := ⟨6, 1⟩
def FB_SER_DBITS : Fld := ⟨0, 6⟩
def FB_SCRC_TREC : Fld := ⟨24, 8⟩
def FB_SCRC_INV : Fld := ⟨21, 1⟩
def FB_SCRC_WIDTH : Fld := ⟨16, 5⟩
def FB_SCRC_POLY : Fld := ⟨0, 16⟩
def FB_SPDCFG_TSTILL : Fld := ⟨16, 16⟩
def FB_SPDCFG_WIN : Fld := ⟨0, 4⟩
def FB_SRAW_LO_DLO : Fld := ⟨0, 32⟩
def FB_SRAW_HI_CRCRX : Fld := ⟨16, 16⟩
def FB_SRAW_HI_WB : Fld := ⟨9, 1⟩
def FB_SRAW_HI_EB : Fld := ⟨8, 1⟩
def FB_SRAW_HI_DHI : Fld := ⟨0, 8⟩
def FB_ERRCNT_MCNT : Fld := ⟨24, 8⟩
def FB_ERRCNT_QCNT : Fld := ⟨16, 8⟩
def FB_ERRCNT_ECNT : Fld := ⟨8, 8⟩
def FB_ERRCNT_CCNT : Fld := ⟨0, 8⟩
def FB_OUT_GRAY : Fld := ⟨3, 1⟩
def FB_OUT_PTEN : Fld := ⟨0, 1⟩
def FB_OUT_ZOEN : Fld := ⟨2, 1⟩
def FB_OUT_DIVEN : Fld := ⟨1, 1⟩
def FB_DIV_NUMD : Fld := ⟨16, 16⟩
def FB_DIV_DEND : Fld := ⟨0, 16⟩
def FB_CMD_POSSET : Fld := ⟨2, 1⟩
def FB_CMD_ZREFCLR : Fld := ⟨1, 1⟩
def FB_CMD_ZARM : Fld := ⟨0, 1⟩
def AX_PCFG_GRP : Fld := ⟨4, 2⟩
def AX_PCFG_DIRPOL : Fld := ⟨3, 1⟩
def AX_PCFG_DRIVE : Fld := ⟨0, 3⟩
def AX_STEP_DSU : Fld := ⟨8, 8⟩
def AX_STEP_PW : Fld := ⟨0, 8⟩
def AX_PCMD_CMD : Fld := ⟨0, 4⟩
def AX_SSCALE_SNUM : Fld := ⟨16, 16⟩
def AX_SSCALE_SDEN : Fld := ⟨0, 16⟩
def AX_STAT_GRPSTOP : Fld := ⟨15, 1⟩
def AX_STAT_LAPSE : Fld := ⟨14, 1⟩
def AX_STAT_RATECLP : Fld := ⟨13, 1⟩
def AX_STAT_CMDREF : Fld := ⟨12, 1⟩
def AX_STAT_TGTERR : Fld := ⟨11, 1⟩
def AX_STAT_LIMS : Fld := ⟨10, 1⟩
def AX_STAT_LIMV : Fld := ⟨9, 1⟩
def AX_STAT_TBLBAD : Fld := ⟨8, 1⟩
def AX_STAT_IRED : Fld := ⟨7, 1⟩
def AX_STAT_HOMED : Fld := ⟨6, 1⟩
def AX_STAT_POSLOST : Fld := ⟨5, 1⟩
def AX_STAT_RETGT : Fld := ⟨4, 1⟩
def AX_STAT_MSTATE : Fld := ⟨0, 4⟩
def AX_RATE_LO_WLO : Fld := ⟨0, 32⟩
def AX_TGT_TGT : Fld := ⟨0, 32⟩
def AX_RATE_HI_WHI : Fld := ⟨0, 16⟩
def AX_CPOS_VAL : Fld := ⟨0, 32⟩
def AX_SCNT_SCNT : Fld := ⟨0, 32⟩
def AX_CVEL_VAL : Fld := ⟨0, 32⟩
def AX_HCFG_REFEN : Fld := ⟨8, 1⟩
def AX_HCFG_HIDX : Fld := ⟨7, 1⟩
def AX_HCFG_HDIR : Fld := ⟨6, 1⟩
def AX_HCFG_REFPOL : Fld := ⟨5, 1⟩
def AX_HCFG_REFIN : Fld := ⟨0, 5⟩
def AX_CACC_VAL : Fld := ⟨0, 32⟩
def AX_HSPD_VSEEK : Fld := ⟨16, 16⟩
def AX_HSPD_VCREEP : Fld := ⟨0, 16⟩
def AX_VMAX_VAL : Fld := ⟨0, 32⟩
def AX_HPOS_HPOS : Fld := ⟨0, 32⟩
def AX_AMAX_VAL : Fld := ⟨0, 32⟩
def AX_HTIME_HTIME : Fld := ⟨0, 16⟩
def AX_JMAX_VAL : Fld := ⟨0, 32⟩
def AX_LSW_CHW : Fld := ⟨24, 8⟩
def AX_LSW_CHN : Fld := ⟨16, 8⟩
def AX_LSW_LPOL : Fld := ⟨14, 1⟩
def AX_LSW_NEN : Fld := ⟨13, 1⟩
def AX_LSW_NIN : Fld := ⟨8, 5⟩
def AX_LSW_PEN : Fld := ⟨5, 1⟩
def AX_LSW_PIN : Fld := ⟨0, 5⟩
def AX_VRUN_VAL : Fld := ⟨0, 32⟩
def AX_HSTAT_CHNEG : Fld := ⟨8, 3⟩
def AX_HSTAT_CAUSE : Fld := ⟨4, 4⟩
def AX_HSTAT_HSTATE : Fld := ⟨0, 3⟩
def AX_ARUN_VAL : Fld := ⟨0, 32⟩
def AX_IRED_IREDP : Fld := ⟨16, 8⟩
def AX_IRED_IREDT : Fld := ⟨0, 16⟩
def AX_JRUN_VAL : Fld := ⟨0, 32⟩
def AX_TSWAP_COUNT : Fld := ⟨16, 16⟩
def AX_TSWAP_ACTIVE : Fld := ⟨8, 1⟩
def AX_TSWAP_CMD : Fld := ⟨0, 8⟩
def AX_VLO_VLO : Fld := ⟨0, 32⟩
def AX_TNPT_NPT : Fld := ⟨0, 7⟩
def AX_VHI_VHI : Fld := ⟨0, 32⟩
def AX_TPTR_AINC : Fld := ⟨8, 1⟩
def AX_TPTR_WORD : Fld := ⟨6, 2⟩
def AX_TPTR_ENTRY : Fld := ⟨0, 6⟩
def AX_ALIM_VAL : Fld := ⟨0, 32⟩
def AX_TDATA_DATA : Fld := ⟨0, 32⟩
def AX_JLIM_VAL : Fld := ⟨0, 32⟩
def AX_TCHK_SEG : Fld := ⟨8, 8⟩
def AX_TCHK_CAUSE : Fld := ⟨0, 8⟩
def AX_DWELL_DWELL : Fld := ⟨0, 16⟩
def AX_VSS_VSS : Fld := ⟨0, 32⟩
def THR_STAT_HOCLP : Fld := ⟨3, 1⟩
def THR_STAT_PLF : Fld := ⟨2, 1⟩
def THR_STAT_NONFIN : Fld := ⟨1, 1⟩
def THR_STAT_LSMM : Fld := ⟨0, 1⟩
def THR_LSMM_FRAME : Fld := ⟨16, 16⟩
def THR_LSMM_SLOT : Fld := ⟨0, 16⟩
def THR_LSCNT_COUNT : Fld := ⟨0, 32⟩
def THR_CPTR_AINC : Fld := ⟨12, 1⟩
def THR_CPTR_AXIS : Fld := ⟨8, 3⟩
def THR_CPTR_LEVEL : Fld := ⟨6, 2⟩
def THR_CPTR_WORD : Fld := ⟨0, 4⟩
def THR_CDATA_DATA : Fld := ⟨0, 32⟩
def THR_CCHK_LEVEL : Fld := ⟨12, 4⟩
def THR_CCHK_WORD : Fld := ⟨8, 4⟩
def THR_CCHK_CAUSE : Fld := ⟨0, 8⟩
def THR_CSWAP_COUNT : Fld := ⟨16, 16⟩
def THR_CSWAP_ACTIVE : Fld := ⟨8, 1⟩
def THR_CSWAP_CMD : Fld := ⟨0, 8⟩
def THR_MCFG_NB : Fld := ⟨8, 7⟩
def THR_MCFG_MODE : Fld := ⟨0, 2⟩
def THR_BSTAT_REM : Fld := ⟨16, 8⟩
def THR_BSTAT_HOCLP : Fld := ⟨5, 1⟩
def THR_BSTAT_BLEND : Fld := ⟨4, 1⟩
def THR_BSTAT_PREV : Fld := ⟨2, 2⟩
def THR_BSTAT_MODE : Fld := ⟨0, 2⟩
def THR_LSTAT_NONFIN : Fld := ⟨5, 1⟩
def THR_LSTAT_DVALID : Fld := ⟨4, 1⟩
def THR_LSTAT_HOLDI : Fld := ⟨3, 1⟩
def THR_LSTAT_IHOLD : Fld := ⟨2, 1⟩
def THR_LSTAT_SAT : Fld := ⟨1, 1⟩
def THR_LSTAT_ACTIVE : Fld := ⟨0, 1⟩
def THR_LOUT_VAL : Fld := ⟨0, 32⟩
def THR_LINT_VAL : Fld := ⟨0, 32⟩
def THR_PRES_RES : Fld := ⟨0, 32⟩
def THR_PTH_PTH : Fld := ⟨0, 32⟩
def THR_PCFG_CLASS : Fld := ⟨16, 2⟩
def THR_PCFG_PCNT : Fld := ⟨8, 8⟩
def THR_PCFG_PNF : Fld := ⟨0, 8⟩
def AX_PWMCFG_PER : Fld := ⟨16, 16⟩
def AX_PWMCFG_DT : Fld := ⟨8, 8⟩
def AX_PWMCFG_ESH : Fld := ⟨1, 5⟩
def AX_PWMCFG_SYNC : Fld := ⟨0, 1⟩
def AX_MSWAP_COUNT : Fld := ⟨16, 16⟩
def AX_MSWAP_ACTIVE : Fld := ⟨8, 1⟩
def AX_MSWAP_CMD : Fld := ⟨0, 8⟩
def AX_CMP01_CMPV : Fld := ⟨16, 16⟩
def AX_CMP01_CMPU : Fld := ⟨0, 16⟩
def AX_MPTR_AINC : Fld := ⟨8, 1⟩
def AX_MPTR_ENTRY : Fld := ⟨0, 8⟩
def AX_CMP2_CMPW : Fld := ⟨0, 16⟩
def AX_MDATA_VAL : Fld := ⟨0, 16⟩
def AX_ISCFG_VSCALE : Fld := ⟨16, 16⟩
def AX_ISCFG_ISCALE : Fld := ⟨0, 16⟩
def AX_MCHK_ENTRY : Fld := ⟨8, 8⟩
def AX_MCHK_CAUSE : Fld := ⟨0, 8⟩
def AX_IAB_IB : Fld := ⟨16, 16⟩
def AX_IAB_IA : Fld := ⟨0, 16⟩
def AX_EMF_LCOIL : Fld := ⟨16, 16⟩
def AX_EMF_RCOIL : Fld := ⟨0, 16⟩
def AX_IC_VDC : Fld := ⟨16, 16⟩
def AX_IC_IC : Fld := ⟨0, 16⟩
def AX_LACFG_VEMF : Fld := ⟨16, 16⟩
def AX_LACFG_STALLA : Fld := ⟨0, 16⟩
def AX_CHOP_TBLANK : Fld := ⟨24, 8⟩
def AX_CHOP_TFAST : Fld := ⟨16, 8⟩
def AX_CHOP_DECAY : Fld := ⟨14, 2⟩
def AX_CHOP_HYST : Fld := ⟨0, 12⟩
def AX_LANG_LAVALID : Fld := ⟨16, 1⟩
def AX_LANG_DELTA : Fld := ⟨0, 16⟩
def AX_ICOIL_IRUN : Fld := ⟨16, 16⟩
def AX_ICOIL_OFSMAX : Fld := ⟨0, 16⟩
def AX_DSTAT_BRGOFF : Fld := ⟨3, 1⟩
def AX_DSTAT_OFSCLP : Fld := ⟨2, 1⟩
def AX_DSTAT_STALL : Fld := ⟨1, 1⟩
def AX_DSTAT_OC : Fld := ⟨0, 1⟩
def AX_CHOFS_OFSB : Fld := ⟨16, 16⟩
def AX_CHOFS_OFSA : Fld := ⟨0, 16⟩
def AX_IOC_IOC : Fld := ⟨0, 16⟩
def AX_MSTEP_MIDX : Fld := ⟨16, 10⟩
def AX_MSTEP_MR : Fld := ⟨0, 4⟩
def AX_ELEC_EPER : Fld := ⟨16, 16⟩
def AX_ELEC_EOFS : Fld := ⟨0, 16⟩
def DOR_CFG_ZPERM : Fld := ⟨13, 1⟩
def DOR_CFG_LOCKEN : Fld := ⟨12, 1⟩
def DOR_CFG_SIDE : Fld := ⟨9, 1⟩
def DOR_CFG_DECK : Fld := ⟨8, 1⟩
def DOR_CFG_ROLE : Fld := ⟨4, 3⟩
def DOR_CFG_EN : Fld := ⟨0, 1⟩
def DOR_STAT_PARTIAL : Fld := ⟨29, 1⟩
def DOR_STAT_HOLDRUN : Fld := ⟨28, 1⟩
def DOR_STAT_CMDREF : Fld := ⟨25, 1⟩
def DOR_STAT_ZREF : Fld := ⟨24, 1⟩
def DOR_STAT_TMO : Fld := ⟨23, 1⟩
def DOR_STAT_LOCKTO : Fld := ⟨22, 1⟩
def DOR_STAT_KEXC : Fld := ⟨21, 1⟩
def DOR_STAT_OBS : Fld := ⟨20, 1⟩
def DOR_STAT_REOCNT : Fld := ⟨12, 8⟩
def DOR_STAT_RCAUSE : Fld := ⟨8, 3⟩
def DOR_STAT_FCAUSE : Fld := ⟨4, 3⟩
def DOR_STAT_STATE : Fld := ⟨0, 4⟩
def DOR_IN_HLDEN : Fld := ⟨31, 1⟩
def DOR_IN_HLDPOL : Fld := ⟨29, 1⟩
def DOR_IN_HLDIN : Fld := ⟨24, 5⟩
def DOR_IN_REVEN : Fld := ⟨23, 1⟩
def DOR_IN_REVPOL : Fld := ⟨21, 1⟩
def DOR_IN_REVIN : Fld := ⟨16, 5⟩
def DOR_IN_LCKEN : Fld := ⟨15, 1⟩
def DOR_IN_LCKPOL : Fld := ⟨13, 1⟩
def DOR_IN_LCKIN : Fld := ⟨8, 5⟩
def DOR_IN_CLSEN : Fld := ⟨7, 1⟩
def DOR_IN_CLSPOL : Fld := ⟨5, 1⟩
def DOR_IN_CLSIN : Fld := ⟨0, 5⟩
def DOR_FEST_FEST : Fld := ⟨0, 32⟩
def DOR_OPEN_OPENPOS : Fld := ⟨0, 32⟩
def DOR_KE_KE : Fld := ⟨0, 32⟩
def DOR_CLOSE_OPENPOS : Fld := ⟨0, 32⟩
def DOR_VCAP_VCAP : Fld := ⟨0, 32⟩
def DOR_TIM_NREO : Fld := ⟨24, 8⟩
def DOR_TIM_TLOCK : Fld := ⟨16, 8⟩
def DOR_TIM_THOLD : Fld := ⟨0, 16⟩
def DOR_FSWAP_COUNT : Fld := ⟨16, 16⟩
def DOR_FSWAP_ACTIVE : Fld := ⟨8, 1⟩
def DOR_FSWAP_CMD : Fld := ⟨0, 8⟩
def DOR_TMV_CLOSEWIN : Fld := ⟨16, 16⟩
def DOR_TMV_TMOVE : Fld := ⟨0, 16⟩
def DOR_FPTR_AINC : Fld := ⟨8, 1⟩
def DOR_FPTR_WORD : Fld := ⟨0, 4⟩
def DOR_BOFF_BOFF : Fld := ⟨0, 32⟩
def DOR_FDATA_DATA : Fld := ⟨0, 32⟩
def DOR_CMD_CMD : Fld := ⟨0, 4⟩
def DOR_FCHK_WORD : Fld := ⟨8, 4⟩
def DOR_FCHK_CAUSE : Fld := ⟨0, 8⟩
def STP_CFG_ADVEN : Fld := ⟨5, 1⟩
def STP_CFG_DDPRI : Fld := ⟨4, 1⟩
def STP_CFG_DD : Fld := ⟨3, 1⟩
def STP_CFG_CMODE : Fld := ⟨1, 2⟩
def STP_CFG_EN : Fld := ⟨0, 1⟩
def STP_CMARG_CMARG : Fld := ⟨0, 32⟩
def STP_STAT_TBLBAD : Fld := ⟨16, 1⟩
def STP_STAT_RLFAIL : Fld := ⟨15, 1⟩
def STP_STAT_STARTTO : Fld := ⟨14, 1⟩
def STP_STAT_WDREF : Fld := ⟨13, 1⟩
def STP_STAT_CALLBAD : Fld := ⟨12, 1⟩
def STP_STAT_QOVF : Fld := ⟨11, 1⟩
def STP_STAT_ADVOPEN : Fld := ⟨10, 1⟩
def STP_STAT_EMPTY : Fld := ⟨9, 1⟩
def STP_STAT_COMMIT : Fld := ⟨8, 1⟩
def STP_STAT_DIR : Fld := ⟨4, 2⟩
def STP_STAT_CSTATE : Fld := ⟨0, 4⟩
def STP_ADV_ADVZ : Fld := ⟨16, 16⟩
def STP_ADV_ADVV : Fld := ⟨0, 16⟩
def STP_NEXT_VALID : Fld := ⟨31, 1⟩
def STP_NEXT_PAIRED : Fld := ⟨30, 1⟩
def STP_NEXT_ENTRY2 : Fld := ⟨16, 10⟩
def STP_NEXT_ENTRY : Fld := ⟨0, 10⟩
def STP_TSTART_TSTART : Fld := ⟨0, 16⟩
def STP_LEVEL_LEVEL : Fld := ⟨0, 32⟩
def STP_LOAD_LOAD : Fld := ⟨0, 16⟩
def STP_DIST_DS : Fld := ⟨0, 32⟩
def STP_SERVED_FRAME : Fld := ⟨16, 16⟩
def STP_SERVED_DEST : Fld := ⟨15, 1⟩
def STP_SERVED_HALL : Fld := ⟨14, 1⟩
def STP_SERVED_CAR : Fld := ⟨13, 1⟩
def STP_SERVED_ENTRY : Fld := ⟨0, 10⟩
def STP_CALLQ_OPW : Fld := ⟨0, 32⟩
def STP_WDREF_COUNT : Fld := ⟨0, 32⟩
def STP_QSTAT_OCC : Fld := ⟨0, 6⟩
def STP_LSWAP_COUNT : Fld := ⟨16, 16⟩
def STP_LSWAP_ACTIVE : Fld := ⟨8, 1⟩
def STP_LSWAP_CMD : Fld := ⟨0, 8⟩
def STP_DECKH_DECKH : Fld := ⟨0, 32⟩
def STP_LNUM_NLAND : Fld := ⟨0, 9⟩
def STP_LTOL_LVTOL : Fld := ⟨16, 16⟩
def STP_LTOL_CTOL : Fld := ⟨0, 16⟩
def STP_LPTR_AINC : Fld := ⟨9, 1⟩
def STP_LPTR_WORD : Fld := ⟨8, 1⟩
def STP_LPTR_ENTRY : Fld := ⟨0, 8⟩
def STP_RLV_RLTRIG : Fld := ⟨16, 16⟩
def STP_RLV_RLEND : Fld := ⟨0, 16⟩
def STP_LDATA_DATA : Fld := ⟨0, 32⟩
def STP_RLV2_RLMAX : Fld := ⟨16, 16⟩
def STP_RLV2_RLNF : Fld := ⟨8, 8⟩
def STP_LCHK_LAND : Fld := ⟨8, 8⟩
def STP_LCHK_CAUSE : Fld := ⟨0, 8⟩
def STP_RLVEL_RLVEL : Fld := ⟨0, 32⟩
def STP_CMD_RESUME : Fld := ⟨0, 1⟩
def STP_ENT_E3 : Fld := ⟨0, 32⟩
def STP_DREC_STATE : Fld := ⟨28, 4⟩
def BID_CFG_PDEF : Fld := ⟨16, 3⟩
def BID_CFG_CAR : Fld := ⟨8, 6⟩
def BID_CFG_EN : Fld := ⟨0, 1⟩
def BID_CALLIN_WORD : Fld := ⟨0, 32⟩
def BID_STAT_PQFULL : Fld := ⟨7, 1⟩
def BID_STAT_LATE : Fld := ⟨6, 1⟩
def BID_STAT_IDDUP : Fld := ⟨5, 1⟩
def BID_STAT_NOTICK : Fld := ⟨4, 1⟩
def BID_STAT_TFULL : Fld := ⟨3, 1⟩
def BID_STAT_DUPCAR : Fld := ⟨2, 1⟩
def BID_STAT_ALONE : Fld := ⟨1, 1⟩
def BID_STAT_ELIG : Fld := ⟨0, 1⟩
def BID_OCC_PQ : Fld := ⟨8, 8⟩
def BID_OCC_OPEN : Fld := ⟨0, 8⟩
def BID_TIME_TICKTO : Fld := ⟨16, 16⟩
def BID_TIME_BIDDLY : Fld := ⟨0, 16⟩
def BID_PRES_LO_MAP : Fld := ⟨0, 32⟩
def BID_COST1_TOVH : Fld := ⟨16, 16⟩
def BID_COST1_TDOOR : Fld := ⟨0, 16⟩
def BID_PRES_HI_MAP : Fld := ⟨0, 32⟩
def BID_COST2_TLONG : Fld := ⟨16, 16⟩
def BID_COST2_CAPAX : Fld := ⟨8, 8⟩
def BID_COST2_WPW : Fld := ⟨0, 8⟩
def BID_WON_COUNT : Fld := ⟨0, 32⟩
def BID_ENRG_WE : Fld := ⟨0, 16⟩
def BID_LOST_COUNT : Fld := ⟨0, 32⟩
def BID_EUP_E : Fld := ⟨0, 32⟩
def BID_LATE_COUNT : Fld := ⟨0, 32⟩
def BID_EDN_E : Fld := ⟨0, 32⟩
def BID_BLATE_COUNT : Fld := ⟨0, 32⟩
def BID_RALL_RBMAX : Fld := ⟨24, 8⟩
def BID_RALL_RBHOLD : Fld := ⟨16, 8⟩
def BID_RALL_RMARG : Fld := ⟨0, 16⟩
def BID_REALL_OUT : Fld := ⟨16, 16⟩
def BID_REALL_IN : Fld := ⟨0, 16⟩
def BID_ALIVE_ABSN : Fld := ⟨24, 8⟩
def BID_ALIVE_HDELTA : Fld := ⟨16, 8⟩
def BID_ALIVE_TSTAT : Fld := ⟨0, 16⟩
def BID_CMD_DUPCLR : Fld := ⟨0, 1⟩
def BID_CALL_VAL : Fld := ⟨0, 32⟩
def HDL_CFG_EN : Fld := ⟨0, 1⟩
def HDL_DSTOP_VAL : Fld := ⟨0, 32⟩
def HDL_STAT_SPOSERR : Fld := ⟨22, 1⟩
def HDL_STAT_ZDIS : Fld := ⟨21, 1⟩
def HDL_STAT_TRFB : Fld := ⟨12, 9⟩
def HDL_STAT_GSIMG : Fld := ⟨8, 4⟩
def HDL_STAT_NMISS : Fld := ⟨7, 1⟩
def HDL_STAT_INHIBIT : Fld := ⟨6, 1⟩
def HDL_STAT_LOCKED : Fld := ⟨5, 1⟩
def HDL_STAT_OUTSIDE : Fld := ⟨4, 1⟩
def HDL_STAT_CFGBAD : Fld := ⟨3, 1⟩
def HDL_STAT_GSTATE : Fld := ⟨0, 3⟩
def HDL_DEMG_VAL : Fld := ⟨0, 32⟩
def HDL_CMD_TRIPCLR : Fld := ⟨0, 1⟩
def HDL_GTERM_GTERM : Fld := ⟨0, 32⟩
def HDL_AGRD_AGRD : Fld := ⟨0, 32⟩
def HDL_VLIM_VLIM : Fld := ⟨0, 32⟩
def HDL_AEMG_AEMG : Fld := ⟨0, 32⟩
def HDL_PREF_PREF : Fld := ⟨0, 32⟩
def HDL_TIME_TEMG : Fld := ⟨16, 16⟩
def HDL_TIME_TRCT : Fld := ⟨0, 16⟩
def HDL_PERM_ZINST : Fld := ⟨8, 1⟩
def HDL_PERM_ZPOS : Fld := ⟨4, 4⟩
def HDL_PERM_PERM : Fld := ⟨0, 4⟩
def HDL_MARGIN_MARGIN : Fld := ⟨0, 32⟩
def HDL_CCHK_INDEX : Fld := ⟨8, 8⟩
def HDL_CCHK_CAUSE : Fld := ⟨0, 8⟩
def HDL_TERMHI_TERMHI : Fld := ⟨0, 32⟩
def HDL_ESC_SCNT : Fld := ⟨8, 8⟩
def HDL_ESC_SRC : Fld := ⟨0, 2⟩
def HDL_TERMLO_TERMHI : Fld := ⟨0, 32⟩
def HDL_OVP_POS : Fld := ⟨0, 32⟩
def HDL_ESCCFG_SHN : Fld := ⟨16, 8⟩
def HDL_ESCCFG_SHRTOL : Fld := ⟨0, 16⟩
def HDL_OVV_VUP : Fld := ⟨16, 16⟩
def HDL_OVV_VDN : Fld := ⟨0, 16⟩
def HDL_OVCFG_OVN : Fld := ⟨16, 5⟩
def HDL_OVCFG_NOVS : Fld := ⟨8, 5⟩
def HDL_OVCFG_OVT : Fld := ⟨0, 8⟩
def HDL_SHCFG_IMGTRIP : Fld := ⟨16, 16⟩
def HDL_SHCFG_IMGMISS : Fld := ⟨8, 8⟩
def HDL_SHCFG_SPOS : Fld := ⟨0, 1⟩
def HDL_ZWIN_ZWIN : Fld := ⟨0, 32⟩
def HDL_TOP_VAL : Fld := ⟨0, 32⟩
def HDL_RLV_RLVMAX : Fld := ⟨0, 32⟩
def HDL_BOT_VAL : Fld := ⟨0, 32⟩
def HDL_DLMASK_MASK : Fld := ⟨0, 32⟩
def HDL_SEP_SEP : Fld := ⟨0, 32⟩
def HDL_DLPOL_POL : Fld := ⟨0, 32⟩
def HDL_SGAP_SGAP : Fld := ⟨0, 32⟩
def HDL_ZIN_ZDN : Fld := ⟨8, 8⟩
def HDL_ZIN_EN : Fld := ⟨7, 1⟩
def HDL_ZIN_POL : Fld := ⟨5, 1⟩
def HDL_ZIN_IN : Fld := ⟨0, 5⟩
def HDL_SOFS_SOFS : Fld := ⟨0, 32⟩
def HDL_VG_VG : Fld := ⟨0, 32⟩
def HDL_NPOS_VAL : Fld := ⟨0, 32⟩
def HDL_NVG_VAL : Fld := ⟨0, 32⟩
def HDL_NDSTOP_VAL : Fld := ⟨0, 32⟩
def HDL_GSHAFT_VAL : Fld := ⟨0, 32⟩
def HDL_GTRIP_VAL : Fld := ⟨0, 32⟩
def HDL_NSTAT_MISS : Fld := ⟨16, 16⟩
def HDL_NSTAT_NFLAGS : Fld := ⟨8, 8⟩
def HDL_NSTAT_NVALID : Fld := ⟨0, 1⟩
def FIO_STAT_ARMREF : Fld := ⟨9, 1⟩
def FIO_STAT_STALEANY : Fld := ⟨8, 1⟩
def FIO_STAT_EOVF : Fld := ⟨7, 1⟩
def FIO_STAT_TAPD : Fld := ⟨6, 1⟩
def FIO_STAT_SAFEACT : Fld := ⟨5, 1⟩
def FIO_STAT_SILENT : Fld := ⟨4, 1⟩
def FIO_STAT_FLOST : Fld := ⟨3, 1⟩
def FIO_STAT_UVF : Fld := ⟨2, 1⟩
def FIO_STAT_UVW : Fld := ⟨1, 1⟩
def FIO_STAT_FAULT : Fld := ⟨0, 1⟩
def FIO_EOCC_OCC0 : Fld := ⟨0, 7⟩
def FIO_EOCC_OCC1 : Fld := ⟨8, 7⟩
def FIO_EOCC_OCC2 : Fld := ⟨16, 7⟩
def FIO_EOCC_OCC3 : Fld := ⟨24, 7⟩
def FIO_IN_IN : Fld := ⟨0, 32⟩
def FIO_EOVF01_HI : Fld := ⟨16, 16⟩
def FIO_EOVF01_LO : Fld := ⟨0, 16⟩
def FIO_INRAW_RAW : Fld := ⟨0, 32⟩
def FIO_EOVF23_HI : Fld := ⟨16, 16⟩
def FIO_EOVF23_LO : Fld := ⟨0, 16⟩
def FIO_TAP_DISC : Fld := ⟨24, 8⟩
def FIO_TAP_TB : Fld := ⟨16, 8⟩
def FIO_TAP_TA : Fld := ⟨8, 8⟩
def FIO_OCMD_DEMB : Fld := ⟨16, 2⟩
def FIO_OCMD_DRV : Fld := ⟨0, 16⟩
def FIO_DEB_DEB0 : Fld := ⟨0, 8⟩
def FIO_DEB_DEB1 : Fld := ⟨8, 8⟩
def FIO_DEB_DEB2 : Fld := ⟨16, 8⟩
def FIO_DEB_DEB3 : Fld := ⟨24, 8⟩
def FIO_ORB_SRB : Fld := ⟨16, 4⟩
def FIO_ORB_RB : Fld := ⟨0, 16⟩
def FIO_STLEN_EN : Fld := ⟨0, 32⟩
def FIO_OWN_OWN : Fld := ⟨0, 18⟩
def FIO_STLT_TG0 : Fld := ⟨0, 8⟩
def FIO_STLT_TG1 : Fld := ⟨8, 8⟩
def FIO_STLT_TG2 : Fld := ⟨16, 8⟩
def FIO_STLT_TG3 : Fld := ⟨24, 8⟩
def FIO_PAR_PAR0 : Fld := ⟨0, 2⟩
def FIO_PAR_PAR1 : Fld := ⟨2, 2⟩
def FIO_PAR_PAR2 : Fld := ⟨4, 2⟩
def FIO_PAR_PAR3 : Fld := ⟨6, 2⟩
def FIO_STALE_FLAG : Fld := ⟨0, 32⟩
def FIO_SAFE_SAFE : Fld := ⟨0, 16⟩
def FIO_TAPCFG_DISCT : Fld := ⟨0, 8⟩
def FIO_OCFG_ORBT : Fld := ⟨8, 8⟩
def FIO_OCFG_SILN : Fld := ⟨0, 8⟩
def FIO_EFL_VAL : Fld := ⟨0, 32⟩
def FIO_HCMD_CMD : Fld := ⟨0, 18⟩
def FIO_EFH_FR : Fld := ⟨0, 32⟩
def FIO_SCMD_ARMB : Fld := ⟨0, 2⟩
def FIO_SSTAT_CLAIM : Fld := ⟨12, 4⟩
def FIO_SSTAT_GUARD : Fld := ⟨8, 4⟩
def FIO_SSTAT_COND : Fld := ⟨4, 4⟩
def FIO_SSTAT_ARM : Fld := ⟨0, 4⟩
def FIO_VF24_V : Fld := ⟨0, 16⟩
def NRG_CFG_TACC : Fld := ⟨24, 8⟩
def NRG_CFG_BSRC : Fld := ⟨17, 1⟩
def NRG_CFG_ACCM : Fld := ⟨16, 1⟩
def NRG_CFG_CHEN : Fld := ⟨8, 8⟩
def NRG_CFG_NPH : Fld := ⟨4, 2⟩
def NRG_CFG_FNOM : Fld := ⟨0, 1⟩
def NRG_EVTH2_HYS : Fld := ⟨16, 16⟩
def NRG_EVTH2_INTTH : Fld := ⟨0, 16⟩
def NRG_STAT_STK : Fld := ⟨24, 8⟩
def NRG_STAT_CLIP : Fld := ⟨16, 8⟩
def NRG_STAT_CKLOST : Fld := ⟨9, 1⟩
def NRG_STAT_RESTORED : Fld := ⟨8, 1⟩
def NRG_STAT_PLSOVF : Fld := ⟨7, 1⟩
def NRG_STAT_LOST : Fld := ⟨6, 1⟩
def NRG_STAT_NOSYNC : Fld := ⟨5, 1⟩
def NRG_STAT_INT : Fld := ⟨4, 1⟩
def NRG_STAT_SWELL : Fld := ⟨3, 1⟩
def NRG_STAT_DIP : Fld := ⟨2, 1⟩
def NRG_STAT_FLAG : Fld := ⟨1, 1⟩
def NRG_STAT_ACTIVE : Fld := ⟨0, 1⟩
def NRG_EVSTART_S : Fld := ⟨0, 32⟩
def NRG_CMD_CLR : Fld := ⟨0, 1⟩
def NRG_EVDUR_DUR : Fld := ⟨0, 32⟩
def NRG_SDCFG_SDSMP : Fld := ⟨0, 4⟩
def NRG_EVEXT_CH : Fld := ⟨24, 2⟩
def NRG_EVEXT_EXT : Fld := ⟨0, 24⟩
def NRG_GAIN_GAIN : Fld := ⟨0, 32⟩
def NRG_EVCNT_COUNT : Fld := ⟨0, 16⟩
def NRG_OFS_OFS : Fld := ⟨0, 32⟩
def NRG_PCFG_PW : Fld := ⟨16, 8⟩
def NRG_PCFG_PSRC : Fld := ⟨0, 4⟩
def NRG_INST_X : Fld := ⟨0, 32⟩
def NRG_PEPP_EPP : Fld := ⟨0, 32⟩
def NRG_PLINE_P : Fld := ⟨0, 32⟩
def NRG_PSTAT_PEND : Fld := ⟨8, 8⟩
def NRG_PSTAT_LVL : Fld := ⟨0, 1⟩
def NRG_PDCL_P : Fld := ⟨0, 32⟩
def NRG_LOST_COUNT : Fld := ⟨0, 32⟩
def NRG_FREQ_FREQ : Fld := ⟨0, 16⟩
def NRG_CKFRM_FRAME : Fld := ⟨0, 32⟩
def NRG_HCFRM_FRAME : Fld := ⟨0, 32⟩
def NRG_PUBFRM_FRAME : Fld := ⟨0, 32⟩
def NRG_URMS_RMS : Fld := ⟨0, 32⟩
def NRG_SNAP_LO_VAL : Fld := ⟨0, 32⟩
def NRG_SNAP_HI_VAL : Fld := ⟨0, 32⟩
def NRG_IRMS_RMS : Fld := ⟨0, 32⟩
def NRG_SWRAP0_ABS : Fld := ⟨24, 8⟩
def NRG_SWRAP0_EXP : Fld := ⟨16, 8⟩
def NRG_SWRAP0_IMP : Fld := ⟨8, 8⟩
def NRG_SWRAP0_NET : Fld := ⟨0, 8⟩
def NRG_SWRAP1_ABS : Fld := ⟨24, 8⟩
def NRG_SWRAP1_EXP : Fld := ⟨16, 8⟩
def NRG_SWRAP1_IMP : Fld := ⟨8, 8⟩
def NRG_SWRAP1_NET : Fld := ⟨0, 8⟩
def NRG_UDIN_UDIN : Fld := ⟨0, 32⟩
def NRG_SFRM_FRAME : Fld := ⟨0, 32⟩
def NRG_EVTH1_SWLTH : Fld := ⟨16, 16⟩
def NRG_EVTH1_DIPTH : Fld := ⟨0, 16⟩
def NRG_SNAPCTL_SNAP : Fld := ⟨0, 1⟩
def CAN_CFG_ALN : Fld := ⟨24, 8⟩
def CAN_CFG_BOAUTO : Fld := ⟨15, 1⟩
def CAN_CFG_MON : Fld := ⟨14, 1⟩
def CAN_CFG_WAKEM : Fld := ⟨12, 1⟩
def CAN_CFG_FDEN : Fld := ⟨3, 1⟩
def CAN_CFG_EN : Fld := ⟨0, 1⟩
def CAN_CFG_GRP : Fld := ⟨4, 1⟩
def CAN_RXSEL_OBJ : Fld := ⟨0, 7⟩
def CAN_STAT_CFGERR : Fld := ⟨17, 1⟩
def CAN_STAT_TDCSAT : Fld := ⟨16, 1⟩
def CAN_STAT_WAKEUP : Fld := ⟨15, 1⟩
def CAN_STAT_SLEEPING : Fld := ⟨14, 1⟩
def CAN_STAT_LOCKTO : Fld := ⟨13, 1⟩
def CAN_STAT_HPOVR : Fld := ⟨12, 1⟩
def CAN_STAT_RXQOVF : Fld := ⟨11, 1⟩
def CAN_STAT_TXQOVF : Fld := ⟨10, 1⟩
def CAN_STAT_OVR : Fld := ⟨9, 1⟩
def CAN_STAT_ALONE : Fld := ⟨8, 1⟩
def CAN_STAT_BOFF : Fld := ⟨7, 1⟩
def CAN_STAT_EPASS : Fld := ⟨6, 1⟩
def CAN_STAT_EWARN : Fld := ⟨5, 1⟩
def CAN_STAT_INTEG : Fld := ⟨4, 1⟩
def CAN_STAT_ACTIVE : Fld := ⟨0, 1⟩
def CAN_TXSEL_OBJ : Fld := ⟨0, 7⟩
def CAN_CMD_BORQ : Fld := ⟨2, 1⟩
def CAN_CMD_WAKE : Fld := ⟨1, 1⟩
def CAN_CMD_SLEEP : Fld := ⟨0, 1⟩
def CAN_TXCTL_CANCEL : Fld := ⟨1, 1⟩
def CAN_TXCTL_REQ : Fld := ⟨0, 1⟩
def CAN_NBT_NBRP : Fld := ⟨25, 6⟩
def CAN_NBT_NTSEG1 : Fld := ⟨16, 9⟩
def CAN_NBT_NTSEG2 : Fld := ⟨8, 8⟩
def CAN_NBT_NSJW : Fld := ⟨0, 8⟩
def CAN_CANST_RES : Fld := ⟨4, 3⟩
def CAN_CANST_NOTICK : Fld := ⟨3, 1⟩
def CAN_CANST_STATE : Fld := ⟨0, 3⟩
def CAN_DBT_DBRP : Fld := ⟨24, 6⟩
def CAN_DBT_DTSEG1 : Fld := ⟨16, 6⟩
def CAN_DBT_DTSEG2 : Fld := ⟨8, 5⟩
def CAN_DBT_DSJW : Fld := ⟨0, 5⟩
def CAN_QSTAT_POOLFREE : Fld := ⟨8, 8⟩
def CAN_QSTAT_RXOCC : Fld := ⟨0, 7⟩
def CAN_TDC_TDCEN : Fld := ⟨16, 1⟩
def CAN_TDC_TDCO : Fld := ⟨8, 7⟩
def CAN_TDC_TDCV : Fld := ⟨0, 7⟩
def CAN_QOVF_TX : Fld := ⟨16, 16⟩
def CAN_QOVF_RX : Fld := ⟨0, 16⟩
def CAN_ERR_CSTATE : Fld := ⟨16, 2⟩
def CAN_ERR_REC : Fld := ⟨8, 8⟩
def CAN_ERR_TEC : Fld := ⟨0, 8⟩
def CAN_PEND_MAP : Fld := ⟨0, 32⟩
def CAN_LEC_DLEC : Fld := ⟨4, 3⟩
def CAN_LEC_LEC : Fld := ⟨0, 3⟩
def CAN_NEW_MAP : Fld := ⟨0, 32⟩
def CAN_TS_TS : Fld := ⟨0, 32⟩
def CAN_RXD_VAL : Fld := ⟨0, 32⟩
def CAN_TSFE_TS : Fld := ⟨0, 32⟩
def CAN_TXD_VAL : Fld := ⟨0, 32⟩
def CAN_WAKEID_IDE : Fld := ⟨29, 1⟩
def CAN_WAKEID_ID : Fld := ⟨0, 29⟩
def CAN_HPD_VAL : Fld := ⟨0, 32⟩
def CAN_WAKEMASK_MASK : Fld := ⟨0, 29⟩
def CAN_OCFG_VAL : Fld := ⟨0, 32⟩
def CAN_HPID_IDE : Fld := ⟨29, 1⟩
def CAN_HPID_ID : Fld := ⟨0, 29⟩
def CAN_OID_VAL : Fld := ⟨0, 32⟩
def CAN_HPMASK_MASK : Fld := ⟨0, 29⟩
def CAN_HPSTAT_EN : Fld := ⟨1, 1⟩
def CAN_HPSTAT_FULL : Fld := ⟨0, 1⟩
def HLK_CFG_TAEXT : Fld := ⟨0, 8⟩
def HLK_STAT_HELD : Fld := ⟨8, 4⟩
def HLK_STAT_ADDR : Fld := ⟨0, 6⟩
def HLK_STAT_BULK : Fld := ⟨15, 1⟩
def HLK_STAT_SLOTON : Fld := ⟨14, 1⟩
def HLK_STAT_EPLOST : Fld := ⟨13, 1⟩
def HLK_EPNUM_EPNUM : Fld := ⟨0, 32⟩
def HLK_EPFRM_LO_FRM : Fld := ⟨0, 32⟩
def HLK_EPFRM_HI_FRM : Fld := ⟨0, 16⟩
def HLK_EPCYC_CYC : Fld := ⟨0, 16⟩
def HLK_SLOT_NSLOT : Fld := ⟨16, 16⟩
def HLK_SLOT_SLOTLEN : Fld := ⟨0, 16⟩
def HLK_ERRCNT_EPBAD : Fld := ⟨24, 8⟩
def HLK_ERRCNT_COLL : Fld := ⟨16, 8⟩
def HLK_ERRCNT_CRC : Fld := ⟨8, 8⟩
def HLK_ERRCNT_FRM : Fld := ⟨0, 8⟩
def HLK_SLOTMISS_COUNT : Fld := ⟨0, 32⟩
def PAIR_CFG_PALONE : Fld := ⟨24, 8⟩
def PAIR_CFG_PLMISS : Fld := ⟨16, 8⟩
def PAIR_CFG_GAPH : Fld := ⟨12, 2⟩
def PAIR_CFG_CN : Fld := ⟨8, 4⟩
def PAIR_LAST_FRAME : Fld := ⟨0, 32⟩
def PAIR_STAT_PEERCL : Fld := ⟨28, 4⟩
def PAIR_STAT_LINECL : Fld := ⟨24, 4⟩
def PAIR_STAT_SIDEERR : Fld := ⟨19, 1⟩
def PAIR_STAT_SHEAFDIF : Fld := ⟨18, 1⟩
def PAIR_STAT_DISCORD : Fld := ⟨17, 1⟩
def PAIR_STAT_POSDIF : Fld := ⟨16, 1⟩
def PAIR_STAT_NOTAKE : Fld := ⟨15, 1⟩
def PAIR_STAT_OVF : Fld := ⟨14, 1⟩
def PAIR_STAT_HANDED : Fld := ⟨13, 1⟩
def PAIR_STAT_TAKEN : Fld := ⟨12, 1⟩
def PAIR_STAT_LINKOK : Fld := ⟨11, 1⟩
def PAIR_STAT_LOCK : Fld := ⟨10, 1⟩
def PAIR_STAT_SYNC : Fld := ⟨9, 1⟩
def PAIR_STAT_YIELD : Fld := ⟨8, 1⟩
def PAIR_STAT_ALLOW : Fld := ⟨7, 1⟩
def PAIR_STAT_SIDE : Fld := ⟨6, 1⟩
def PAIR_STAT_ROLE : Fld := ⟨1, 3⟩
def PAIR_SYNCCNT_COUNT : Fld := ⟨0, 32⟩
def PAIR_CLAIM_CLAIM : Fld := ⟨12, 4⟩
def PAIR_CLAIM_PEN : Fld := ⟨8, 4⟩
def PAIR_CLAIM_ZCAUSE : Fld := ⟨0, 4⟩
def PAIR_SWEEP_PASSES : Fld := ⟨16, 16⟩
def PAIR_SWEEP_POS : Fld := ⟨0, 16⟩
def PAIR_SYNCCFG_SYNCMIN : Fld := ⟨16, 16⟩
def PAIR_SYNCCFG_PHT : Fld := ⟨0, 16⟩
def PAIR_IMG_CAP : Fld := ⟨16, 16⟩
def PAIR_IMG_NIMG : Fld := ⟨0, 16⟩
def PAIR_PTOL_PTOL : Fld := ⟨0, 32⟩
def PAIR_ERRCNT_CRC : Fld := ⟨24, 8⟩
def PAIR_ERRCNT_BMISS : Fld := ⟨16, 8⟩
def PAIR_ERRCNT_GAP : Fld := ⟨8, 8⟩
def PAIR_ERRCNT_OVF : Fld := ⟨0, 8⟩
def PAIR_CMD_RESYNC : Fld := ⟨1, 1⟩
def PAIR_CMD_HANDREQ : Fld := ⟨0, 1⟩
def PAIR_SWCNT_TAKES : Fld := ⟨16, 16⟩
def PAIR_SWCNT_HANDS : Fld := ⟨0, 16⟩
def PAIR_FOFS_LO_OFS : Fld := ⟨0, 32⟩
def PAIR_TAKE_FRAME : Fld := ⟨16, 16⟩
def PAIR_TAKE_PCL : Fld := ⟨8, 4⟩
def PAIR_TAKE_CAUSE : Fld := ⟨0, 4⟩
def PAIR_FOFS_HI_OFS : Fld := ⟨0, 32⟩
def FLT_STAT_ACTN : Fld := ⟨12, 5⟩
def FLT_STAT_ACLASS : Fld := ⟨10, 2⟩
def FLT_STAT_HCLASS : Fld := ⟨8, 2⟩
def FLT_STAT_HBUSY : Fld := ⟨7, 1⟩
def FLT_STAT_GOVF : Fld := ⟨3, 1⟩
def FLT_STAT_ACTOVF : Fld := ⟨2, 1⟩
def FLT_STAT_MULTI : Fld := ⟨1, 1⟩
def FLT_STAT_FVALID : Fld := ⟨0, 1⟩
def FLT_GCFG_GWIN : Fld := ⟨24, 8⟩
def FLT_GCFG_GEN : Fld := ⟨16, 1⟩
def FLT_GCFG_GMIN : Fld := ⟨14, 2⟩
def FLT_GCFG_HMAX : Fld := ⟨10, 4⟩
def FLT_GCFG_GID : Fld := ⟨0, 10⟩
def FLT_CMD_ACK : Fld := ⟨1, 1⟩
def FLT_CMD_REARM : Fld := ⟨0, 1⟩
def FLT_GMASK_MASK : Fld := ⟨0, 16⟩
def FLT_FIRST_CODE : Fld := ⟨24, 8⟩
def FLT_FIRST_SRC : Fld := ⟨16, 8⟩
def FLT_FIRST_CLASS : Fld := ⟨0, 2⟩
def FLT_GSTAT_GOFF : Fld := ⟨0, 1⟩
def FLT_FFRM_LO_FRM : Fld := ⟨0, 32⟩
def FLT_FFRM_HI_FRM : Fld := ⟨0, 16⟩
def FLT_GCNT_SENT : Fld := ⟨24, 8⟩
def FLT_GCNT_SUPP : Fld := ⟨16, 8⟩
def FLT_GCNT_HEARD : Fld := ⟨8, 8⟩
def FLT_GCNT_DROP : Fld := ⟨0, 8⟩
def FLT_LAST_CODE : Fld := ⟨24, 8⟩
def FLT_LAST_SRC : Fld := ⟨16, 8⟩
def FLT_LAST_CLASS : Fld := ⟨0, 2⟩
def FLT_ECCSTAT_UMEM : Fld := ⟨12, 4⟩
def FLT_ECCSTAT_CMEM : Fld := ⟨8, 4⟩
def FLT_ECCSTAT_UE : Fld := ⟨1, 1⟩
def FLT_ECCSTAT_CE : Fld := ⟨0, 1⟩
def FLT_LFRM_LO_FRM : Fld := ⟨0, 32⟩
def FLT_LFRM_HI_FRM : Fld := ⟨0, 16⟩
def FLT_ECCCADDR_ADDR : Fld := ⟨0, 32⟩
def FLT_ECCUADDR_ADDR : Fld := ⟨0, 32⟩
def FLT_COUNT_COUNT : Fld := ⟨0, 32⟩
def FLT_ECCCNT_UCOUNT : Fld := ⟨16, 16⟩
def FLT_ECCCNT_CCOUNT : Fld := ⟨0, 16⟩
def FLT_RCFG_SOPB : Fld := ⟨9, 1⟩
def FLT_RCFG_SOPA : Fld := ⟨8, 1⟩
def FLT_RCFG_SDLY : Fld := ⟨0, 8⟩
def FLT_SCRUB_PASSES : Fld := ⟨16, 16⟩
def FLT_SCRUB_POS : Fld := ⟨0, 16⟩
def FLT_ACT_CODE : Fld := ⟨24, 8⟩
def FLT_ACT_SRC : Fld := ⟨16, 8⟩
def FLT_ACT_CLASS : Fld := ⟨14, 2⟩
def FLT_ACT_HOLDS : Fld := ⟨13, 1⟩
def FLT_GTAB_KEY : Fld := ⟨16, 16⟩
def FLT_GTAB_STATE : Fld := ⟨13, 3⟩
def FLT_GTAB_OWN : Fld := ⟨4, 4⟩
def FLT_GTAB_HEARD : Fld := ⟨0, 4⟩
def REC_CFG_AINC : Fld := ⟨24, 1⟩
def REC_CFG_FLTH : Fld := ⟨16, 8⟩
def REC_CFG_TSTOL : Fld := ⟨0, 16⟩
def REC_WALL_LO_WALL : Fld := ⟨0, 32⟩
def REC_STAT_PFINC : Fld := ⟨11, 1⟩
def REC_STAT_SCANBAD : Fld := ⟨10, 1⟩
def REC_STAT_RINGERR : Fld := ⟨9, 1⟩
def REC_STAT_LOFTERR : Fld := ⟨8, 1⟩
def REC_STAT_DROP : Fld := ⟨7, 1⟩
def REC_STAT_TSTEP : Fld := ⟨6, 1⟩
def REC_STAT_PFMODE : Fld := ⟨5, 1⟩
def REC_STAT_FLUSHING : Fld := ⟨4, 1⟩
def REC_STAT_VOLONLY : Fld := ⟨3, 1⟩
def REC_STAT_SHRINK : Fld := ⟨2, 1⟩
def REC_STAT_WTV : Fld := ⟨1, 1⟩
def REC_STAT_READY : Fld := ⟨0, 1⟩
def REC_WALL_HI_WALL : Fld := ⟨0, 16⟩
def REC_CMD_CLEAR : Fld := ⟨1, 1⟩
def REC_CMD_FLUSH : Fld := ⟨0, 1⟩
def REC_LOFT_SPARE : Fld := ⟨16, 8⟩
def REC_LOFT_RBLK : Fld := ⟨0, 16⟩
def REC_SEQ_SEQ : Fld := ⟨0, 32⟩
def REC_DROPCNT_COUNT : Fld := ⟨0, 32⟩
def REC_OLD_SEQ : Fld := ⟨0, 32⟩
def REC_BADCNT_FAIL : Fld := ⟨16, 16⟩
def REC_BADCNT_BAD : Fld := ⟨0, 16⟩
def REC_UNFL_RING : Fld := ⟨16, 13⟩
def REC_UNFL_UNFL : Fld := ⟨0, 7⟩
def REC_FLFRM_FRAME : Fld := ⟨0, 32⟩
def REC_GEN_GEN : Fld := ⟨0, 16⟩
def REC_WEAR_COUNT : Fld := ⟨0, 32⟩
def REC_CUR_CUR : Fld := ⟨0, 32⟩
def REC_WIN_VAL : Fld := ⟨0, 32⟩
def REC_WSTAT_ERR : Fld := ⟨2, 1⟩
def REC_WSTAT_SKIP : Fld := ⟨1, 1⟩
def REC_WSTAT_EMPTY : Fld := ⟨0, 1⟩
def PWR_MSTATE_RES : Fld := ⟨28, 4⟩
def PWR_MSTATE_REASON : Fld := ⟨24, 4⟩
def PWR_MSTATE_CAUSE : Fld := ⟨16, 8⟩
def PWR_MSTATE_PREV : Fld := ⟨8, 4⟩
def PWR_MSTATE_STATE : Fld := ⟨0, 4⟩
def PWR_MCMD_KEY : Fld := ⟨8, 8⟩
def PWR_MCMD_CMD : Fld := ⟨0, 8⟩
def PWR_RSTSRC_COUNT : Fld := ⟨8, 8⟩
def PWR_RSTSRC_SRC : Fld := ⟨0, 3⟩
def PWR_SUP_HI : Fld := ⟨12, 3⟩
def PWR_SUP_LO : Fld := ⟨8, 3⟩
def PWR_SUP_PFPIN : Fld := ⟨4, 1⟩
def PWR_SUP_PFW : Fld := ⟨3, 1⟩
def PWR_SUP_OK : Fld := ⟨0, 3⟩
def CLK_STAT_LOCKT : Fld := ⟨8, 8⟩
def CLK_STAT_LOCK : Fld := ⟨1, 1⟩
def CLK_STAT_XOK : Fld := ⟨0, 1⟩
def PWR_STORE_SRES : Fld := ⟨20, 4⟩
def PWR_STORE_BUSY : Fld := ⟨16, 1⟩
def PWR_STORE_AUTORDY : Fld := ⟨9, 1⟩
def PWR_STORE_BOOT : Fld := ⟨8, 1⟩
def PWR_STORE_SRC : Fld := ⟨4, 1⟩
def PWR_STORE_SLOT : Fld := ⟨0, 1⟩
def PWR_BOOT_BCAUSE : Fld := ⟨16, 8⟩
def PWR_BOOT_NONE : Fld := ⟨10, 1⟩
def PWR_BOOT_FALLBK : Fld := ⟨9, 1⟩
def PWR_BOOT_LOADED : Fld := ⟨8, 1⟩
def PWR_BOOT_AR1 : Fld := ⟨4, 1⟩
def PWR_BOOT_AR0 : Fld := ⟨3, 1⟩
def PWR_BOOT_V1 : Fld := ⟨2, 1⟩
def PWR_BOOT_V0 : Fld := ⟨1, 1⟩
def PWR_BOOT_PREF : Fld := ⟨0, 1⟩
def PWR_SLOT_CRC : Fld := ⟨0, 32⟩
def HIF_UNITS_VAR : Fld := ⟨28, 4⟩
def HIF_UNITS_STEP : Fld := ⟨24, 4⟩
def HIF_UNITS_AXMAP : Fld := ⟨16, 6⟩
def HIF_UNITS_FIO : Fld := ⟨9, 1⟩
def HIF_UNITS_PAIR : Fld := ⟨8, 1⟩
def HIF_UNITS_CANB : Fld := ⟨7, 1⟩
def HIF_UNITS_CANA : Fld := ⟨6, 1⟩
def HIF_UNITS_DOR : Fld := ⟨5, 1⟩
def HIF_UNITS_STP : Fld := ⟨4, 1⟩
def HIF_UNITS_NRG : Fld := ⟨3, 1⟩
def HIF_UNITS_SHSH : Fld := ⟨2, 1⟩
def HIF_UNITS_HDL : Fld := ⟨1, 1⟩
def HIF_UNITS_BID : Fld := ⟨0, 1⟩
def HIF_VIOL_ADDR_ADDR : Fld := ⟨0, 32⟩
def HIF_VIOL_INFO_FRAME : Fld := ⟨16, 16⟩
def HIF_VIOL_INFO_WR : Fld := ⟨5, 1⟩
def HIF_VIOL_INFO_KIND : Fld := ⟨4, 1⟩
def HIF_VIOL_INFO_SRC : Fld := ⟨0, 3⟩
def HIF_VIOL_CODE_CODE : Fld := ⟨0, 32⟩
def HIF_VIOL_CNT_COUNT : Fld := ⟨0, 32⟩
def CRC_CFG_PRESET : Fld := ⟨12, 3⟩
def CRC_CFG_REFOUT : Fld := ⟨9, 1⟩
def CRC_CFG_REFIN : Fld := ⟨8, 1⟩
def CRC_CFG_W : Fld := ⟨0, 6⟩
def CRC_POLY_VAL : Fld := ⟨0, 32⟩
def CRC_INIT_VAL : Fld := ⟨0, 32⟩
def CRC_XOR_VAL : Fld := ⟨0, 32⟩
def CRC_CTL_NB : Fld := ⟨4, 2⟩
def CRC_CTL_ABORT : Fld := ⟨3, 1⟩
def CRC_CTL_CLOSE : Fld := ⟨2, 1⟩
def CRC_CTL_OPEN : Fld := ⟨1, 1⟩
def CRC_CTL_START : Fld := ⟨0, 1⟩
def CRC_ADDR_VAL : Fld := ⟨0, 32⟩
def CRC_LEN_VAL : Fld := ⟨0, 32⟩
def CRC_DATA_VAL : Fld := ⟨0, 32⟩
def CRC_RES_RES : Fld := ⟨0, 32⟩
def CRC_STAT_MERR : Fld := ⟨4, 1⟩
def CRC_STAT_REF : Fld := ⟨3, 1⟩
def CRC_STAT_DONE : Fld := ⟨2, 1⟩
def CRC_STAT_FEED : Fld := ⟨1, 1⟩
def CRC_STAT_BUSY : Fld := ⟨0, 1⟩
def CRC_CNT_COUNT : Fld := ⟨0, 32⟩
def PRF_GMAP_GRP : Fld := ⟨2, 10⟩
def PRF_BUSY_BUSY : Fld := ⟨0, 6⟩
def DOR_SUM_D1 : Fld := ⟨0, 4⟩
def DOR_SUM_D2 : Fld := ⟨4, 4⟩
def DOR_SUM_D3 : Fld := ⟨8, 4⟩
def DOR_SUM_D4 : Fld := ⟨12, 4⟩
def INT_SUM_SUM : Fld := ⟨0, 16⟩
def INT_CFG_GEN : Fld := ⟨0, 1⟩
def INT_CAUSE_CAUSE : Fld := ⟨0, 8⟩
def INT_EN_EN : Fld := ⟨0, 8⟩

end Fl

/-- Registers of the HIF page. -/
def rowsHIF : List RegRow :=
  [⟨0x004, 4, 1, 0, 99, [fr 28 4 .ro 0, fr 24 4 .ro 1, fr 16 6 .ro 0, fr 9 1 .ro 1, fr 8 1 .ro 1, fr 7 1 .ro 1, fr 6 1 .ro 1, fr 5 1 .ro 1, fr 4 1 .ro 0, fr 3 1 .ro 0, fr 2 1 .ro 0, fr 1 1 .ro 0, fr 0 1 .ro 0]⟩,
   ⟨0x020, 4, 1, 0, 99, [fr 0 32 .ro 0]⟩,
   ⟨0x024, 4, 1, 0, 99, [fr 16 16 .ro 0, fr 5 1 .ro 0, fr 4 1 .ro 0, fr 0 3 .ro 0]⟩,
   ⟨0x028, 4, 1, 0, 99, [fr 0 32 .ro 0]⟩,
   ⟨0x02C, 4, 1, 0, 99, [fr 0 32 .rc 0]⟩]

/-- Registers of the PWR page. -/
def rowsPWR : List RegRow :=
  [⟨0x000, 4, 1, 0, 99, [fr 28 4 .ro 0, fr 24 4 .ro 0, fr 16 8 .ro 0, fr 8 4 .ro 0, fr 0 4 .ro 0]⟩,
   ⟨0x004, 4, 1, 0, 99, [fr 8 8 .rwf 0, fr 0 8 .rwf 0]⟩,
   ⟨0x008, 4, 1, 0, 99, [fr 8 8 .ro 0, fr 0 3 .ro 0]⟩,
   ⟨0x00C, 4, 1, 0, 99, [fr 12 3 .w1c 0, fr 8 3 .w1c 0, fr 4 1 .ro 0, fr 3 1 .ro 0, fr 0 3 .ro 7]⟩,
   ⟨0x010, 4, 1, 0, 99, [fr 8 8 .ro 0, fr 1 1 .ro 1, fr 0 1 .ro 1]⟩,
   ⟨0x014, 4, 1, 0, 99, [fr 20 4 .ro 0, fr 16 1 .ro 0, fr 9 1 .rw 0, fr 8 1 .rw 0, fr 4 1 .rw 0, fr 0 1 .rw 0]⟩,
   ⟨0x018, 4, 1, 0, 99, [fr 16 8 .ro 0, fr 10 1 .ro 0, fr 9 1 .ro 0, fr 8 1 .ro 0, fr 4 1 .ro 0, fr 3 1 .ro 0, fr 2 1 .ro 0, fr 1 1 .ro 0, fr 0 1 .ro 0]⟩,
   ⟨0x01C, 4, 2, 0, 99, [fr 0 32 .ro 0]⟩]

/-- Registers of the SCH page, part 1. -/
def rowsSCH_1 : List RegRow :=
  [⟨0x004, 4, 1, 0, 99, [fr 7 1 .w1c 0, fr 6 1 .w1c 0, fr 5 1 .ro 0, fr 4 1 .ro 0, fr 0 4 .ro 0xf]⟩,
   ⟨0x008, 4, 1, 0, 99, [fr 0 32 .ro 0]⟩,
   ⟨0x00C, 4, 1, 0, 99, [fr 0 16 .ro 0]⟩,
   ⟨0x010, 4, 1, 0, 99, [fr 16 2 .ro 1, fr 0 16 .ro 0x30d4]⟩,
   ⟨0x014, 4, 1, 0, 99, [fr 16 16 .ro 0, fr 0 16 .ro 0]⟩,
   ⟨0x018, 4, 1, 0, 99, [fr 16 16 .ro 0, fr 0 16 .ro 0]⟩,
   ⟨0x020, 4, 1, 0, 99, [fr 8 8 .ro 0, fr 7 1 .w1c 0, fr 6 1 .w1c 0, fr 5 1 .ro 0, fr 4 1 .ro 0, fr 3 1 .ro 0, fr 2 1 .wo 0, fr 1 1 .wo 0, fr 0 1 .ro 0]⟩,
   ⟨0x024, 4, 1, 0, 99, [fr 16 16 .ro 0xffff, fr 9 2 .ro 0, fr 8 1 .ro 0, fr 0 8 .ro 0]⟩,
   ⟨0x030, 4, 1, 0, 99, [fr 0 32 .ro 0]⟩,
   ⟨0x034, 4, 1, 0, 99, [fr 0 32 .ro 0]⟩,
   ⟨0x040, 4, 1, 0, 99, [fr 0 32 .ro 0]⟩,
   ⟨0x044, 4, 1, 0, 99, [fr 16 2 .ro 0, fr 0 16 .ro 0xffff]⟩,
   ⟨0x048, 4, 1, 0, 99, [fr 0 32 .rc 0]⟩,
   ⟨0x04C, 4, 1, 0, 99, [fr 0 32 .rc 0]⟩,
   ⟨0x050, 4, 1, 0, 99, [fr 0 32 .rc 0]⟩,
   ⟨0x054, 4, 1, 0, 99, [fr 0 32 .ro 0]⟩,
   ⟨0x058, 4, 1, 0, 99, [fr 0 32 .ro 0]⟩,
   ⟨0x060, 4, 1, 0, 99, [fr 0 7 .ro 0]⟩,
   ⟨0x064, 4, 1, 0, 99, [fr 0 32 .rc 0]⟩,
   ⟨0x068, 4, 1, 0, 99, [fr 0 32 .ro 0]⟩]

/-- Registers of the SCH page, part 2. -/
def rowsSCH_2 : List RegRow :=
  [⟨0x070, 4, 1, 0, 99, [fr 16 16 .rw 0, fr 0 16 .rw 0]⟩,
   ⟨0x074, 4, 1, 0, 99, [fr 16 16 .rw 0, fr 0 16 .rw 0]⟩,
   ⟨0x078, 4, 1, 0, 99, [fr 4 4 .ro 0, fr 3 1 .w1c 0, fr 2 1 .w1c 0, fr 1 1 .ro 0, fr 0 1 .wo 0]⟩]

/-- All registers of the SCH page. -/
def rowsSCH : List RegRow := rowsSCH_1 ++ rowsSCH_2

/-- Registers of the INT page. -/
def rowsINT : List RegRow :=
  [⟨0x000, 4, 1, 0, 99, [fr 0 16 .ro 0]⟩,
   ⟨0x004, 4, 1, 0, 99, [fr 0 1 .rw 0]⟩,
   ⟨0x040, 4, 16, 0, 99, [fr 0 8 .w1c 0]⟩,
   ⟨0x080, 4, 16, 0, 99, [fr 0 8 .rw 0]⟩]

/-- Registers of the FLT page, part 1. -/
def rowsFLT_1 : List RegRow :=
  [⟨0x000, 4, 1, 0, 99, [fr 12 5 .ro 0, fr 10 2 .ro 0, fr 8 2 .ro 0, fr 7 1 .ro 0, fr 3 1 .w1c 0, fr 2 1 .w1c 0, fr 1 1 .ro 0, fr 0 1 .ro 0]⟩,
   ⟨0x028, 4, 1, 0, 99, [fr 24 8 .rwf 0xa true [(2, 200)], fr 16 1 .rwf 0 true, fr 14 2 .rwf 1 true, fr 10 4 .rwf 0xf true, fr 0 10 .rwf 0 true]⟩,
   ⟨0x004, 4, 1, 0, 99, [fr 1 1 .rw 0, fr 0 1 .rw 0]⟩,
   ⟨0x02C, 4, 1, 0, 99, [fr 0 16 .rwf 0xfffe true]⟩,
   ⟨0x008, 4, 1, 0, 99, [fr 24 8 .ro 0, fr 16 8 .ro 0, fr 0 2 .ro 0]⟩,
   ⟨0x030, 4, 1, 0, 99, [fr 0 1 .ro 0]⟩,
   ⟨0x00C, 4, 1, 0, 99, [fr 0 32 .ro 0]⟩,
   ⟨0x010, 4, 1, 0, 99, [fr 0 16 .ro 0]⟩,
   ⟨0x034, 4, 1, 0, 99, [fr 24 8 .rc 0, fr 16 8 .rc 0, fr 8 8 .rc 0, fr 0 8 .rc 0]⟩,
   ⟨0x014, 4, 1, 0, 99, [fr 24 8 .ro 0, fr 16 8 .ro 0, fr 0 2 .ro 0]⟩,
   ⟨0x040, 4, 1, 0, 99, [fr 12 4 .ro 0, fr 8 4 .ro 0, fr 1 1 .w1c 0, fr 0 1 .w1c 0]⟩,
   ⟨0x018, 4, 1, 0, 99, [fr 0 32 .ro 0]⟩,
   ⟨0x01C, 4, 1, 0, 99, [fr 0 16 .ro 0]⟩,
   ⟨0x044, 4, 1, 0, 99, [fr 0 32 .ro 0]⟩,
   ⟨0x048, 4, 1, 0, 99, [fr 0 32 .ro 0]⟩,
   ⟨0x020, 4, 1, 0, 99, [fr 0 32 .ro 0]⟩,
   ⟨0x04C, 4, 1, 0, 99, [fr 16 16 .rc 0, fr 0 16 .rc 0]⟩,
   ⟨0x024, 4, 1, 0, 99, [fr 9 1 .rwf 1 true, fr 8 1 .rwf 1 true, fr 0 8 .rwf 0xc8 true]⟩,
   ⟨0x050, 4, 1, 0, 99, [fr 16 16 .ro 0, fr 0 16 .ro 0]⟩,
   ⟨0x080, 4, 16, 0, 99, [fr 24 8 .ro 0, fr 16 8 .ro 0, fr 14 2 .ro 0, fr 13 1 .ro 0]⟩]

/-- Registers of the FLT page, part 2. -/
def rowsFLT_2 : List RegRow :=
  [⟨0x100, 4, 16, 0, 99, [fr 16 16 .ro 0, fr 13 3 .ro 0, fr 4 4 .ro 0, fr 0 4 .ro 0]⟩]

/-- All registers of the FLT page. -/
def rowsFLT : List RegRow := rowsFLT_1 ++ rowsFLT_2

/-- Registers of the CRC page. -/
def rowsCRC : List RegRow :=
  [⟨0x000, 4, 1, 0, 99, [fr 12 3 .rw 0 false [(0, 4)], fr 9 1 .rw 0, fr 8 1 .rw 0, fr 0 6 .rw 0x20 false [(3, 32)]]⟩,
   ⟨0x004, 4, 1, 0, 99, [fr 0 32 .rw 0]⟩,
   ⟨0x008, 4, 1, 0, 99, [fr 0 32 .rw 0]⟩,
   ⟨0x00C, 4, 1, 0, 99, [fr 0 32 .rw 0]⟩,
   ⟨0x010, 4, 1, 0, 99, [fr 4 2 .rw 0, fr 3 1 .rw 0, fr 2 1 .rw 0, fr 1 1 .rw 0, fr 0 1 .rw 0]⟩,
   ⟨0x014, 4, 1, 0, 99, [fr 0 32 .rw 0]⟩,
   ⟨0x018, 4, 1, 0, 99, [fr 0 32 .rw 0]⟩,
   ⟨0x01C, 4, 1, 0, 99, [fr 0 32 .wo 0]⟩,
   ⟨0x020, 4, 1, 0, 99, [fr 0 32 .ro 0]⟩,
   ⟨0x024, 4, 1, 0, 99, [fr 4 1 .w1c 0, fr 3 1 .w1c 0, fr 2 1 .w1c 0, fr 1 1 .ro 0, fr 0 1 .ro 0]⟩,
   ⟨0x028, 4, 1, 0, 99, [fr 0 32 .ro 0]⟩]

/-- Registers of the REC page. -/
def rowsREC : List RegRow :=
  [⟨0x000, 4, 1, 0, 99, [fr 24 1 .rwf 0, fr 16 8 .rwf 0x20 false [(8, 63)], fr 0 16 .rwf 0x32 false [(0, 1000)]]⟩,
   ⟨0x024, 4, 1, 0, 99, [fr 0 32 .rw 0]⟩,
   ⟨0x004, 4, 1, 0, 99, [fr 11 1 .w1c 0, fr 10 1 .w1c 0, fr 9 1 .w1c 0, fr 8 1 .w1c 0, fr 7 1 .w1c 0, fr 6 1 .w1c 0, fr 5 1 .ro 0, fr 4 1 .ro 0, fr 3 1 .ro 0, fr 2 1 .ro 0, fr 1 1 .ro 0, fr 0 1 .ro 0]⟩,
   ⟨0x028, 4, 1, 0, 99, [fr 0 16 .rw 0]⟩,
   ⟨0x008, 4, 1, 0, 99, [fr 1 1 .rw 0, fr 0 1 .rw 0]⟩,
   ⟨0x02C, 4, 1, 0, 99, [fr 16 8 .ro 0x40, fr 0 16 .ro 0x3ac]⟩,
   ⟨0x00C, 4, 1, 0, 99, [fr 0 32 .ro 0]⟩,
   ⟨0x030, 4, 1, 0, 99, [fr 0 32 .rc 0]⟩,
   ⟨0x010, 4, 1, 0, 99, [fr 0 32 .ro 0]⟩,
   ⟨0x034, 4, 1, 0, 99, [fr 16 16 .rc 0, fr 0 16 .rc 0]⟩,
   ⟨0x014, 4, 1, 0, 99, [fr 16 13 .ro 0, fr 0 7 .ro 0]⟩,
   ⟨0x038, 4, 1, 0, 99, [fr 0 32 .ro 0]⟩,
   ⟨0x018, 4, 1, 0, 99, [fr 0 16 .ro 0]⟩,
   ⟨0x03C, 4, 1, 0, 99, [fr 0 32 .ro 0]⟩,
   ⟨0x01C, 4, 1, 0, 99, [fr 0 32 .rw 0]⟩,
   ⟨0x040, 4, 8, 0, 99, [fr 0 32 .ro 0]⟩,
   ⟨0x020, 4, 1, 0, 99, [fr 2 1 .ro 0, fr 1 1 .ro 0, fr 0 1 .ro 0]⟩]

/-- Registers of the PAIR page. -/
def rowsPAIR : List RegRow :=
  [⟨0x000, 4, 1, 0, 99, [fr 24 8 .rwf 0xa true [(1, 255)], fr 16 8 .rwf 2 true [(1, 16)], fr 12 2 .rwf 2 true [(0, 2)], fr 8 4 .rwf 8 true [(1, 14)]]⟩,
   ⟨0x020, 4, 1, 0, 99, [fr 0 32 .ro 0]⟩,
   ⟨0x004, 4, 1, 0, 99, [fr 28 4 .ro 0, fr 24 4 .ro 0, fr 19 1 .ro 0, fr 18 1 .ro 0, fr 17 1 .ro 0, fr 16 1 .ro 0, fr 15 1 .w1c 0, fr 14 1 .w1c 0, fr 13 1 .w1c 0, fr 12 1 .w1c 0, fr 11 1 .ro 0, fr 10 1 .ro 0, fr 9 1 .ro 0, fr 8 1 .ro 1, fr 7 1 .ro 0, fr 6 1 .ro 0, fr 1 3 .ro 0]⟩,
   ⟨0x024, 4, 1, 0, 99, [fr 0 32 .ro 0]⟩,
   ⟨0x008, 4, 1, 0, 99, [fr 12 4 .ro 0, fr 8 4 .ro 0, fr 0 4 .ro 9]⟩,
   ⟨0x028, 4, 1, 0, 99, [fr 16 16 .ro 0, fr 0 16 .ro 0]⟩,
   ⟨0x00C, 4, 1, 0, 99, [fr 16 16 .rwf 0x40 true [(64, 1024)], fr 0 16 .rwf 0x100 true [(64, 2048)]]⟩,
   ⟨0x02C, 4, 1, 0, 99, [fr 16 16 .ro 0, fr 0 16 .ro 0]⟩,
   ⟨0x010, 4, 1, 0, 99, [fr 0 32 .rwf 0x3e8 true [(1, 1000000)]]⟩,
   ⟨0x030, 4, 1, 0, 99, [fr 24 8 .rc 0, fr 16 8 .rc 0, fr 8 8 .rc 0, fr 0 8 .rc 0]⟩,
   ⟨0x014, 4, 1, 0, 99, [fr 1 1 .rwf 0, fr 0 1 .rwf 0]⟩,
   ⟨0x034, 4, 1, 0, 99, [fr 16 16 .ro 0, fr 0 16 .ro 0]⟩,
   ⟨0x018, 4, 1, 0, 99, [fr 0 32 .ro 0]⟩,
   ⟨0x038, 4, 1, 0, 99, [fr 16 16 .ro 0, fr 8 4 .ro 0, fr 0 4 .ro 0]⟩,
   ⟨0x01C, 4, 1, 0, 99, [fr 0 32 .ro 0]⟩]

/-- Registers of the HLK page. -/
def rowsHLK : List RegRow :=
  [⟨0x000, 4, 1, 0, 99, [fr 0 8 .rw 0]⟩,
   ⟨0x004, 4, 1, 0, 99, [fr 8 4 .ro 0, fr 0 6 .ro 0, fr 15 1 .ro 0, fr 14 1 .ro 0, fr 13 1 .ro 0]⟩,
   ⟨0x008, 4, 1, 0, 99, [fr 0 32 .ro 0]⟩,
   ⟨0x00C, 4, 1, 0, 99, [fr 0 32 .ro 0]⟩,
   ⟨0x010, 4, 1, 0, 99, [fr 0 16 .ro 0]⟩,
   ⟨0x014, 4, 1, 0, 99, [fr 0 16 .ro 0]⟩,
   ⟨0x018, 4, 1, 0, 99, [fr 16 16 .ro 0, fr 0 16 .ro 0]⟩,
   ⟨0x01C, 4, 1, 0, 99, [fr 24 8 .rc 0, fr 16 8 .rc 0, fr 8 8 .rc 0, fr 0 8 .rc 0]⟩,
   ⟨0x020, 4, 1, 0, 99, [fr 0 32 .rc 0]⟩]

/-- Registers of the CAN pages, part 1. -/
def rowsCAN_1 : List RegRow :=
  [⟨0x000, 4, 1, 0, 0, [fr 24 8 .rwf 0x10 true [(1, 255)], fr 15 1 .rwf 1 true, fr 14 1 .rwf 0 true, fr 12 1 .rwf 0 true, fr 3 1 .rwf 1 true, fr 0 1 .rwf 0 true]⟩,
   ⟨0x000, 4, 1, 1, 1, [fr 24 8 .rwf 0x10 true [(1, 255)], fr 15 1 .rwf 1 true, fr 14 1 .rwf 0 true, fr 12 1 .rwf 0 true, fr 4 1 .rwf 0 true, fr 3 1 .rwf 1 true, fr 0 1 .rwf 0 true]⟩,
   ⟨0x044, 4, 1, 0, 99, [fr 0 7 .rw 0]⟩,
   ⟨0x004, 4, 1, 0, 99, [fr 17 1 .ro 0, fr 16 1 .w1c 0, fr 15 1 .w1c 0, fr 14 1 .ro 0, fr 13 1 .w1c 0, fr 12 1 .w1c 0, fr 11 1 .w1c 0, fr 10 1 .w1c 0, fr 9 1 .w1c 0, fr 8 1 .ro 0, fr 7 1 .ro 0, fr 6 1 .ro 0, fr 5 1 .ro 0, fr 4 1 .ro 0, fr 0 1 .ro 0]⟩,
   ⟨0x048, 4, 1, 0, 99, [fr 0 7 .rw 0]⟩,
   ⟨0x008, 4, 1, 0, 99, [fr 2 1 .rw 0, fr 1 1 .rw 0, fr 0 1 .rw 0]⟩,
   ⟨0x04C, 4, 1, 0, 99, [fr 1 1 .rw 0, fr 0 1 .rw 0]⟩,
   ⟨0x00C, 4, 1, 0, 99, [fr 25 6 .rwf 1 true, fr 16 9 .rwf 0x7f true, fr 8 8 .rwf 0x20 true, fr 0 8 .rwf 0x20 true]⟩,
   ⟨0x050, 4, 1, 0, 99, [fr 4 3 .ro 0, fr 3 1 .ro 0, fr 0 3 .ro 0]⟩,
   ⟨0x010, 4, 1, 0, 99, [fr 24 6 .rwf 1 true, fr 16 6 .rwf 0x1d true, fr 8 5 .rwf 0xa true, fr 0 5 .rwf 0xa true]⟩,
   ⟨0x054, 4, 1, 0, 99, [fr 8 8 .ro 0, fr 0 7 .ro 0]⟩,
   ⟨0x014, 4, 1, 0, 99, [fr 16 1 .rwf 1 true, fr 8 7 .rwf 0x1e true, fr 0 7 .ro 0]⟩,
   ⟨0x058, 4, 1, 0, 99, [fr 16 16 .rc 0, fr 0 16 .rc 0]⟩,
   ⟨0x018, 4, 1, 0, 99, [fr 16 2 .ro 0, fr 8 8 .ro 0, fr 0 8 .ro 0]⟩,
   ⟨0x060, 4, 4, 0, 99, [fr 0 32 .ro 0]⟩,
   ⟨0x01C, 4, 1, 0, 99, [fr 4 3 .rc 0, fr 0 3 .rc 0]⟩,
   ⟨0x070, 4, 4, 0, 99, [fr 0 32 .ro 0]⟩,
   ⟨0x024, 4, 1, 0, 99, [fr 0 32 .ro 0]⟩,
   ⟨0x080, 4, 19, 0, 99, [fr 0 32 .ro 0]⟩,
   ⟨0x028, 4, 1, 0, 99, [fr 0 32 .ro 0]⟩]

/-- Registers of the CAN pages, part 2. -/
def rowsCAN_2 : List RegRow :=
  [⟨0x100, 4, 19, 0, 99, [fr 0 32 .rw 0]⟩,
   ⟨0x030, 4, 1, 0, 99, [fr 29 1 .rwf 0, fr 0 29 .rwf 0]⟩,
   ⟨0x180, 4, 19, 0, 99, [fr 0 32 .ro 0]⟩,
   ⟨0x034, 4, 1, 0, 99, [fr 0 29 .rwf 0]⟩,
   ⟨0x400, 8, 128, 0, 99, [fr 0 32 .ro 0]⟩,
   ⟨0x038, 4, 1, 0, 99, [fr 29 1 .rwf 0, fr 0 29 .rwf 0]⟩,
   ⟨0x404, 8, 128, 0, 99, [fr 0 32 .ro 0]⟩,
   ⟨0x03C, 4, 1, 0, 99, [fr 0 29 .rwf 0]⟩,
   ⟨0x040, 4, 1, 0, 99, [fr 1 1 .rw 0, fr 0 1 .ro 0]⟩]

/-- All registers of the CAN pages. -/
def rowsCAN : List RegRow := rowsCAN_1 ++ rowsCAN_2

/-- Registers of the FIO page, part 1. -/
def rowsFIO_1 : List RegRow :=
  [⟨0x000, 4, 1, 0, 99, [fr 9 1 .w1c 0, fr 8 1 .ro 0, fr 7 1 .w1c 0, fr 6 1 .ro 0, fr 5 1 .ro 1, fr 4 1 .w1c 0, fr 3 1 .ro 0, fr 2 1 .ro 0, fr 1 1 .ro 0, fr 0 1 .w1c 0]⟩,
   ⟨0x060, 4, 1, 0, 99, [fr 0 7 .ro 0, fr 8 7 .ro 0, fr 16 7 .ro 0, fr 24 7 .ro 0]⟩,
   ⟨0x004, 4, 1, 0, 99, [fr 0 32 .ro 0]⟩,
   ⟨0x064, 4, 1, 0, 99, [fr 16 16 .rc 0, fr 0 16 .rc 0]⟩,
   ⟨0x008, 4, 1, 0, 99, [fr 0 32 .ro 0]⟩,
   ⟨0x068, 4, 1, 0, 99, [fr 16 16 .rc 0, fr 0 16 .rc 0]⟩,
   ⟨0x00C, 4, 1, 0, 99, [fr 24 8 .w1c 0, fr 16 8 .ro 0, fr 8 8 .ro 0]⟩,
   ⟨0x070, 4, 1, 0, 99, [fr 16 2 .ro 0, fr 0 16 .ro 0]⟩,
   ⟨0x010, 4, 8, 0, 99, [fr 0 8 .rwf 0xa false [(1, 255)], fr 8 8 .rwf 0xa false [(1, 255)], fr 16 8 .rwf 0xa false [(1, 255)], fr 24 8 .rwf 0xa false [(1, 255)]]⟩,
   ⟨0x074, 4, 1, 0, 99, [fr 16 4 .ro 0, fr 0 16 .ro 0]⟩,
   ⟨0x030, 4, 1, 0, 99, [fr 0 32 .rwf 0]⟩,
   ⟨0x078, 4, 1, 0, 99, [fr 0 18 .ro 0]⟩,
   ⟨0x034, 4, 1, 0, 99, [fr 0 8 .rwf 0x3c false [(1, 255)], fr 8 8 .rwf 0x3c false [(1, 255)], fr 16 8 .rwf 0x3c false [(1, 255)], fr 24 8 .rwf 0x3c false [(1, 255)]]⟩,
   ⟨0x07C, 4, 1, 0, 99, [fr 0 2 .rwf 0 true [(0, 2)], fr 2 2 .rwf 0 true [(0, 2)], fr 4 2 .rwf 0 true [(0, 2)], fr 6 2 .rwf 0 true [(0, 2)]]⟩,
   ⟨0x038, 4, 1, 0, 99, [fr 0 32 .w1c 0]⟩,
   ⟨0x080, 4, 1, 0, 99, [fr 0 16 .rwf 0 true]⟩,
   ⟨0x03C, 4, 1, 0, 99, [fr 0 8 .rwf 0xa true [(1, 255)]]⟩,
   ⟨0x084, 4, 1, 0, 99, [fr 8 8 .rwf 0x32 true [(1, 255)], fr 0 8 .rwf 2 true [(1, 255)]]⟩,
   ⟨0x040, 4, 4, 0, 99, [fr 0 32 .rc 0]⟩,
   ⟨0x088, 4, 1, 0, 99, [fr 0 18 .rwf 0]⟩]

/-- Registers of the FIO page, part 2. -/
def rowsFIO_2 : List RegRow :=
  [⟨0x050, 4, 4, 0, 99, [fr 0 32 .ro 0]⟩,
   ⟨0x08C, 4, 1, 0, 99, [fr 0 2 .rwf 0]⟩,
   ⟨0x090, 4, 1, 0, 99, [fr 12 4 .ro 0, fr 8 4 .ro 0, fr 4 4 .ro 0, fr 0 4 .ro 0]⟩,
   ⟨0x094, 4, 1, 0, 99, [fr 0 16 .ro 0]⟩]

/-- All registers of the FIO page. -/
def rowsFIO : List RegRow := rowsFIO_1 ++ rowsFIO_2

/-- Registers of the NRG page, part 1. -/
def rowsNRG_1 : List RegRow :=
  [⟨0x000, 4, 1, 0, 99, [fr 24 8 .rwf 0x10 true [(1, 255)], fr 17 1 .rwf 0, fr 16 1 .rwf 1 true, fr 8 8 .rwf 0xff true, fr 4 2 .rwf 0 true [(0, 2)], fr 0 1 .rwf 0 true]⟩,
   ⟨0x0A8, 4, 1, 0, 99, [fr 16 16 .rwf 0x14 false [(1, 100)], fr 0 16 .rwf 0x32 false [(1, 500)]]⟩,
   ⟨0x004, 4, 1, 0, 99, [fr 24 8 .ro 0, fr 16 8 .w1c 0, fr 9 1 .w1c 0, fr 8 1 .ro 0, fr 7 1 .w1c 0, fr 6 1 .w1c 0, fr 5 1 .ro 0, fr 4 1 .ro 0, fr 3 1 .ro 0, fr 2 1 .ro 0, fr 1 1 .ro 0, fr 0 1 .ro 0]⟩,
   ⟨0x0B0, 16, 3, 0, 99, [fr 0 32 .ro 0]⟩,
   ⟨0x008, 4, 1, 0, 99, [fr 0 1 .rwf 0]⟩,
   ⟨0x0B4, 16, 3, 0, 99, [fr 0 32 .ro 0]⟩,
   ⟨0x00C, 4, 1, 0, 99, [fr 0 4 .rwf 5 true [(0, 9)]]⟩,
   ⟨0x0B8, 16, 3, 0, 99, [fr 24 2 .ro 0, fr 0 24 .ro 0]⟩,
   ⟨0x010, 8, 8, 0, 99, [fr 0 32 .rwf 0x10000 true]⟩,
   ⟨0x0BC, 16, 3, 0, 99, [fr 0 16 .ro 0]⟩,
   ⟨0x014, 8, 8, 0, 99, [fr 0 32 .rwf 0 true [(0, 8388607), (4286578689, 4294967295)]]⟩,
   ⟨0x0E0, 4, 1, 0, 99, [fr 16 8 .rwf 0x50 false [(2, 255)], fr 0 4 .rwf 0 false [(0, 6)]]⟩,
   ⟨0x050, 4, 8, 0, 99, [fr 0 32 .ro 0]⟩,
   ⟨0x0E4, 4, 1, 0, 99, [fr 0 32 .rwf 0x3e8 false [(1, 1000000)]]⟩,
   ⟨0x070, 4, 1, 0, 99, [fr 0 32 .ro 0]⟩,
   ⟨0x0E8, 4, 1, 0, 99, [fr 8 8 .ro 0, fr 0 1 .ro 0]⟩,
   ⟨0x074, 4, 1, 0, 99, [fr 0 32 .ro 0]⟩,
   ⟨0x0EC, 4, 1, 0, 99, [fr 0 32 .rc 0]⟩,
   ⟨0x078, 4, 1, 0, 99, [fr 0 16 .ro 0]⟩,
   ⟨0x0F0, 4, 1, 0, 99, [fr 0 32 .ro 0]⟩]

/-- Registers of the NRG page, part 2. -/
def rowsNRG_2 : List RegRow :=
  [⟨0x07C, 4, 1, 0, 99, [fr 0 32 .ro 0]⟩,
   ⟨0x0F4, 4, 1, 0, 99, [fr 0 32 .ro 0]⟩,
   ⟨0x080, 4, 3, 0, 99, [fr 0 32 .ro 0]⟩,
   ⟨0x100, 8, 8, 0, 99, [fr 0 32 .ro 0]⟩,
   ⟨0x104, 8, 8, 0, 99, [fr 0 32 .ro 0]⟩,
   ⟨0x08C, 4, 3, 0, 99, [fr 0 32 .ro 0]⟩,
   ⟨0x140, 4, 1, 0, 99, [fr 24 8 .ro 0, fr 16 8 .ro 0, fr 8 8 .ro 0, fr 0 8 .ro 0]⟩,
   ⟨0x144, 4, 1, 0, 99, [fr 24 8 .ro 0, fr 16 8 .ro 0, fr 8 8 .ro 0, fr 0 8 .ro 0]⟩,
   ⟨0x0A0, 4, 1, 0, 99, [fr 0 32 .rwf 0x38270 false [(1000, 1000000)]]⟩,
   ⟨0x148, 4, 1, 0, 99, [fr 0 32 .ro 0]⟩,
   ⟨0x0A4, 4, 1, 0, 99, [fr 16 16 .rwf 0x44c false [(1001, 2000)], fr 0 16 .rwf 0x384 false [(100, 999)]]⟩,
   ⟨0x14C, 4, 1, 0, 99, [fr 0 1 .wo 0]⟩]

/-- All registers of the NRG page. -/
def rowsNRG : List RegRow := rowsNRG_1 ++ rowsNRG_2

/-- Registers of the HDL page, part 1. -/
def rowsHDL_1 : List RegRow :=
  [⟨0x000, 4, 1, 0, 99, [fr 0 1 .rwf 0 true]⟩,
   ⟨0x044, 4, 1, 0, 99, [fr 0 32 .ro 0]⟩,
   ⟨0x004, 4, 1, 0, 99, [fr 22 1 .w1c 0, fr 21 1 .w1c 0, fr 12 9 .w1c 0, fr 8 4 .w1c 0, fr 7 1 .ro 0, fr 6 1 .ro 0, fr 5 1 .ro 0, fr 4 1 .ro 0, fr 3 1 .ro 0, fr 0 3 .ro 0]⟩,
   ⟨0x048, 4, 1, 0, 99, [fr 0 32 .ro 0]⟩,
   ⟨0x008, 4, 1, 0, 99, [fr 0 1 .rwf 0]⟩,
   ⟨0x04C, 4, 1, 0, 99, [fr 0 32 .ro 0]⟩,
   ⟨0x00C, 4, 1, 0, 99, [fr 0 32 .rwf 0x124f80 true]⟩,
   ⟨0x050, 4, 1, 0, 99, [fr 0 32 .ro 0]⟩,
   ⟨0x010, 4, 1, 0, 99, [fr 0 32 .rwf 0x2625a0 true]⟩,
   ⟨0x054, 4, 1, 0, 99, [fr 0 32 .ro 0]⟩,
   ⟨0x014, 4, 1, 0, 99, [fr 16 16 .rwf 0x32 true, fr 0 16 .rwf 0x12c true]⟩,
   ⟨0x058, 4, 1, 0, 99, [fr 8 1 .ro 0, fr 4 4 .ro 0, fr 0 4 .ro 0]⟩,
   ⟨0x018, 4, 1, 0, 99, [fr 0 32 .rwf 0x186a0 true]⟩,
   ⟨0x05C, 4, 1, 0, 99, [fr 8 8 .ro 0, fr 0 8 .ro 0]⟩,
   ⟨0x01C, 4, 1, 0, 99, [fr 0 32 .rwf 0 true]⟩,
   ⟨0x060, 4, 1, 0, 99, [fr 8 8 .ro 0, fr 0 2 .ro 0]⟩,
   ⟨0x020, 4, 1, 0, 99, [fr 0 32 .rwf 0 true]⟩,
   ⟨0x080, 8, 16, 0, 99, [fr 0 32 .rwf 0 true]⟩,
   ⟨0x024, 4, 1, 0, 99, [fr 16 8 .rwf 0x20 true [(1, 255)], fr 0 16 .rwf 0x1388 true]⟩,
   ⟨0x084, 8, 16, 0, 99, [fr 16 16 .rwf 0 true, fr 0 16 .rwf 0 true]⟩]

/-- Registers of the HDL page, part 2. -/
def rowsHDL_2 : List RegRow :=
  [⟨0x028, 4, 1, 0, 99, [fr 16 5 .rwf 2 true [(1, 16)], fr 8 5 .rwf 0 true [(1, 16)], fr 0 8 .rwf 0xa true [(1, 50)]]⟩,
   ⟨0x100, 4, 1, 0, 99, [fr 16 16 .rwf 0x20 true [(1, 65535)], fr 8 8 .rwf 3 true [(1, 255)], fr 0 1 .rwf 0 true]⟩,
   ⟨0x02C, 4, 1, 0, 99, [fr 0 32 .rwf 0x249f0 true [(10000, 350000)]]⟩,
   ⟨0x104, 4, 1, 0, 99, [fr 0 32 .rwf 0 true]⟩,
   ⟨0x030, 4, 1, 0, 99, [fr 0 32 .rwf 0x493e0 true [(10000, 800000)]]⟩,
   ⟨0x108, 4, 1, 0, 99, [fr 0 32 .rwf 0 true]⟩,
   ⟨0x034, 4, 1, 0, 99, [fr 0 32 .rwf 0 true]⟩,
   ⟨0x10C, 4, 1, 0, 99, [fr 0 32 .rwf 0x1e8480 true]⟩,
   ⟨0x038, 4, 1, 0, 99, [fr 0 32 .rwf 0 true]⟩,
   ⟨0x110, 4, 1, 0, 99, [fr 0 32 .rwf 0xf4240 true]⟩,
   ⟨0x03C, 4, 1, 0, 99, [fr 8 8 .rwf 0x10 true [(1, 255)], fr 7 1 .rwf 0 true, fr 5 1 .rwf 0 true, fr 0 5 .rwf 0 true]⟩,
   ⟨0x114, 4, 1, 0, 99, [fr 0 32 .rwf 0 true]⟩,
   ⟨0x040, 4, 1, 0, 99, [fr 0 32 .ro 0]⟩,
   ⟨0x118, 4, 1, 0, 99, [fr 0 32 .ro 0]⟩,
   ⟨0x11C, 4, 1, 0, 99, [fr 0 32 .ro 0]⟩,
   ⟨0x120, 4, 1, 0, 99, [fr 0 32 .ro 0]⟩,
   ⟨0x124, 4, 1, 0, 99, [fr 0 32 .ro 0]⟩,
   ⟨0x128, 4, 1, 0, 99, [fr 0 32 .ro 0]⟩,
   ⟨0x12C, 4, 1, 0, 99, [fr 16 16 .ro 0, fr 8 8 .ro 0, fr 0 1 .ro 0]⟩]

/-- All registers of the HDL page. -/
def rowsHDL : List RegRow := rowsHDL_1 ++ rowsHDL_2

/-- Registers of the BID page, part 1. -/
def rowsBID_1 : List RegRow :=
  [⟨0x000, 4, 1, 0, 99, [fr 16 3 .rwf 3 false [(1, 5)], fr 8 6 .rwf 0 true, fr 0 1 .rwf 0 true]⟩,
   ⟨0x028, 4, 1, 0, 99, [fr 0 32 .wo 0]⟩,
   ⟨0x004, 4, 1, 0, 99, [fr 7 1 .w1c 0, fr 6 1 .w1c 0, fr 5 1 .w1c 0, fr 4 1 .w1c 0, fr 3 1 .w1c 0, fr 2 1 .ro 0, fr 1 1 .ro 0, fr 0 1 .ro 0]⟩,
   ⟨0x02C, 4, 1, 0, 99, [fr 8 8 .ro 0, fr 0 8 .ro 0]⟩,
   ⟨0x008, 4, 1, 0, 99, [fr 16 16 .rwf 0x3e8 false [(100, 10000)], fr 0 16 .rwf 0x140 false [(100, 10000)]]⟩,
   ⟨0x030, 4, 1, 0, 99, [fr 0 32 .ro 0]⟩,
   ⟨0x00C, 4, 1, 0, 99, [fr 16 16 .rwf 0xa false [(0, 600)], fr 0 16 .rwf 0x50 false [(0, 600)]]⟩,
   ⟨0x034, 4, 1, 0, 99, [fr 0 32 .ro 0]⟩,
   ⟨0x010, 4, 1, 0, 99, [fr 16 16 .rwf 0x12c, fr 8 8 .rwf 0, fr 0 8 .rwf 0x10]⟩,
   ⟨0x038, 4, 1, 0, 99, [fr 0 32 .rc 0]⟩,
   ⟨0x014, 4, 1, 0, 99, [fr 0 16 .rwf 2 false [(0, 1000)]]⟩,
   ⟨0x03C, 4, 1, 0, 99, [fr 0 32 .rc 0]⟩,
   ⟨0x018, 4, 1, 0, 99, [fr 0 32 .rwf 0]⟩,
   ⟨0x040, 4, 1, 0, 99, [fr 0 32 .rc 0]⟩,
   ⟨0x01C, 4, 1, 0, 99, [fr 0 32 .rwf 0]⟩,
   ⟨0x044, 4, 1, 0, 99, [fr 0 32 .rc 0]⟩,
   ⟨0x020, 4, 1, 0, 99, [fr 24 8 .rwf 4, fr 16 8 .rwf 0x14 false [(1, 255)], fr 0 16 .rwf 0x32 false [(1, 65535)]]⟩,
   ⟨0x048, 4, 1, 0, 99, [fr 16 16 .rc 0, fr 0 16 .rc 0]⟩,
   ⟨0x024, 4, 1, 0, 99, [fr 24 8 .rwf 3 false [(2, 255)], fr 16 8 .rwf 0x14 false [(1, 255)], fr 0 16 .rwf 0x64 false [(20, 1000)]]⟩,
   ⟨0x04C, 4, 1, 0, 99, [fr 0 1 .rwf 0]⟩]

/-- Registers of the BID page, part 2. -/
def rowsBID_2 : List RegRow :=
  [⟨0x400, 4, 768, 0, 99, [fr 0 32 .ro 0]⟩]

/-- All registers of the BID page. -/
def rowsBID : List RegRow := rowsBID_1 ++ rowsBID_2

/-- Registers of the STP page, part 1. -/
def rowsSTP_1 : List RegRow :=
  [⟨0x000, 4, 1, 0, 99, [fr 5 1 .rwf 0, fr 4 1 .rwf 0, fr 3 1 .rwf 0 true, fr 1 2 .rwf 0 true [(0, 2)], fr 0 1 .rwf 0 true]⟩,
   ⟨0x030, 4, 1, 0, 99, [fr 0 32 .rwf 0xc350 false [(0, 1000000)]]⟩,
   ⟨0x004, 4, 1, 0, 99, [fr 16 1 .ro 0, fr 15 1 .w1c 0, fr 14 1 .w1c 0, fr 13 1 .w1c 0, fr 12 1 .w1c 0, fr 11 1 .w1c 0, fr 10 1 .ro 0, fr 9 1 .w1c 0, fr 8 1 .ro 0, fr 4 2 .ro 0, fr 0 4 .ro 0]⟩,
   ⟨0x034, 4, 1, 0, 99, [fr 16 16 .rwf 0x3e8 false [(1, 1500)], fr 0 16 .rwf 0x12c false [(1, 1000)]]⟩,
   ⟨0x008, 4, 1, 0, 99, [fr 31 1 .ro 0, fr 30 1 .ro 0, fr 16 10 .ro 0, fr 0 10 .ro 0]⟩,
   ⟨0x038, 4, 1, 0, 99, [fr 0 16 .rwf 0x12c false [(1, 65535)]]⟩,
   ⟨0x00C, 4, 1, 0, 99, [fr 0 32 .ro 0]⟩,
   ⟨0x03C, 4, 1, 0, 99, [fr 0 16 .ro 0]⟩,
   ⟨0x010, 4, 1, 0, 99, [fr 0 32 .ro 0]⟩,
   ⟨0x040, 4, 1, 0, 99, [fr 16 16 .ro 0, fr 15 1 .ro 0, fr 14 1 .ro 0, fr 13 1 .ro 0, fr 0 10 .ro 0]⟩,
   ⟨0x014, 4, 1, 0, 99, [fr 0 32 .wo 0]⟩,
   ⟨0x044, 4, 1, 0, 99, [fr 0 32 .rc 0]⟩,
   ⟨0x018, 4, 1, 0, 99, [fr 0 6 .ro 0]⟩,
   ⟨0x048, 4, 1, 0, 99, [fr 16 16 .ro 0, fr 8 1 .ro 0, fr 0 8 .rw 0]⟩,
   ⟨0x01C, 4, 1, 0, 99, [fr 0 32 .rwf 0 true [(0, 20000000)]]⟩,
   ⟨0x04C, 4, 1, 0, 99, [fr 0 9 .rw 0]⟩,
   ⟨0x020, 4, 1, 0, 99, [fr 16 16 .rwf 0x1388 false [(1, 65535)], fr 0 16 .rwf 0x4e20 true]⟩,
   ⟨0x050, 4, 1, 0, 99, [fr 9 1 .rw 0, fr 8 1 .rw 0, fr 0 8 .rw 0]⟩,
   ⟨0x024, 4, 1, 0, 99, [fr 16 16 .rwf 0x2710 false [(1, 65535)], fr 0 16 .rwf 0x7d0 false [(1, 65535)]]⟩,
   ⟨0x054, 4, 1, 0, 99, [fr 0 32 .rw 0]⟩]

/-- Registers of the STP page, part 2. -/
def rowsSTP_2 : List RegRow :=
  [⟨0x028, 4, 1, 0, 99, [fr 16 16 .rwf 0xc350 false [(1, 65535)], fr 8 8 .rwf 0x10 false [(1, 255)]]⟩,
   ⟨0x058, 4, 1, 0, 99, [fr 8 8 .ro 0, fr 0 8 .ro 0]⟩,
   ⟨0x02C, 4, 1, 0, 99, [fr 0 32 .rwf 0x30d40 false [(1, 1000000)]]⟩,
   ⟨0x05C, 4, 1, 0, 99, [fr 0 1 .rwf 0]⟩,
   ⟨0x400, 4, 256, 0, 99, [fr 0 32 .ro 0]⟩,
   ⟨0x800, 4, 64, 0, 99, [fr 28 4 .ro 0]⟩]

/-- All registers of the STP page. -/
def rowsSTP : List RegRow := rowsSTP_1 ++ rowsSTP_2

/-- Registers of the PRF page. -/
def rowsPRF : List RegRow :=
  [⟨0x000, 4, 1, 0, 99, [fr 2 10 .ro 0]⟩,
   ⟨0x004, 4, 1, 0, 99, [fr 0 6 .ro 0]⟩]

/-- Registers of the THR page. -/
def rowsTHR : List RegRow :=
  [⟨0x000, 4, 1, 0, 99, [fr 3 1 .w1c 0, fr 2 1 .ro 0, fr 1 1 .w1c 0, fr 0 1 .ro 0]⟩,
   ⟨0x004, 4, 1, 0, 99, [fr 16 16 .ro 0, fr 0 16 .ro 0xffff]⟩,
   ⟨0x008, 4, 1, 0, 99, [fr 0 32 .ro 0]⟩,
   ⟨0x010, 4, 1, 0, 99, [fr 12 1 .rw 0, fr 8 3 .rw 0 false [(0, 5)], fr 6 2 .rw 0, fr 0 4 .rw 0 false [(0, 8)]]⟩,
   ⟨0x014, 4, 1, 0, 99, [fr 0 32 .rw 0]⟩,
   ⟨0x018, 4, 1, 0, 99, [fr 12 4 .ro 0, fr 8 4 .ro 0, fr 0 8 .ro 0]⟩,
   ⟨0x020, 4, 6, 0, 99, [fr 16 16 .ro 0, fr 8 1 .ro 0, fr 0 8 .rw 0]⟩,
   ⟨0x040, 4, 6, 0, 99, [fr 8 7 .rwf 0 false [(0, 64)], fr 0 2 .rwf 0]⟩,
   ⟨0x060, 4, 12, 0, 99, [fr 16 8 .ro 0, fr 5 1 .w1c 0, fr 4 1 .ro 0, fr 2 2 .ro 0, fr 0 2 .ro 0]⟩,
   ⟨0x100, 4, 24, 0, 99, [fr 5 1 .w1c 0, fr 4 1 .ro 0, fr 3 1 .ro 0, fr 2 1 .ro 0, fr 1 1 .ro 0, fr 0 1 .ro 0]⟩,
   ⟨0x200, 4, 24, 0, 99, [fr 0 32 .ro 0]⟩,
   ⟨0x280, 4, 24, 0, 99, [fr 0 32 .ro 0]⟩,
   ⟨0x300, 4, 16, 0, 99, [fr 0 32 .ro 0]⟩,
   ⟨0x340, 4, 16, 0, 99, [fr 0 32 .rwf 0x7f800000 false [(0, 2139095039), (2147483648, 2147483648)]]⟩,
   ⟨0x380, 4, 16, 0, 99, [fr 16 2 .ro 0, fr 8 8 .ro 0, fr 0 8 .rwf 3 false [(1, 255)]]⟩]

/-- Registers of the DOR page. -/
def rowsDOR : List RegRow :=
  [⟨0x000, 4, 1, 1, 4, [fr 13 1 .rwf 0 true, fr 12 1 .rwf 0 true, fr 9 1 .rwf 0 true, fr 8 1 .rwf 0 true, fr 4 3 .rwf 0 true [(0, 5)], fr 0 1 .rwf 0 true]⟩,
   ⟨0x020, 4, 1, 1, 4, [fr 29 1 .ro 0, fr 28 1 .ro 0, fr 25 1 .w1c 0, fr 24 1 .w1c 0, fr 23 1 .w1c 0, fr 22 1 .w1c 0, fr 21 1 .w1c 0, fr 20 1 .w1c 0, fr 12 8 .ro 0, fr 8 3 .ro 0, fr 4 3 .ro 1, fr 0 4 .ro 7]⟩,
   ⟨0x004, 4, 1, 1, 4, [fr 31 1 .rwf 0 true, fr 29 1 .rwf 0 true, fr 24 5 .rwf 0 true, fr 23 1 .rwf 0 true, fr 21 1 .rwf 0 true, fr 16 5 .rwf 0 true, fr 15 1 .rwf 0 true, fr 13 1 .rwf 0 true, fr 8 5 .rwf 0 true, fr 7 1 .rwf 0 true, fr 5 1 .rwf 0 true, fr 0 5 .rwf 0 true]⟩,
   ⟨0x024, 4, 1, 1, 4, [fr 0 32 .ro 0]⟩,
   ⟨0x008, 4, 1, 1, 4, [fr 0 32 .rwf 0]⟩,
   ⟨0x028, 4, 1, 1, 4, [fr 0 32 .ro 0]⟩,
   ⟨0x00C, 4, 1, 1, 4, [fr 0 32 .rwf 0]⟩,
   ⟨0x02C, 4, 1, 1, 4, [fr 0 32 .ro 0]⟩,
   ⟨0x010, 4, 1, 1, 4, [fr 24 8 .rwf 0, fr 16 8 .rwf 0x32 false [(1, 255)], fr 0 16 .rwf 0x1e]⟩,
   ⟨0x030, 4, 1, 1, 4, [fr 16 16 .ro 0, fr 8 1 .ro 0, fr 0 8 .rw 0]⟩,
   ⟨0x014, 4, 1, 1, 4, [fr 16 16 .rwf 0x1f4, fr 0 16 .rwf 0x64 false [(1, 65535)]]⟩,
   ⟨0x034, 4, 1, 1, 4, [fr 8 1 .rw 0, fr 0 4 .rw 0 false [(0, 10)]]⟩,
   ⟨0x018, 4, 1, 1, 4, [fr 0 32 .rwf 0x1388]⟩,
   ⟨0x038, 4, 1, 1, 4, [fr 0 32 .rw 0]⟩,
   ⟨0x01C, 4, 1, 1, 4, [fr 0 4 .rwf 0 false [(0, 5)]]⟩,
   ⟨0x03C, 4, 1, 1, 4, [fr 8 4 .ro 0, fr 0 8 .ro 0]⟩]

/-- Registers of feedback channels, part 1. -/
def rowsFB_1 : List RegRow :=
  [⟨0x000, 4, 1, 0, 0, [fr 16 2 .ro 1, fr 12 3 .rwf 0, fr 10 1 .rwf 0 true, fr 8 2 .rwf 0 true [(0, 2)], fr 4 2 .rwf 0 false [(0, 2)], fr 0 3 .rwf 0 true [(0, 4)]]⟩,
   ⟨0x000, 4, 1, 1, 4, [fr 16 2 .ro 2, fr 12 3 .rwf 0, fr 10 1 .rwf 0 true, fr 8 2 .rwf 0 true [(0, 2)], fr 4 2 .rwf 0 false [(0, 2)], fr 0 3 .rwf 0 true [(0, 4)]]⟩,
   ⟨0x000, 4, 1, 5, 7, [fr 16 2 .rwf 0 true [(0, 2)], fr 12 3 .rwf 0, fr 10 1 .rwf 0 true, fr 8 2 .rwf 0 true [(0, 2)], fr 4 2 .rwf 0 false [(0, 2)], fr 0 3 .rwf 0 true [(0, 4)]]⟩,
   ⟨0x004, 4, 1, 0, 99, [fr 24 8 .ro 0, fr 16 3 .ro 0, fr 15 1 .ro 0, fr 14 1 .ro 0, fr 13 1 .ro 0, fr 12 1 .ro 0, fr 11 1 .w1c 0, fr 10 1 .w1c 0, fr 9 1 .w1c 0, fr 8 1 .w1c 0, fr 7 1 .w1c 0, fr 6 1 .w1c 0, fr 5 1 .w1c 0, fr 4 1 .w1c 0, fr 3 1 .ro 0, fr 2 1 .ro 0, fr 1 1 .ro 0, fr 0 1 .ro 0]⟩,
   ⟨0x008, 4, 1, 0, 99, [fr 0 32 .ro 0]⟩,
   ⟨0x00C, 4, 1, 0, 99, [fr 0 32 .ro 0]⟩,
   ⟨0x010, 4, 1, 0, 99, [fr 0 32 .ro 0]⟩,
   ⟨0x014, 4, 1, 0, 99, [fr 4 2 .ro 0, fr 3 1 .ro 0, fr 2 1 .ro 0, fr 1 1 .ro 0, fr 0 1 .ro 0]⟩,
   ⟨0x018, 4, 1, 0, 99, [fr 0 32 .ro 0]⟩,
   ⟨0x01C, 4, 1, 0, 99, [fr 0 32 .ro 0]⟩,
   ⟨0x020, 4, 1, 0, 99, [fr 0 32 .ro 0]⟩,
   ⟨0x024, 4, 1, 0, 99, [fr 0 32 .ro 0]⟩,
   ⟨0x028, 4, 1, 0, 99, [fr 0 32 .ro 0]⟩,
   ⟨0x02C, 4, 1, 0, 99, [fr 0 32 .rwf 0]⟩,
   ⟨0x030, 4, 1, 0, 99, [fr 16 8 .rwf 3 false [(1, 255)], fr 0 16 .rwf 4]⟩,
   ⟨0x034, 4, 1, 0, 99, [fr 0 32 .rwf 0]⟩,
   ⟨0x038, 4, 1, 0, 99, [fr 16 16 .rwf 1 true [(1, 65535)], fr 0 16 .rwf 1 true [(1, 65535)]]⟩,
   ⟨0x03C, 4, 1, 0, 99, [fr 24 8 .rwf 0 true, fr 16 8 .rwf 3 true [(1, 255)], fr 8 8 .rwf 0xa true [(10, 100)], fr 7 1 .rwf 0 true, fr 6 1 .rwf 0 true, fr 0 6 .rwf 0x20 true [(8, 40)]]⟩,
   ⟨0x040, 4, 1, 0, 99, [fr 24 8 .rwf 0x50 true [(4, 255)], fr 21 1 .rwf 0 true, fr 16 5 .rwf 0 true [(0, 0), (3, 16)], fr 0 16 .rwf 0 true]⟩,
   ⟨0x044, 4, 1, 0, 99, [fr 16 16 .rwf 0x3e8 false [(1, 65535)], fr 0 4 .rwf 3]⟩]

/-- Registers of feedback channels, part 2. -/
def rowsFB_2 : List RegRow :=
  [⟨0x048, 4, 1, 0, 99, [fr 0 32 .ro 0]⟩,
   ⟨0x04C, 4, 1, 0, 99, [fr 16 16 .ro 0, fr 9 1 .ro 0, fr 8 1 .ro 0, fr 0 8 .ro 0]⟩,
   ⟨0x050, 4, 1, 0, 99, [fr 24 8 .rc 0, fr 16 8 .rc 0, fr 8 8 .rc 0, fr 0 8 .rc 0]⟩,
   ⟨0x054, 4, 1, 0, 5, [fr 3 1 .rwf 0 true, fr 0 1 .rwf 0]⟩,
   ⟨0x054, 4, 1, 6, 7, [fr 3 1 .rwf 0 true, fr 2 1 .rwf 0, fr 1 1 .rwf 0]⟩,
   ⟨0x058, 4, 1, 6, 7, [fr 16 16 .rwf 1, fr 0 16 .rwf 1]⟩,
   ⟨0x05C, 4, 1, 0, 99, [fr 2 1 .rwf 0, fr 1 1 .rwf 0, fr 0 1 .rwf 0]⟩]

/-- All registers of feedback channels. -/
def rowsFB : List RegRow := rowsFB_1 ++ rowsFB_2

/-- Registers of axis pages, part 1. -/
def rowsAX_1 : List RegRow :=
  [⟨0x100, 4, 1, 0, 0, [fr 4 2 .ro 0, fr 3 1 .rwf 0 true, fr 0 3 .rwf 0 true [(0, 0), (6, 6)]]⟩,
   ⟨0x100, 4, 1, 1, 5, [fr 4 2 .rwf 0 true, fr 3 1 .rwf 0 true, fr 0 3 .rwf 0 true [(0, 5)]]⟩,
   ⟨0x148, 4, 1, 0, 99, [fr 8 8 .rwf 0x28 false [(4, 255)], fr 0 8 .rwf 0x14 false [(20, 255)]]⟩,
   ⟨0x104, 4, 1, 0, 99, [fr 0 4 .rwf 0 false [(0, 7)]]⟩,
   ⟨0x14C, 4, 1, 0, 99, [fr 16 16 .rwf 1 true [(1, 65535)], fr 0 16 .rwf 1 true [(1, 65535)]]⟩,
   ⟨0x108, 4, 1, 0, 99, [fr 15 1 .w1c 0, fr 14 1 .w1c 0, fr 13 1 .w1c 0, fr 12 1 .w1c 0, fr 11 1 .w1c 0, fr 10 1 .w1c 0, fr 9 1 .w1c 0, fr 8 1 .ro 0, fr 7 1 .ro 0, fr 6 1 .ro 0, fr 5 1 .ro 0, fr 4 1 .ro 0, fr 0 4 .ro 0]⟩,
   ⟨0x150, 4, 1, 0, 99, [fr 0 32 .ro 0]⟩,
   ⟨0x10C, 4, 1, 0, 99, [fr 0 32 .rwf 0]⟩,
   ⟨0x154, 4, 1, 0, 99, [fr 0 16 .ro 0]⟩,
   ⟨0x110, 4, 1, 0, 99, [fr 0 32 .ro 0]⟩,
   ⟨0x158, 4, 1, 0, 99, [fr 0 32 .ro 0]⟩,
   ⟨0x114, 4, 1, 0, 99, [fr 0 32 .ro 0]⟩,
   ⟨0x15C, 4, 1, 0, 99, [fr 8 1 .rwf 0, fr 7 1 .rwf 0, fr 6 1 .rwf 0, fr 5 1 .rwf 0, fr 0 5 .rwf 0]⟩,
   ⟨0x118, 4, 1, 0, 99, [fr 0 32 .ro 0]⟩,
   ⟨0x160, 4, 1, 0, 99, [fr 16 16 .rwf 0x1f4, fr 0 16 .rwf 0x32]⟩,
   ⟨0x11C, 4, 1, 0, 0, [fr 0 32 .rwf 0xf4240 true [(1, 20000000)]]⟩,
   ⟨0x11C, 4, 1, 1, 4, [fr 0 32 .rwf 0x7a120 true [(1, 5000000)]]⟩,
   ⟨0x11C, 4, 1, 5, 5, [fr 0 32 .rwf 0xf4240 true [(1, 2147483647)]]⟩,
   ⟨0x164, 4, 1, 0, 99, [fr 0 32 .rwf 0]⟩,
   ⟨0x120, 4, 1, 0, 0, [fr 0 32 .rwf 0xf4240 true [(1, 1500000)]]⟩]

/-- Registers of axis pages, part 2. -/
def rowsAX_2 : List RegRow :=
  [⟨0x120, 4, 1, 1, 4, [fr 0 32 .rwf 0xf4240 true [(1, 10000000)]]⟩,
   ⟨0x120, 4, 1, 5, 5, [fr 0 32 .rwf 0xf4240 true [(1, 2147483647)]]⟩,
   ⟨0x168, 4, 1, 0, 99, [fr 0 16 .rwf 0x258 false [(1, 65535)]]⟩,
   ⟨0x124, 4, 1, 0, 0, [fr 0 32 .rwf 0x16e360 true [(1, 3000000)]]⟩,
   ⟨0x124, 4, 1, 1, 4, [fr 0 32 .rwf 0x4c4b40 true [(1, 200000000)]]⟩,
   ⟨0x124, 4, 1, 5, 5, [fr 0 32 .rwf 0x989680 true [(1, 2147483647)]]⟩,
   ⟨0x16C, 4, 1, 0, 99, [fr 24 8 .rwf 0xa false [(1, 255)], fr 16 8 .rwf 4 false [(2, 255)], fr 14 1 .rwf 0, fr 13 1 .rwf 0, fr 8 5 .rwf 0, fr 5 1 .rwf 0, fr 0 5 .rwf 0]⟩,
   ⟨0x128, 4, 1, 0, 0, [fr 0 32 .rwf 0xf4240 false [(1, 20000000)]]⟩,
   ⟨0x128, 4, 1, 1, 4, [fr 0 32 .rwf 0x7a120 false [(1, 5000000)]]⟩,
   ⟨0x128, 4, 1, 5, 5, [fr 0 32 .rwf 0xf4240 false [(1, 2147483647)]]⟩,
   ⟨0x170, 4, 1, 0, 99, [fr 8 3 .ro 0, fr 4 4 .ro 0, fr 0 3 .ro 0]⟩,
   ⟨0x12C, 4, 1, 0, 0, [fr 0 32 .rwf 0xf4240 false [(1, 1500000)]]⟩,
   ⟨0x12C, 4, 1, 1, 4, [fr 0 32 .rwf 0xf4240 false [(1, 10000000)]]⟩,
   ⟨0x12C, 4, 1, 5, 5, [fr 0 32 .rwf 0xf4240 false [(1, 2147483647)]]⟩,
   ⟨0x174, 4, 1, 0, 99, [fr 16 8 .rwf 0x28 false [(10, 100)], fr 0 16 .rwf 0xfa]⟩,
   ⟨0x130, 4, 1, 0, 0, [fr 0 32 .rwf 0x16e360 false [(1, 3000000)]]⟩,
   ⟨0x130, 4, 1, 1, 4, [fr 0 32 .rwf 0x4c4b40 false [(1, 200000000)]]⟩,
   ⟨0x130, 4, 1, 5, 5, [fr 0 32 .rwf 0x989680 false [(1, 2147483647)]]⟩,
   ⟨0x178, 4, 1, 0, 99, [fr 16 16 .ro 0, fr 8 1 .ro 0, fr 0 8 .rw 0]⟩,
   ⟨0x134, 4, 1, 0, 99, [fr 0 32 .rwf 0x80000000]⟩]

/-- Registers of axis pages, part 3. -/
def rowsAX_3 : List RegRow :=
  [⟨0x17C, 4, 1, 0, 99, [fr 0 7 .rw 0 false [(0, 64)]]⟩,
   ⟨0x138, 4, 1, 0, 99, [fr 0 32 .rwf 0x7fffffff]⟩,
   ⟨0x180, 4, 1, 0, 99, [fr 8 1 .rw 0, fr 6 2 .rw 0 false [(0, 2)], fr 0 6 .rw 0]⟩,
   ⟨0x13C, 4, 1, 0, 0, [fr 0 32 .rwf 0xf4240 false [(1, 1500000)]]⟩,
   ⟨0x13C, 4, 1, 1, 4, [fr 0 32 .rwf 0xf4240 false [(1, 10000000)]]⟩,
   ⟨0x13C, 4, 1, 5, 5, [fr 0 32 .rwf 0xf4240 false [(1, 2147483647)]]⟩,
   ⟨0x184, 4, 1, 0, 99, [fr 0 32 .rw 0]⟩,
   ⟨0x140, 4, 1, 0, 0, [fr 0 32 .rwf 0x16e360 false [(1, 3000000)]]⟩,
   ⟨0x140, 4, 1, 1, 4, [fr 0 32 .rwf 0x4c4b40 false [(1, 200000000)]]⟩,
   ⟨0x140, 4, 1, 5, 5, [fr 0 32 .rwf 0x989680 false [(1, 2147483647)]]⟩,
   ⟨0x188, 4, 1, 0, 99, [fr 8 8 .ro 0, fr 0 8 .ro 0]⟩,
   ⟨0x144, 4, 1, 0, 99, [fr 0 16 .rwf 0x1f4]⟩,
   ⟨0x18C, 4, 1, 0, 99, [fr 0 32 .rwf 0]⟩,
   ⟨0x200, 4, 1, 0, 99, [fr 16 16 .rwf 0x1388 true [(2500, 12500)], fr 8 8 .rwf 0x64 true, fr 1 5 .rwf 0 true [(0, 24)], fr 0 1 .rwf 0 true]⟩,
   ⟨0x228, 4, 1, 0, 99, [fr 16 16 .ro 0, fr 8 1 .ro 0, fr 0 8 .rw 0]⟩,
   ⟨0x204, 4, 1, 0, 99, [fr 16 16 .ro 0, fr 0 16 .ro 0]⟩,
   ⟨0x22C, 4, 1, 0, 99, [fr 8 1 .rw 0, fr 0 8 .rw 0]⟩,
   ⟨0x208, 4, 1, 0, 99, [fr 0 16 .ro 0]⟩,
   ⟨0x230, 4, 1, 0, 99, [fr 0 16 .rw 0]⟩,
   ⟨0x20C, 4, 1, 0, 99, [fr 16 16 .rwf 0x92 true [(1, 65535)], fr 0 16 .rwf 0x989 true [(1, 65535)]]⟩]

/-- Registers of axis pages, part 4. -/
def rowsAX_4 : List RegRow :=
  [⟨0x234, 4, 1, 0, 99, [fr 8 8 .ro 0, fr 0 8 .ro 0]⟩,
   ⟨0x210, 4, 1, 0, 99, [fr 16 16 .ro 0, fr 0 16 .ro 0]⟩,
   ⟨0x238, 4, 1, 0, 99, [fr 16 16 .rwf 0, fr 0 16 .rwf 0]⟩,
   ⟨0x214, 4, 1, 0, 99, [fr 16 16 .ro 0, fr 0 16 .ro 0]⟩,
   ⟨0x23C, 4, 1, 0, 99, [fr 16 16 .rwf 0xc8 false [(1, 65535)], fr 0 16 .rwf 0x3000 false [(2048, 32767)]]⟩,
   ⟨0x218, 4, 1, 0, 99, [fr 24 8 .rwf 0x64 false [(20, 255)], fr 16 8 .rwf 0x32 false [(1, 255)], fr 14 2 .rwf 2 false [(0, 2)], fr 0 12 .rwf 0xc8 false [(10, 4095)]]⟩,
   ⟨0x240, 4, 1, 0, 99, [fr 16 1 .ro 0, fr 0 16 .ro 0]⟩,
   ⟨0x21C, 4, 1, 0, 99, [fr 16 16 .rwf 0x3e8 false [(100, 65535)], fr 0 16 .rwf 0x1f4 false [(0, 4095)]]⟩,
   ⟨0x244, 4, 1, 0, 99, [fr 3 1 .ro 0, fr 2 1 .w1c 0, fr 1 1 .w1c 0, fr 0 1 .w1c 0]⟩,
   ⟨0x220, 4, 1, 0, 99, [fr 16 16 .ro 0, fr 0 16 .ro 0]⟩,
   ⟨0x248, 4, 1, 0, 99, [fr 0 16 .rwf 0x1f40 true [(100, 65535)]]⟩,
   ⟨0x224, 4, 1, 0, 99, [fr 16 10 .ro 0, fr 0 4 .rwf 8 true [(0, 8)]]⟩,
   ⟨0x24C, 4, 1, 0, 99, [fr 16 16 .rwf 0 true, fr 0 16 .rwf 0 true]⟩]

/-- All registers of axis pages. -/
def rowsAX : List RegRow := rowsAX_1 ++ rowsAX_2 ++ rowsAX_3 ++ rowsAX_4

/-- The register DOR_SUM (R280). -/
def rowsDORS : List RegRow :=
  [⟨0x000, 4, 1, 0, 99, [fr 0 4 .ro 7, fr 4 4 .ro 7, fr 8 4 .ro 7, fr 12 4 .ro 7]⟩]

/-- The registers, instance number and offset inside the instance's area that an address falls to (R44, R110, R280). -/
def pageOf (a : Nat) : List RegRow × Nat × Nat :=
  let p := (a - 0x40000000) / 0x1000
  let o := a % 0x1000
  match p with
  | 0x00 => (rowsHIF, 0, o) | 0x01 => (rowsPWR, 0, o) | 0x02 => (rowsSCH, 0, o) | 0x03 => (rowsINT, 0, o)
  | 0x04 => (rowsFLT, 0, o) | 0x05 => (rowsCRC, 0, o) | 0x06 => (rowsREC, 0, o) | 0x07 => (rowsPAIR, 0, o)
  | 0x08 => (rowsHLK, 0, o) | 0x09 => (rowsCAN, 0, o) | 0x0A => (rowsCAN, 1, o) | 0x0B => (rowsFIO, 0, o)
  | 0x0C => (rowsNRG, 0, o) | 0x0D => (rowsHDL, 0, o) | 0x0E => (rowsBID, 0, o) | 0x0F => (rowsSTP, 0, o)
  | 0x10 => (rowsPRF, 0, o) | 0x11 => (rowsTHR, 0, o)
  | 0x12 => if o < 0x100 then (rowsDORS, 0, o) else (rowsDOR, o / 0x100, o % 0x100)
  | 0x1A => if o < 0x100 then (rowsFB, 6, o) else if o < 0x200 then (rowsFB, 7, o % 0x100) else ([], 0, o)
  | _ => if 0x14 ≤ p ∧ p ≤ 0x19 then (if o < 0x60 then (rowsFB, p - 0x14, o) else (rowsAX, p - 0x14, o)) else ([], 0, o)

/-- Does a row list offset `o` for instance `i`? -/
def RegRow.hits (r : RegRow) (i o : Nat) : Bool :=
  r.ilo ≤ i && i ≤ r.ihi && r.off ≤ o && (o - r.off) % r.stride == 0 && (o - r.off) / r.stride < r.count

/-- The register at an address; none at a reserved page or an unlisted offset (R45). -/
def regRow? (a : Nat) : Option RegRow :=
  if a % 4 ≠ 0 ∨ a < 0x40000000 ∨ a ≥ 0x4001B000 then none
  else
    let (rows, i, o) := pageOf a
    rows.find? (fun r => r.hits i o)

/-- The reset value a row's fields make up. -/
def RegRow.reset (r : RegRow) : Word :=
  r.rows.foldl (fun v f => setF v f.fld f.reset) 0

end Sys2Proof.Machine
end

