-- ==== Sys2Proof/Machine/State.lean ====
section
/-! DEFINITION. The state of one module of the RLY-4660 family as plain data: identity, memories, registers, every
unit's own state, the queue of waiting commands; and the machine right after reset. -/

namespace Sys2Proof.Machine

/-- Why the block stops. Nothing in the spec stops the block: every command has an effect or none, so no meaning
raises a fault. The one reason exists because the interface asks for a type; raising it would be safe. -/
inductive Fault
  /-- Raised by no meaning; kept so that the type of reasons is inhabited. Safe. -/
  | stopped
deriving DecidableEq, Repr

/-- Why a command has no meaning. -/
inductive Refusal
  /-- Raised by an arm of exec whose command has no meaning yet, with the command's mnemonic. Safe. -/
  | notModelled (mnemonic : String)
deriving DecidableEq, Repr

/-- The variants of the family (R3–R5, R8). -/
inductive Variant | rly4660 | rly4640 | rly4620 | rly4620E
deriving DecidableEq, Repr

/-- What the module is and how it is strapped: variant, ADDR[5:0] (R22, R533), PAIR_SIDE (R706), serial number
(R525). No command changes it (R7). -/
structure Ident where
  variant : Variant
  addr    : Nat
  sideB   : Bool
  serial  : Nat
deriving DecidableEq, Repr

/-- Module states in the encoding of R562. -/
inductive MSt | RESET | LOAD | LOAD_FAIL | CONFIG | READY | RUN | HOLD | FAULT
deriving DecidableEq, Repr

/-- One slot descriptor of the running sheaf (R67). -/
structure Slot where
  unit  : Nat
  op    : Nat
  inst  : Nat
  phase : Nat
  start : Nat
  cyc   : Nat
  n     : Nat
  hin   : Nat
  hout  : Nat
  arg   : Nat
deriving DecidableEq, Repr

/-- One record of sections 1 to 5 (R66): section, number across the sections (R710), type and words after the
head. -/
structure SRec where
  sec  : Nat
  num  : Nat
  typ  : Nat
  len  : Nat
  ws   : List Nat
  off  : Nat
deriving DecidableEq, Repr

/-- A sheaf as read from a bank: the header fields of R64, hopper depths, slots, records, STATEINIT's place. -/
structure Sheaf where
  imgLen   : Nat
  crc      : Nat
  reqUnits : Nat
  frate    : Nat
  role     : Nat
  tCmp     : Nat
  tEmt     : Nat
  tDrn     : Nat
  tEnd     : Nat
  stateId  : Nat
  buildId  : Nat
  depths   : List Nat
  slots    : List Slot
  recs     : List SRec
  initOff  : Nat
  initLen  : Nat
deriving DecidableEq, Repr

/-- What waits in one staging entry (R85): a register word, an object entry not backed by a register, or a command
judged at its boundary (R712); with the place of the host-link or SDO access that waits for it and its batch. -/
structure Staged where
  addr  : Nat
  obj   : Bool
  val   : Nat
  src   : Nat
  tag   : Nat
  late  : Bool
deriving DecidableEq, Repr

/-- A fault as a unit raises it (R594). -/
structure FaultEv where
  code : Nat
  src  : Nat
  cls  : Nat
deriving DecidableEq, Repr

/-- One event record before it has its number (R630, R631). -/
structure RecR where
  seq  : Nat
  frm  : Nat
  wall : Nat
  wtv  : Bool
  pf   : Bool
  stby : Bool
  kind : Nat
  code : Nat
  src  : Nat
  cls  : Nat
  d0   : Nat
  d1   : Nat
  d2   : Nat
deriving DecidableEq, Repr

/-- A record in the ring, with its mark of being programmed into the loft (R637); `lost` marks a slot whose record an
uncorrectable error took (R642). -/
structure RingE where
  r       : RecR
  flushed : Bool
  lost    : Bool
deriving DecidableEq, Repr

/-- A record block of the loft (R647, R648): its physical block, whether it is marked failing (R649), and what its header holds
beside the magic, the first SEQ and the CHK: its place in the cyclic order and its erase count; its records. -/
structure LoftBlk where
  phys    : Nat
  failing : Bool
  place   : Nat
  wear    : Nat
  recs    : List RecR
deriving DecidableEq, Repr

/-- What a descriptor copy holds for a store slot (R675): VALID, IMG_LEN, image CRC, AUTORDY, store count. -/
structure LoftSlot where
  valid : Bool
  len   : Nat
  crc   : Nat
  rdy   : Bool
  cnt   : Nat
deriving DecidableEq, Repr

/-- A copy of the slot descriptors (R675): S0 and S1, the preferred slot, its own CRC-32C. -/
structure LoftDesc where
  slots : List LoftSlot
  pref  : Nat
  crc   : Nat
deriving DecidableEq, Repr

/-- An energy checkpoint (R444): published registers, wrap counts, frame of the publication, warning flag, CRC-32C. -/
structure Ckpt where
  regs  : List Nat
  wraps : List Nat
  frm   : Nat
  warn  : Bool
  crc   : Nat
deriving DecidableEq, Repr

/-- The scheduler's own state beside its registers: whether the slot schedule may run (R78), slots stopped by an
overrun or a CRC failure, pending check and switch, joint swap, staging. -/
structure SchS where
  stopped   : Bool          -- no slots until FAULT is left (R76, R77)
  aborted   : Bool          -- slots of the running frame aborted (R76)
  noRelease : Bool          -- the release of the running frame is suppressed
  noCommit  : Bool          -- the commit of the running frame is suppressed
  chkKind   : Nat           -- 0 no check, 1 verify, 2 switch
  cancel    : Bool          -- R81: the running check's switch is cancelled
  failDue   : Option Nat    -- LOAD_FAIL due at the next boundary with this SCH_LDCAUSE word (R80, R104)
  next      : Option Sheaf  -- the sheaf a pending switch takes (R80)
  staging   : List Staged   -- entries waiting, oldest first (R85)
  jswDue    : List Nat      -- register addresses of the SWAP objects of a joint swap that passed its checks (R96)
  swpDue    : List Nat      -- register addresses of SWAP objects that passed (R94)
  frate     : Nat
  active    : Option Sheaf  -- the running sheaf
  fullM     : List Nat      -- hoppers that raised 0x13 in this frame (R62)
deriving DecidableEq, Repr

/-- Speed estimator states (R142). -/
inductive Est | still | first | run | rev
deriving DecidableEq, Repr

/-- The speed estimator of a channel (R141–R144): state, direction of counting, edges of the present direction newest
first, and the times R142 keeps. -/
structure EstS where
  est    : Est
  dirNeg : Bool
  edges  : List (Int × Nat)
  tFirst : Nat
  cPrev  : Int
  tPrev  : Nat
  cRev   : Int
  tRev   : Nat
deriving DecidableEq, Repr

/-- What a channel latches in cycle 0 (R136, R140): counter, time of the last event, time of the cycle 0, estimator, accumulator
and deviation of the last index, whether the channel has a position (R151, apart from POSSAT). -/
structure FbL where
  cnt  : Int
  t    : Nat
  tfe  : Nat
  e    : EstS
  zlat : Int
  zdev : Int
  ok   : Bool
deriving DecidableEq, Repr

/-- One feedback channel beside its registers: counter, index logic (R129–R131), latched values (R136) and those FB_LATCH has
moved on (R140), estimator (R141–R144), serial reception (R121–R127), divider (R146), snapshot (R139). Times are fabric cycle counts; a time
stamp register shows them modulo 2^32 (R135). -/
structure FbS where
  cnt     : Int
  acc     : Int
  ref     : Int
  zref    : Bool
  zarmed  : Bool
  miss    : Nat
  lvl     : Nat            -- accepted levels (R116): bit 0 A or H1, bit 1 B or H2, bit 2 Z or H3
  tLast   : Nat            -- time of the last counted edge or of the newest valid word's sampling instant
  e       : EstS           -- the estimator as edges come
  zlat    : Int
  zdev    : Int
  l       : FbL            -- latched in cycle 0
  m       : FbL            -- moved on by FB_LATCH
  word    : Option Nat
  seen    : Bool           -- one valid word since the mode was set
  ser     : Bool           -- in a serial mode since cycle 0 of the running frame
  got     : Bool           -- a valid word arrived in the running frame
  xfer    : Bool           -- a transfer is under way
  xferT   : Nat            -- its start
  idleAt  : Nat            -- the data line is idle from this time on
  missing : Nat            -- consecutive missing words
  tout    : Bool
  stale   : Bool
  cfgerr  : Bool
  possat  : Bool           -- POSSAT as last committed
  rem     : Nat
  outCnt  : Int
  bad     : List (Nat × Nat) -- fields whose default was out of range (R113): register and lowest bit
  snap    : List Word      -- CNT, VEL, SPD, VBND, TS, TFE, ZLAT, ZDEV at the last read of FBn_POS
deriving DecidableEq, Repr


/-- The engine's state outside state memory (R205, R221, R222): the working file of the running frame, axes with a hand-over
in this frame, loops (0–23) and blend points (24–35) still to take the reset of an immediate stop, blend lengths in
force, whether STATEINIT has been loaded and no frame has run since, loops whose last result was not finite, the double coefficient banks and the last check by axis. -/
structure ThrS where
  w     : List (Nat × Word)
  hand  : List Nat          -- blend points that take a new source in this frame (R229, H)
  istop : List Nat
  done  : List Nat          -- of these, served in the running frame
  okd   : List Nat          -- served in a frame that committed
  nb    : List Nat          -- blend length in force, by blend point
  nf    : List Nat
  coefA : List (List Word)
  coefS : List (List Word)
  chk   : List Word
  fresh : Bool
deriving DecidableEq, Repr

/-- One coil's chopper (R256, R257): direction of the current driven, phase (0 slow decay with I_t = 0 or bridge off,
1 drive, 2 decay), start of the phase, net driving time in the running frame and the time up to which it counts,
overshoots newest first in half µA, offset in mA. -/
structure CoilS where
  dir : Int
  ph  : Nat
  t0  : Nat
  acc : Int
  accT : Nat
  ovs : List Int
  ofs : Int
deriving DecidableEq, Repr

/-- The drive stage of an axis beside its registers (R242–R260): bridge turned off by overcurrent and by a missing
release; compare values staged, released and in effect; carrier start; scale of the coil current in effect and
staged, current reduction in effect; last electrical angle; currents in µA, bridge supply in 100 µV, currents of the
frame before, net driving times of the last frame; coils; stall count and a stall found in this frame; the microstep
table's entries that differ from R252's, active and shadow. -/
structure DrvS where
  offOC : Bool
  offNR : Bool
  cmpS  : Option (Nat × Nat × Nat)
  cmpR  : Option (Nat × Nat × Nat)
  cmp   : Nat × Nat × Nat
  cmpP  : Nat × Nat × Nat    -- compare values before the last load (R248)
  cmpT  : Nat                -- time of the last load
  car0  : Nat
  carN  : Bool               -- a sheaf has begun: the carrier starts at this frame edge (R251)
  scl   : Word
  sclS  : Option Word
  ired  : Bool
  th    : Nat
  iA    : Int
  iB    : Int
  iC    : Int
  vdc   : Int
  pA    : Int
  pB    : Int
  vnA   : Int
  vnB   : Int
  coils : List CoilS
  stallN : Nat
  stall : Bool               -- a stall in this frame (R259)
  stallB : Bool              -- a stall that goes on, its fault given
  tblA  : List (Nat × Nat)
  tblS  : List (Nat × Nat)
deriving DecidableEq, Repr


/-- The stop table: committed and working copy of what state memory holds, landing tables, the AX0 target that acts at the
next boundary (R305), stops of AX0 from outside not yet seen, doors closed in the last frame, CALLBAD's fault given in
this frame. -/
structure StpS where
  c    : StpC
  w    : StpC
  la   : LandT
  ls   : LandT
  axc  : Option Int
  ext  : Bool
  drs  : List Nat
  badF : Bool
deriving DecidableEq, Repr
/-- A receive object (R463, R464, R467): live frame with NEW and OVR, the copy RX_TAKE reads (latched at cycle 0), the
shadow buffer. -/
structure CRx where
  frm  : Option CanFrm
  new  : Bool
  ovr  : Bool
  lat  : Option CanFrm
  lnew : Bool
  lovr : Bool
  sh   : Option CanFrm
deriving DecidableEq, Repr

/-- A transmit object (R468): state (0 IDLE, 1 HELD, 2 PENDING, 3 ARB or BUS), content once written, cancel flag, last
result, NOTICK, held for a TICK, release instant, claim count (R514). -/
structure CTx where
  st     : Nat
  frm    : Option CanFrm
  cancel : Bool
  res    : Nat
  notick : Bool
  th     : Bool
  inst   : Nat
  cnt    : Nat
deriving DecidableEq, Repr

/-- A frame the controller is sending: the object (128 the report buffer, 256 a service frame), the frame as sent, the
fabric cycle count of its SOF. -/
structure CCur where
  obj : Nat
  frm : CanFrm
  sof : Nat
deriving DecidableEq, Repr

/-- A CAN controller beside its registers (R452–R490): receive and transmit objects with a history, receive queue
(frame, OWN, and the frame it completed in), losses running, frame being sent, service frames that wait, start of the
buffer lock, high-priority buffer, consecutive acknowledgement errors, TEC, REC, recovery running, sleep requested,
configuration in effect, transmit records of the running frame, results for BID. -/
structure CanS where
  rx    : List (Nat × CRx)
  tx    : List (Nat × CTx)
  q     : List (CanFrm × Bool × Nat)
  lossQ : Bool
  cur   : Option CCur
  svc   : List CanFrm
  lock  : Option Nat
  hp    : Option CanFrm
  aln   : Nat
  tec   : Nat
  rxe   : Nat
  recov : Bool
  slpRq : Bool
  effEn : Bool
  effN  : Word
  effD  : Word
  stage : List (Option Nat × List Word)
  bres  : List (CanFrm × Nat × Bool)
deriving DecidableEq, Repr

/-- BID: committed and working copy; the run of AX0 that R331 measures: start position, net energy and the register it is of
(R440). -/
structure BidS where
  c   : BidC
  w   : BidC
  run : Option (Int × Int × Nat)
deriving DecidableEq, Repr

/-- One winnow filter (R392, R395): level arriving, accepted level, a run with the frame and offset of its first change and
MERGED, time of the latest change. -/
structure WinF where
  raw    : Bool
  acc    : Bool
  run    : Bool
  merged : Bool
  fr     : Nat
  ofs    : Nat
  since  : Nat
deriving DecidableEq, Repr

/-- Field inputs and outputs beside their registers (R390–R419): filters of IN0–IN31 (stage A of the taps) and of the taps'
B stages; edge FIFOs (word 0, FR, frame of acceptance), LOSS due; levels latched at cycle 0 (inputs, taps, driven
outputs, readbacks, FIELD_24) and the FIELD_24 value; stale timers' starts; taps that differ and since when, taps that
differed for DISCT; word of OUT_STAGE; released commands; outputs off by overload; comparator allows, its GAPH hold with
the levels held, and last of all the instant it began to allow; silent-logic safe state and its indication, last heartbeat, frame period held; copy of FIO_SAFE, a sheaf
was started, field island powered; arm latches, channels conducting, guard enables last seen, pairs held open by the
fault response; channels whose readback disagrees, a general disagreement that persists, pairs whose latches a readback
failure cleared, channels with 0xA9 since armed; value and time of the last claim word; outputs held safe after UVF until a
release (R416); gates and driven levels last seen, the instant from which readbacks compare afresh (R408). -/
structure FioS where
  flt    : List WinF
  fifo   : List (List (Nat × Nat × Nat))
  lossP  : List Bool
  lat    : Nat
  latT   : Nat
  latO   : Nat
  latR   : Nat
  latV   : Nat
  vf     : Nat
  stl    : List Nat
  tapT   : List (Option Nat)
  tapL   : Nat
  shadow : Nat
  rel    : Nat
  olock  : Nat
  allow  : Bool
  gapT   : Nat
  gapO   : Bool
  held   : Nat
  silent : Bool
  silLat : Bool
  hb     : Nat
  per    : Nat
  copy   : Nat
  started : Bool
  up     : Bool
  arm    : Nat
  cond   : Nat
  gPrev  : Bool
  fgate  : Nat
  mis    : Nat
  dis    : Bool
  rbf    : Nat
  a9     : Nat
  peer   : Nat
  peerT  : Nat
  uvH    : Bool
  gk     : Nat
  drv    : Nat
  cmpT   : Option Nat
  alwT   : Nat
  disC   : Nat               -- safety channels with a disagreement that persists (R409)
  zero   : Bool              -- no release since the field supply came or a reset: CLAIM_OUT carries 0 (R693)
deriving DecidableEq, Repr

/-- An energy register (R437–R439): value in mWh, residue in µW·cycle, wrap count. -/
structure NReg where
  v   : Int
  res : Int
  wr  : Nat
deriving DecidableEq, Repr

/-- A half-cycle of samples (R432): number, sums of squares by channel, channels with a stuck or clipped sample, a lost frame,
whether its closing boundary was forced, the first frame. -/
structure NHalf where
  n    : Nat
  sq   : List Int
  bad  : Nat
  lost : Bool
  forc : Bool
  f0   : Nat
deriving DecidableEq, Repr

/-- An event under way (R434): start frame, extreme, its channel. -/
structure NEv where
  s0  : Nat
  ext : Nat
  ch  : Nat
deriving DecidableEq, Repr

/-- What the energy unit's slots change, to be brought in by the commit (R430): values of the last frame; sign of the last
sample of at least ZHYS (0 none); time of the last boundary; last up and down crossings (frames); qualified boundaries in
a row; half-cycle running, the one before, and how many boundaries fell since the unit became active; dip, swell and
interruption; the eight energy registers; sums of P_L and P_D of the interval and their number. -/
structure NrgC where
  x    : List Int
  sgn  : Int
  tB   : Nat
  fUp  : Option Nat
  fDn  : Option Nat
  qual : Nat
  half : NHalf
  prev : NHalf
  nB   : Nat
  ev   : List (Option NEv)
  reg  : List NReg
  sumL : Int
  sumD : Int
  nI   : Nat
deriving DecidableEq, Repr

/-- The energy unit beside its registers: bits of the data pads in the filters' windows, the oldest lowest (R425), committed and working copy,
frames of a new rate still unused (R430), faults and records of the running frame's slots, an interval's end that has not
published, one that waits for a commit, published values and wrap counts (R438), run of AX0 whose length waits for a publication (R440), pulse
remainder, pending pulses, frame of the last publication that made pulses due, T_p, next pulse is the first after idle,
pulse phase (0 idle, 1 high, 2 low), its start frame, W, release frame of the pad level; restored since reset; SD_CLK
runs; a clear or restore since the last publication (R440); the time the 900 s to the next checkpoint count from (R444). -/
structure NrgS where
  sd     : List Nat
  c      : NrgC
  w      : NrgC
  skip   : Nat
  dueF   : List FaultEv
  dueR   : List (Nat × Nat × Nat × Nat × Nat)
  iend   : Bool
  imiss  : Bool
  pub    : List Nat
  pubW   : List Nat
  runEnd : List (Int × Int × Nat)
  prem   : Nat
  pend   : Nat
  pfrm   : Option Nat
  tp     : Nat
  first  : Bool
  pph    : Nat
  pt0    : Nat
  pw     : Nat
  lvl    : Bool
  rest   : Bool
  clk    : Bool
  clrd   : Bool
  ckT    : Nat
deriving DecidableEq, Repr


/-- What the module sends on the pair link (R560): `image` in role REDUNDANT, `words` in role SHAFT. -/
inductive PPkt
| beacon (b : Beacon)
| image (i : PImg)
| words (ws : List Word)
| marker (frame count : Nat)
deriving DecidableEq, Repr

/-- A control-path access that waits (R582): source, tag, and the first frame that uses its change. -/
structure PAck where
  src   : Nat
  tag   : Nat
  frame : Nat
deriving DecidableEq, Repr

/-- The redundancy unit beside its registers (R557–R586): condition that dropped the claim first; hand-over under way;
packets sent in the running frame; last valid beacon, whether one arrived in the running frame, frames without one; time
since which a module in WAIT has heard none, or the frame in which a standby received its last MARKER; frames of discord and of agreement; whether the schedule ran. As duty: entries of the
boundary into the running frame, entries owed by frame, unit states as sent last, place of the sweep, frames whose MARKER
waits with their entry counts, acknowledgements that wait. As standby: images received, markers received (frame, count,
time), last frame applied, output record of that frame, unit states as mirrored, sweep entries applied in a row, image
words of the frame before for R571, frames beyond and within PTOL, phase error, trim of the
running frame; image of role SHAFT for IMG_TAKE as latched at cycle 0, and one received since (R30, R33). -/
structure PairS where
  drop  : Nat
  hand  : Bool
  tx    : List PPkt
  bcn   : Option Beacon
  got   : Bool
  bmiss : Nat
  alone : Nat
  discN : Nat
  discA : Nat
  ran   : Bool
  cfg   : List PEnt
  owed  : List (Nat × PEnt)
  base  : List UnitSt
  sweep : Nat
  marks : List (Nat × Nat)
  acks  : List PAck
  swack : List (Nat × Nat)
  imgs  : List PImg
  mrx   : List (Nat × Nat × Nat)
  last  : Option Nat
  outR  : Option (Nat × List (Nat × Nat × Nat))
  mir   : List UnitSt
  swpN  : Nat
  posd  : Option (List Int × List Int)
  pdN   : Nat
  pdA   : Nat
  err   : Option Int
  trim  : Int
  shImg : Option (List Word)
  shNew : Option (List Word)
deriving DecidableEq, Repr

/-- The result of a host-link access (R539, R544): body of an OK response or code and failing address of an ERROR;
none while the access runs. -/
inductive HBody
| ok (bs : List Nat)
| err (code addr : Nat)
deriving DecidableEq, Repr

/-- A held result (R544): TAG, CRC and TYPE of the request, result. -/
structure HRes where
  tag  : Nat
  crc  : Nat
  typ  : Nat
  body : Option HBody
deriving DecidableEq, Repr

/-- A response that is due (R540, R544): TYPE and TAG of the request, REPLAY, TYPE and TAG of the access whose result it is,
a result that is not held, time of the request's last stop bit, PENDING whatever happens meanwhile; TAEXT at that time. -/
structure HDue where
  typ   : Nat
  tag   : Nat
  rep   : Bool
  atyp  : Nat
  atag  : Nat
  body  : Option HBody
  time  : Nat
  wait  : Bool
  ext   : Nat
deriving DecidableEq, Repr

/-- The host link beside its registers (R529–R549): held results oldest first, the response due, the last response sent as
bytes, time of the last valid EPOCH, download session (length, time of its last BULK_DATA), time at which HL_DE falls after the last
response (R531). -/
structure HlkS where
  held : List HRes
  due  : Option HDue
  sent : List Nat
  ep   : Option Nat
  bulk : Option (Nat × Nat)
  deT  : Nat
deriving DecidableEq, Repr

/-- A segmented SDO transfer (R502–R504): upload, entry, complete access, bytes still to send or received so far, expected
length of a download, toggle bit awaited, time of the last response. -/
structure SdoTr where
  up   : Bool
  ix   : Nat
  sub  : Nat
  ca   : Bool
  buf  : List Nat
  len  : Nat
  tog  : Nat
  time : Nat
deriving DecidableEq, Repr

/-- An SDO server: the segmented transfer, accesses that wait for their boundary (tag, entry, last segment's toggle if it was
one), next tag. -/
structure SdoS where
  tr   : Option SdoTr
  wait : List (Nat × Nat × Nat × Option Nat)
  next : Nat
deriving DecidableEq, Repr

/-- An emergency message (R521): error code, fault code, source, class, frame, error register. -/
structure Emcy where
  err   : Nat
  code  : Nat
  src   : Nat
  cls   : Nat
  frame : Nat
  reg   : Nat
deriving DecidableEq, Repr

/-- The CiA 301 services beside registers (R501, R516–R526): node-IDs in effect, boot-up message due, time of the last heartbeat
once boot-up was sent, messages waiting, time of the last EMCY, 0x1003, a fault was active, and the entries no register
holds: 0x1015, 0x1017, 0x2104:01, 0x2105:01 and 02. -/
structure CiaS where
  nodeA : Nat
  nodeB : Nat
  boot  : Bool
  hb    : Option Nat
  emq   : List Emcy
  emT   : Option Nat
  hist  : List Emcy
  act   : Bool
  inhib : Nat
  hbt   : Nat
  nmt   : Nat
  setA  : Nat
  setB  : Nat
deriving DecidableEq, Repr

/-- States of a coalescing entry (R626, FLT_GTABk.STATE). -/
inductive GSt | holdoff | pending | sent | suppressed | heard | local
deriving DecidableEq, Repr

/-- One entry of the coalescing table (R609): key, state, counts, class and frame of the first raise, frame
boundaries left of the hold-off, end of the window (fabric cycle count), its report stands in the report buffer, own count when the
report was staged (R607). -/
structure GEnt where
  key   : Nat
  st    : GSt
  own   : Nat
  heard : Nat
  cls   : Nat
  frm0  : Nat
  hold  : Nat
  wend  : Nat
  buf   : Bool
  stg   : Nat
deriving DecidableEq, Repr

/-- The fault unit beside its registers: active list, oldest first (R604); coalescing table of 16 places (R609); handling in
progress (0 none), time of its raise, pairs it has still to open (R595, R601); FAULT due at the next boundary; per memory
the time of the last advisory 0x21 (R616); times since which the safety channels read 0; scrubber running and words checked
in its pass (R618); CRC unit: memory job (address, bytes left), running remainder (R620). -/
structure FltS where
  act     : List FaultEv
  gtab    : List (Option GEnt)
  hcls    : Nat
  hT      : Nat
  hSel    : Nat
  fltDue  : Bool
  ffrm    : Nat
  lfrm    : Nat
  corr    : List (Nat × Nat)
  zAt     : List (Option Nat)
  scrubOn : Bool
  scrubW  : Nat
  crcMem  : Option (Nat × Nat)
  crcReg  : Nat
deriving DecidableEq, Repr

/-- The recorder beside its registers: ring, records waiting for the loft scan (R646), records of the running command not
yet numbered, next sequence number (R633), run of drops (R641), wall clock (R634, R635): wall time of the last set, the
clock's reading then (above it while it slews back), its fabric cycle count; start of the last flush or the end of RESET; a
flush follows the one that runs (R638). -/
structure RecS where
  ring    : List RingE
  wait    : List RecR
  queue   : List RecR
  seq     : Nat
  dropRun : Bool
  dropN   : Nat
  dropFrm : Nat
  clkW    : Nat
  clkC    : Nat
  clkE    : Nat
  flushE  : Nat
  again   : Bool
  pfmode  : Bool
deriving DecidableEq, Repr

/-- What the loft keeps through every reset (R647, R648, R675). The assignment of physical blocks that both copies of the remap table
hold: sheaf region, checkpoint region, record blocks in use, oldest first, the last one being written, erased record blocks with
their erase counts, spares. The next place in the cyclic order; volatile-only mode; bytes of the store slots S0 and S1; the two
descriptor copies; energy checkpoints, newest first. -/
structure LoftS where
  sheaf   : List Nat
  ckReg   : List Nat
  blocks  : List LoftBlk
  erased  : List (Nat × Nat)
  spares  : List Nat
  place   : Nat
  volonly : Bool
  imgs    : List (List Nat)
  descs   : List LoftDesc
  ckpts   : List Ckpt
deriving DecidableEq, Repr

/-- A running store (R678): slot, AUTORDY, BOOT, bytes of the image; the source's check failed. -/
structure StoreS where
  slot : Nat
  rdy  : Bool
  boot : Bool
  img  : List Nat
  bad  : Bool
  bank : Nat
deriving DecidableEq, Repr

/-- The power and reset unit beside its registers (R661–R680): reset asserted and when; what LOAD waits for (0 nothing, 1 the
boot path, 2 the check of a LOAD command); slots the boot path has tried, cause of the first one refused; bank to make
active at the next boundary with its sheaf, whether READY is entered, cause of the transition; LOAD_FAIL due with its cause
and its SCH_LDCAUSE word; store;
oscillator stable, PLL locked; memory initialisation running; a reset by loss of lock is to be reported; the slot descriptors in use,
read from the loft at boot (R675). -/
structure PwrS where
  inReset : Bool
  load    : Nat
  tried   : Nat
  first   : Option Nat
  actDue  : Option (Nat × Bool × Nat × Sheaf)
  failDue : Option (Nat × Nat)
  store   : Option StoreS
  xok     : Bool
  lock    : Bool
  memInit : Bool
  lossF3  : Bool
  desc    : LoftDesc
deriving DecidableEq, Repr

/-- One module: everything the spec gives it, as plain data. -/
structure State where
  id      : Ident
  /-- Bytes of bank A, bank B and state memory (R47) that are not 0 (R619), by address. -/
  mem     : List Host.Cell
  /-- Registers that differ from their reset values, by address (R44). -/
  regs    : List (Nat × Word)
  /-- Status updates of the running frame's slots that wait for the commit (R39, R58): address, mask, value. -/
  pend    : List (Nat × Word × Word)
  /-- Stores of the running frame that wait for the commit (R58): byte address and word. -/
  smem    : List (Nat × Word)
  /-- Interrupt sources of data-path results that wait for the commit (R614): group and bit. -/
  intp    : List (Nat × Nat)
  /-- The frame counter (R55). -/
  frm     : Nat
  /-- Fabric cycles counted from the first frame edge to cycle 0 of the running frame (R135, R478). -/
  ecyc    : Nat
  /-- Cycle inside the running frame at which the last command with a time happened. -/
  cyc     : Nat
  sch     : SchS
  /-- Words in the hoppers (R60), by hopper number; an unlisted hopper is empty. -/
  hops    : List (Nat × List Word)
  fb      : List FbS
  ax      : List AxS
  drv     : List DrvS
  dor     : List DorS
  thr     : ThrS
  stp     : StpS
  can     : List CanS
  bid     : BidS
  nrg     : NrgS
  fio     : FioS
  hdl     : HdlS
  pair    : PairS
  flt     : FltS
  rcd     : RecS
  loft    : LoftS
  pwr     : PwrS
  hlk     : HlkS
  sdo     : List SdoS
  cia     : CiaS
  /-- Faults raised by the running command, not yet captured; empty between commands. -/
  raised  : List FaultEv
  /-- The data a control-path read answered last. -/
  ctlData : List Word
  /-- Counter of free values (MODEL: no part of the hardware). -/
  free    : Nat
  /-- Commands that wait, first in first out. -/
  pending : List Instr
deriving DecidableEq, Repr

end Sys2Proof.Machine

namespace Sys2Proof.Machine

/-! ### Every unit right after a reset -/

/-- A channel at reset (R150–R155: no value held, estimator STILL). -/
def EstS.init : EstS := ⟨.still, false, [], 0, 0, 0, 0, 0⟩
def FbL.init : FbL := ⟨0, 0, 0, EstS.init, 0, 0, false⟩
def FbS.init : FbS :=
  ⟨0, 0, 0, false, false, 0, 0, 0, EstS.init, 0, 0, FbL.init, FbL.init,
   none, false, false, false, false, 0, 0, 0, false, false, false, false, 0, 0, [], List.replicate 8 0⟩

/-- An axis at reset. -/
def AxS.init : AxS :=
  ⟨.idle, 0, 0, 0, 0, 1, 1, false, none, 0, false, false, 0, 0, 0, ⟨0, []⟩, ⟨0, []⟩, false, .idle, 0, false, false, 0, 0, false, false,
   false, 0, 0, 0, 0, false, false, false, 0, false, false, [[], [], []], 0, 0, 0, none, none, 0, false, 0, []⟩

/-- The coefficients of one level at reset (R222). -/
def coefReset1 : List Word := [0, 0, 0, 0, 0, 0xBF800000, 0x3F800000, 0xBF800000, 0x3F800000]

/-- The 36 coefficients of an axis at reset. -/
def coefReset : List Word := coefReset1 ++ coefReset1 ++ coefReset1 ++ coefReset1

/-- The engine at reset. -/
def ThrS.init : ThrS :=
  ⟨[], [], [], [], [], List.replicate 12 0, [], List.replicate 6 coefReset, List.replicate 6 coefReset, List.replicate 6 0, false⟩

/-- A coil's chopper at reset. -/
def CoilS.init : CoilS := ⟨0, 0, 0, 0, 0, [], 0⟩

/-- A drive stage at reset; the microstep tables are R252's. -/
def DrvS.init : DrvS :=
  ⟨false, false, none, none, (0, 0, 0), (0, 0, 0), 0, 0, true, 0, none, false, 0, 0, 0, 0, 0, 0, 0, 0, 0, [CoilS.init, CoilS.init], 0, false, false, [], []⟩

/-- The force set at reset (R282). -/
def forceReset : List Nat := [1500, 1500, 1000, 10000, 4000, 100000, 500, 100000, 0, 2, 3]

/-- A door at reset (R281). -/
def DorS.init : DorS :=
  ⟨7, false, 0, 0, 0, 1, 0, false, 0, 0, 0, 0, 0, [], none, 0, false, false, none, forceReset, forceReset, false⟩

def StpC.init : StpC := ⟨[], [], 0, 0, false, none, none, false, false, none, 0, 0, 0, false, 0, 0⟩
def StpS.init : StpS := ⟨StpC.init, StpC.init, ⟨0, [], []⟩, ⟨0, [], []⟩, none, false, [], false⟩

def CRx.init : CRx := ⟨none, false, false, none, false, false, none⟩
def CTx.init : CTx := ⟨0, none, false, 0, false, false, 0, 0⟩

/-- A controller at reset: no object declared, the reset bit timing in effect. -/
def CanS.init : CanS :=
  ⟨[], [], [], false, none, [], none, none, 0, 0, 0, false, false, false, 0x027F2020, 0x011D0A0A, [], []⟩

def BidC.init : BidC := ⟨[], [], 0, 0, [], [], [], [], [], 0, 0, false⟩
def BidS.init : BidS := ⟨BidC.init, BidC.init, none⟩
def BidE.init : BidE :=
  ⟨0, 0, 0, 0, 0, 0, 0, false, 0, 0, 0xFFFFF, 0, 0, false, 0, false, false, false, false, false, false, false, false, 0, 0, 0, false, false, false, false⟩

def WinF.init : WinF := ⟨false, false, false, false, 0, 0, 0⟩

/-- Field inputs and outputs right after a logic-island reset (R711, R415, R668). -/
def FioS.init : FioS :=
  ⟨List.replicate 40 WinF.init, List.replicate 4 [], List.replicate 4 false, 0, 0, 0, 0, 0, 0, List.replicate 32 0,
   List.replicate 8 none, 0, 0, 0, 0, false, 0, true, 0, true, false, 0, 12500, 0, false, true, 0, 0, true, 0, 0, false, 0, 0, 0, 0,
   false, 0, 0, none, 0, 0, true⟩

/-- The guard at reset: OFF, latch clear. -/
def HdlS.init : HdlS :=
  ⟨0, false, 0, 0, none, 0, 0, 0, 0, 0, 0, ⟨0, 0⟩, ⟨0, 0⟩, 0, 0, 0, 0, true, none, none, 0, false, none, [], false, false, 0, 0, false, false,
   false, none⟩

def NReg.init : NReg := ⟨0, 0, 0⟩
def NHalf.init (f : Nat) : NHalf := ⟨0, [0, 0, 0, 0, 0, 0], 0, false, false, f⟩
def NrgC.init : NrgC :=
  ⟨List.replicate 8 0, 0, 0, none, none, 0, NHalf.init 0, NHalf.init 0, 0, [none, none, none], List.replicate 8 NReg.init, 0, 0, 0⟩

/-- The energy unit at reset. -/
def NrgS.init : NrgS :=
  ⟨List.replicate 8 0, NrgC.init, NrgC.init, 0, [], [], false, false, List.replicate 8 0, List.replicate 8 0, [], 0, 0, none, 2,
   false, 0, 0, 1, false, false, false, false, 0⟩

/-- The recorder right after a reset (R645). -/
def RecS.init : RecS := ⟨[], [], [], 0, false, 0, 0, 0, 0, 0, 0, false, false⟩

/-- Descriptors with no slot valid. -/
def LoftDesc.init : LoftDesc := ⟨List.replicate 2 ⟨false, 0, 0, false, 0⟩, 0, 0⟩

/-- The loft as delivered (R647, R648): the manual assigns no physical blocks; the model takes them in order, and delivers no
store slot and no checkpoint (DESIGN CHOICE, log 172). -/
def LoftS.delivered : LoftS :=
  ⟨List.range 16, (List.range 4).map (· + 16), [], (List.range 940).map (fun k => (k + 20, 0)), (List.range 64).map (· + 960), 0, false,
   [[], []], [LoftDesc.init, LoftDesc.init], []⟩

/-- The redundancy unit right after a reset (R667: role OFF, claim 0). -/
def PairS.init : PairS :=
  ⟨0, false, [], none, false, 0, 0, 0, 0, false, [], [], [], 0, [], [], [], [], [], none, none, [], 0, none, 0, 0, none, 0, none, none⟩

/-- The fault unit right after a reset. -/
def FltS.init : FltS :=
  ⟨[], List.replicate 16 none, 0, 0, 0, false, 0, 0, [], List.replicate 4 none, false, 0, none, 0⟩

/-- The CiA services right after a reset (R501, R518). -/
def CiaS.init (id : Ident) : CiaS := ⟨id.addr + 1, id.addr + 1, true, none, [], none, [], false, 0, 0, 0, 0, 0⟩

def HlkS.init : HlkS := ⟨[], none, [], none, none, 0⟩
def SdoS.init : SdoS := ⟨none, [], 0⟩

/-- The scheduler right after a reset: no sheaf, 16 kHz (R53), staging empty (R667). -/
def SchS.init : SchS := ⟨false, false, false, false, 0, false, none, none, [], [], [], 1, none, []⟩

/-- The power unit right after the release of a reset: oscillator starting (R664); `fresh` asks for the zeroing of all
memories (R619). -/
def PwrS.init (fresh : Bool) : PwrS := ⟨false, 0, 0, none, none, none, none, false, false, fresh, false, LoftDesc.init⟩

/-- A module whose reset has just been released. -/
def State.afterReset (id : Ident) (loft : LoftS) (fresh : Bool) : State :=
  { id := id, mem := [], regs := [], pend := [], smem := [], intp := [], frm := 0, ecyc := 0, cyc := 0
    sch := SchS.init, hops := []
    fb := List.replicate 8 FbS.init, ax := List.replicate 6 AxS.init, drv := List.replicate 6 DrvS.init
    dor := List.replicate 4 DorS.init, thr := ThrS.init, stp := StpS.init, can := List.replicate 2 CanS.init
    bid := BidS.init, nrg := NrgS.init, fio := FioS.init, hdl := HdlS.init, pair := PairS.init, flt := FltS.init
    rcd := RecS.init, loft := loft, pwr := PwrS.init fresh, hlk := HlkS.init, sdo := List.replicate 2 SdoS.init
    cia := CiaS.init id, raised := [], ctlData := [], free := 0, pending := [] }

/-- The machine right after reset: an RLY-4660 at address 0, side A, after a power-on reset, with a loft as delivered. The
variant, the straps and the serial number are DESIGN CHOICES (log entry 1). -/
def State.reset : State := State.afterReset ⟨.rly4660, 0, false, 0⟩ LoftS.delivered true

end Sys2Proof.Machine
end

