-- ==== Sys2Proof/Machine/Ops.lean ====
section
/-! DEFINITION. The named operations over registers, memory, commit, interrupts and faults that every unit's meaning
uses. -/

namespace Sys2Proof.Machine

/-! ### Identity and presence (R2–R5, R9, R44, R46) -/

/-- AXMAP of a variant (R5). -/
def Variant.axmap : Variant → Nat
  | .rly4660 => 0x3F | .rly4640 => 0x0F | .rly4620 => 0x1E | .rly4620E => 0x1E

/-- HIF_UNITS of a variant (R5). -/
def Variant.units : Variant → Nat
  | .rly4660 => 0x613F03FF | .rly4640 => 0x410F03F2 | .rly4620 => 0x211E03E0 | .rly4620E => 0x211E03E8

/-- A unit bit of HIF_UNITS (R4): 0 BID, 1 HDL, 2 SHSH, 3 NRG, 4 STP. -/
def State.hasUnit (s : State) (k : Nat) : Bool := bitOf s.id.variant.units k

/-- Is axis page n present (R2, R44)? -/
def State.hasAx (s : State) (n : Nat) : Bool := n < 6 && bitOf s.id.variant.axmap n

/-- Is feedback channel n present (R2)? -/
def State.hasFb (s : State) (n : Nat) : Bool := n == 6 || n == 7 || s.hasAx n

/-- Is door d present? A door needs its axis (R261). -/
def State.hasDoor (s : State) (d : Nat) : Bool := 1 ≤ d && d ≤ 4 && s.hasAx d

/-- Is the block of a register page present (R44)? -/
def State.hasPage (s : State) (p : Nat) : Bool :=
  match p with
  | 0x0C => s.hasUnit 3
  | 0x0D => s.hasUnit 1
  | 0x0E => s.hasUnit 0
  | 0x0F => s.hasUnit 4
  | _ => if 0x14 ≤ p && p ≤ 0x19 then s.hasAx (p - 0x14) else true

/-! ### Registers -/

/-- The reset value of a register; the values the tables give per variant or by strap come from the identity (R5,
R533, R626, R592). -/
def regReset (id : Ident) (a : Nat) : Word :=
  let v := match regRow? a with | some r => r.reset | none => 0
  if a = Addr.HIF_UNITS then wN id.variant.units
  else if a = Addr.HLK_STAT then setF v Fl.HLK_STAT_ADDR id.addr
  else if a = Addr.FLT_GCFG then setF v Fl.FLT_GCFG_GID id.addr
  else if a = Addr.PAIR_STAT then setF v Fl.PAIR_STAT_SIDE (b2n id.sideB)
  else v

/-- The value of a register (the committed value for status of the data path, R39). -/
def State.rd (s : State) (a : Nat) : Word := (aget s.regs a).getD (regReset s.id a)

/-- A register file with one register set, in canonical form: a register at its reset value is not listed. -/
def putReg (id : Ident) (l : List (Nat × Word)) (a : Nat) (v : Word) : List (Nat × Word) :=
  if v = regReset id a then adel l a else aput l a v

/-- Set a register. -/
def State.wr (s : State) (a : Nat) (v : Word) : State := { s with regs := putReg s.id s.regs a v }

/-- A field of a register. -/
def State.rf (s : State) (a : Nat) (f : Fld) : Nat := getF (s.rd a) f

/-- Set a field of a register. -/
def State.wf (s : State) (a : Nat) (f : Fld) (x : Nat) : State := s.wr a (setF (s.rd a) f x)

/-- A one-bit field as a Boolean. -/
def State.flag (s : State) (a : Nat) (f : Fld) : Bool := s.rf a f == 1

/-- Signed reading of a whole register. -/
def State.rs (s : State) (a : Nat) : Int := sW (s.rd a)

/-- Count up a field, saturating (R62, R105). -/
def State.bump (s : State) (a : Nat) (f : Fld) (n : Nat := 1) : State :=
  s.wf a f (satU f.w (s.rf a f + n))

/-- Masked replacement of bits. -/
def mergeW (old mask v : Word) : Word := (old &&& ~~~ mask) ||| (v &&& mask)

/-- The value a register takes when the waiting status updates are added to it. -/
def pendOn (l : List (Nat × Word × Word)) (a : Nat) (v : Word) : Word :=
  l.foldl (fun acc p => if p.1 = a then mergeW acc p.2.1 p.2.2 else acc) v

/-- The working value of a status register inside the running frame: committed value and waiting updates. -/
def State.cur (s : State) (a : Nat) : Word := pendOn s.pend a (s.rd a)

/-- A field of the working value. -/
def State.cf (s : State) (a : Nat) (f : Fld) : Nat := getF (s.cur a) f

/-- The working value, signed. -/
def State.cs (s : State) (a : Nat) : Int := sW (s.cur a)

/-- Report a status register at the next commit (R58). -/
def State.pub (s : State) (a : Nat) (v : Word) : State := { s with pend := s.pend ++ [(a, BitVec.allOnes 32, v)] }

/-- Report one field at the next commit. -/
def State.pubF (s : State) (a : Nat) (f : Fld) (x : Nat) : State :=
  { s with pend := s.pend ++ [(a, f.mask, setF 0 f x)] }

/-! ### Memory (R47, R12) -/

/-- Base addresses of R47. -/
def bankBase (b : Nat) : Nat := if b = 0 then 0x20000000 else 0x20040000

def smemBase : Nat := 0x20080000

/-- One past the last byte of state memory. -/
def smemEnd : Nat := 0x200C0000

/-- Does an address lie in a memory area of R47? -/
def inMem (a : Nat) : Bool := 0x20000000 ≤ a && a < smemEnd

/-- A byte of bank A, bank B or state memory; an unlisted byte reads 0 (R619). -/
def State.mb (s : State) (a : Nat) : Nat := ((aget s.mem a).map (·.toNat)).getD 0

/-- A memory with one byte set, in canonical form: a byte equal to 0 is not listed; outside the areas of R47 there is no byte. -/
def putByte (l : List Host.Cell) (a b : Nat) : List Host.Cell :=
  if !inMem a then l else if b % 256 = 0 then adel l a else aput l a (BitVec.ofNat 8 b)

/-- A memory with bytes set at rising addresses. -/
def putBytes (l : List Host.Cell) (a : Nat) : List Nat → List Host.Cell
  | [] => l
  | b :: bs => putBytes (putByte l a b) (a + 1) bs

/-- A memory with a range removed: every byte of it reads 0. -/
def clearRange (l : List Host.Cell) (lo hi : Nat) : List Host.Cell :=
  l.filter (fun c => decide (c.1 < lo) || decide (hi ≤ c.1))

/-- `n` bytes from an address. -/
def State.bytes (s : State) (a n : Nat) : List Nat := (List.range n).map (fun k => s.mb (a + k))

/-- The 32-bit word at an address, least significant byte first (R12). -/
def State.mw (s : State) (a : Nat) : Word := wN (ofLE (s.bytes a 4))

/-- Set bytes of memory. -/
def State.setBytes (s : State) (a : Nat) (bs : List Nat) : State := { s with mem := putBytes s.mem a bs }

/-- Canonical form of the memory: addresses strictly rising inside the areas of R47, no byte listed as 0. -/
def Memory.wf (l : List Host.Cell) : Bool :=
  risingFrom 0x20000000 l && l.all (fun c => c.2 != 0 && decide (c.1 < smemEnd))

/-- The working value of a state-memory word in the running frame: written in this frame, or committed (R58, R206). -/
def State.sw (s : State) (a : Nat) : Word :=
  match s.smem.reverse.find? (fun p => p.1 == a) with | some p => p.2 | none => s.mw a

/-- Write a state-memory word that the commit brings in (R58). -/
def State.sput (s : State) (a : Nat) (v : Word) : State := { s with smem := s.smem ++ [(a, v)] }

/-! ### Time -/

/-- Cycles per frame of a rate code (R53). -/
def ncycOf (rate : Nat) : Nat := match rate with | 0 => 25000 | 1 => 12500 | _ => 6250

/-- The number of the frame after the running one (R55). -/
def State.nextFrm (s : State) : Nat := (s.frm + 1) % 2 ^ 48

/-- Cycles of the running frame (R53, R102). -/
def State.ncyc (s : State) : Nat := s.rf Addr.SCH_CFG Fl.SCH_CFG_NCYC

/-- Fabric cycle count at the present moment (R478). -/
def State.now (s : State) : Nat := s.ecyc + s.cyc

/-- Note the cycle at which a command happens in the running frame. -/
def State.at (s : State) (c : Nat) : State := { s with cyc := c }

/-! ### Module state (R562, R669) -/

/-- The module state a code names; the codes 8 to 15 do not occur. -/
def MSt.ofCode : Nat → MSt
  | 0 => .RESET | 1 => .LOAD | 2 => .LOAD_FAIL | 3 => .CONFIG | 4 => .READY | 5 => .RUN | 6 => .HOLD | _ => .FAULT

/-- The code of a module state. -/
def MSt.code : MSt → Nat
  | .RESET => 0 | .LOAD => 1 | .LOAD_FAIL => 2 | .CONFIG => 3 | .READY => 4 | .RUN => 5 | .HOLD => 6 | .FAULT => 7

/-- The module state. -/
def State.mode (s : State) : MSt := MSt.ofCode (s.rf Addr.PWR_MSTATE Fl.PWR_MSTATE_STATE)

/-- Is the slot schedule running (R78)? -/
def State.running (s : State) : Bool :=
  match s.mode with
  | .READY | .RUN | .HOLD => s.sch.active.isSome && !s.sch.stopped
  | .FAULT => s.sch.active.isSome && !s.sch.stopped
  | _ => false

/-! ### Interrupts (R613, R614) -/

/-- May a source of group g, bit b set? Bits of sources in absent units never set (R614). -/
def State.srcPresent (s : State) (g b : Nat) : Bool :=
  match g with
  | 10 => if b < 6 then s.hasAx b else true
  | 11 => if b < 6 then s.hasAx b else true
  | 12 => if b < 4 then s.hasDoor (b + 1) else true
  | 13 => s.hasUnit 4
  | 14 => s.hasUnit 0
  | 15 => if b < 4 then s.hasUnit 1 else s.hasUnit 3
  | _ => true

/-- Set an interrupt cause bit at once (R613). -/
def State.irq (s : State) (g b : Nat) : State :=
  if s.srcPresent g b then s.wf (Addr.INT_CAUSE g) ⟨b, 1⟩ 1 else s

/-- Set an interrupt cause bit at the next commit: a source that reports a data-path result (R614). -/
def State.irqC (s : State) (g b : Nat) : State := { s with intp := s.intp ++ [(g, b)] }

/-- Report a field: at the commit while the schedule runs, else at once. -/
def State.say (s : State) (a : Nat) (f : Fld) (x : Nat) : State := if s.running then s.pubF a f x else s.wf a f x

/-- Report a register: at the commit while the schedule runs, else at once. -/
def State.sayW (s : State) (a : Nat) (v : Word) : State := if s.running then s.pub a v else s.wr a v

/-- Set an interrupt cause bit: at the commit while the schedule runs, else at once. -/
def State.sayI (s : State) (g b : Nat) : State := if s.running then s.irqC g b else s.irq g b

/-! ### Faults and records: what a meaning asks for; Faults.lean answers at the end of the command -/

/-- Raise a fault (R594, R598). -/
def State.raise (s : State) (code src cls : Nat) : State := { s with raised := s.raised ++ [⟨code, src, cls⟩] }

/-- Raise a fault when a condition holds. -/
def State.raiseIf (s : State) (b : Bool) (code src cls : Nat) : State := if b then s.raise code src cls else s

/-- The recorder's wall clock at the present moment (R634, R635): while it slews back it runs at half rate until the
value of the last set catches up. -/
def State.wall (s : State) : Nat :=
  if s.rf Addr.REC_STAT Fl.REC_STAT_WTV = 0 then 0
  else
    let d := s.now - s.rcd.clkE
    max (s.rcd.clkW + d / 200000) (s.rcd.clkC + d / 400000)

/-- Is the module in WAIT or STANDBY (R579)? PAIR_STAT.ROLE 1 is WAIT, 2 STANDBY. -/
def State.standby (s : State) : Bool :=
  let r := s.rf Addr.PAIR_STAT Fl.PAIR_STAT_ROLE
  r == 1 || r == 2

/-- Ask for an event record (R631). -/
def State.record (s : State) (kind code src cls d0 d1 d2 : Nat) : State :=
  let r : RecR := ⟨0, s.frm, s.wall, s.flag Addr.REC_STAT Fl.REC_STAT_WTV, s.rcd.pfmode, s.standby,
    kind, code, src, cls, d0 % 2 ^ 32, d1 % 2 ^ 32, d2 % 2 ^ 16⟩
  { s with rcd := { s.rcd with queue := s.rcd.queue ++ [r] } }

/-! ### Hoppers (R60–R63) -/

/-- Words waiting in a hopper. -/
def State.hop (s : State) (h : Nat) : List Word := (aget s.hops h).getD []

/-- Set a hopper's words. -/
def State.setHop (s : State) (h : Nat) (ws : List Word) : State :=
  { s with hops := if ws = [] then adel s.hops h else aput s.hops h ws }

/-- A hopper's depth in the running sheaf. -/
def State.depth (s : State) (h : Nat) : Nat :=
  match s.sch.active with | some sh => sh.depths.getD h 0 | none => 0

/-- Note a full push or an empty pop: HOPF, counter, interrupt, fault 0x13 once a frame and hopper (R62). -/
def State.misuse (s : State) (h : Nat) (full : Bool) : State :=
  let s := if full then s.bump Addr.SCH_HOP_FULL ⟨0, 32⟩ else s.bump Addr.SCH_HOP_EMPTY ⟨0, 32⟩
  let s := (s.wf Addr.SCH_STAT Fl.SCH_STAT_HOPF 1).irq 1 2
  if s.sch.fullM.contains (2 * h + b2n full) then s
  else { (s.raise 0x13 h 1) with sch := { s.sch with fullM := s.sch.fullM ++ [2 * h + b2n full] } }

/-- Push words to a hopper; 0xFF pushes nothing (R61); a word that finds it full is discarded (R62). -/
def State.push (s : State) (h : Nat) : List Word → State
  | [] => s
  | w :: ws =>
    if h = 0xFF then s
    else
      let q := s.hop h
      if q.length < s.depth h then (s.setHop h (q ++ [w])).push h ws
      else (s.misuse h true).push h ws

/-- Pop `n` words from a hopper, 0x0000_0000 for each one missing (R62); 0xFF pops nothing and gives zeros (R61). -/
def State.pop (s : State) (h : Nat) : Nat → List Word × State
  | 0 => ([], s)
  | n + 1 =>
    if h = 0xFF then (List.replicate (n + 1) 0, s)
    else
      match s.hop h with
      | w :: q =>
        let r := (s.setHop h q).pop h n
        (w :: r.1, r.2)
      | [] =>
        let r := (s.misuse h false).pop h n
        (0 :: r.1, r.2)

/-- The words a slot takes whose operand is optional: `n` of 0, or the hopper 0xFF, takes none (R61). -/
def State.popOpt (s : State) (h n : Nat) : List Word × State := if n = 0 ∨ h = 0xFF then ([], s) else s.pop h n

/-! ### Slots and records of the running sheaf -/

/-- The slot k of the running sheaf when it is the operation asked for and may run now (R76, R78); operations of an
absent unit never stand in a sheaf (R71). -/
def State.slot? (s : State) (k unit op : Nat) : Option Slot :=
  if s.running && !s.sch.aborted then
    match s.sch.active with
    | some sh =>
      match sh.slots[k]? with
      | some sl => if sl.unit = unit ∧ sl.op = op then some sl else none
      | none => none
    | none => none
  else none

/-- Records of a type in the running sheaf, in image order (R66). -/
def State.recsOf (s : State) (typ : Nat) : List SRec :=
  match s.sch.active with | some sh => sh.recs.filter (fun r => r.typ == typ) | none => []

/-- Word k of a record, counted from the head as word 0 (R66). -/
def SRec.w (r : SRec) (k : Nat) : Nat := if k = 0 then r.typ + r.len * 65536 else r.ws.getD (k - 1) 0

/-- Bits hi:lo of word k of a record. -/
def SRec.b (r : SRec) (k hi lo : Nat) : Nat := (r.w k >>> lo) % 2 ^ (hi + 1 - lo)

/-! ### Free values -/

/-- The number under which the next free value is asked for, and the state with the counter advanced. -/
def State.fresh (s : State) : Nat × State := (s.free, { s with free := s.free + 1 })

/-- A free value. -/
def State.freeVal (s : State) : Nat × State := (Config.freeWord s.free, { s with free := s.free + 1 })

/-- A quotient as a whole number; one that is none goes up or down freely, where the manual gives no rounding. -/
def State.freeRound (s : State) (num den : Int) : Int × State :=
  if den = 0 then (Config.freeWord s.free, { s with free := s.free + 1 })
  else if num % den = 0 then (num / den, s)
  else (if Config.roundUp s.free then num / den + 1 else num / den, { s with free := s.free + 1 })

/-- A signed value for a field of w bits; one that does not fit is a free value, where the manual gives no limit. -/
def State.fitS (s : State) (w : Nat) (v : Int) : Nat × State :=
  if - 2 ^ (w - 1) ≤ v ∧ v < 2 ^ (w - 1) then (enc w v, s) else (Config.freeWord s.free % 2 ^ w, { s with free := s.free + 1 })

/-- The same for an unsigned field. -/
def State.fitU (s : State) (w : Nat) (v : Int) : Nat × State :=
  if 0 ≤ v ∧ v < 2 ^ w then (v.toNat, s) else (Config.freeWord s.free % 2 ^ w, { s with free := s.free + 1 })

end Sys2Proof.Machine
end

