-- ==== Sys2Proof/Machine/Feedback.lean ====
section
/-! DEFINITION. Position and speed feedback (chapter 03, R110–R157): counting, index, serial words, the speed
estimator, position and speed at the frame edge. -/

namespace Sys2Proof.Machine

/-- The state of channel n. -/
def State.fbS (s : State) (n : Nat) : FbS := s.fb.getD n FbS.init

/-- Change the state of channel n. -/
def State.modFb (s : State) (n : Nat) (f : FbS → FbS) : State := { s with fb := setAt 8 FbS.init s.fb n f }

/-- MODE of a channel in effect (R111): an absent channel, or one held off by CFGERR (R113), is off. -/
def State.fbMode (s : State) (n : Nat) : Nat :=
  if s.hasFb n && !(s.fbS n).cfgerr then s.rf (Addr.FB_CTL n) Fl.FB_CTL_MODE else 0

/-- Speed units per position unit, u of R137, by UNIT. -/
def fbU (unit : Nat) : Int := if unit = 2 then 10 else 1

def State.fbUnit (s : State) (n : Nat) : Nat := s.rf (Addr.FB_CTL n) Fl.FB_CTL_UNIT

def State.fbNum (s : State) (n : Nat) : Int := sext 16 (s.rf (Addr.FB_SCALE n) Fl.FB_SCALE_NUM)

def State.fbDen (s : State) (n : Nat) : Int := s.rf (Addr.FB_SCALE n) Fl.FB_SCALE_DEN

/-- Has the channel a position: on, no timeout, in a serial mode a first valid word (R126, R127, R151)? -/
def State.fbPlaced (s : State) (n : Nat) : Bool :=
  let c := s.fbS n
  s.fbMode n != 0 && !c.tout && (decide (s.fbMode n < 3) || c.seen)

/-- Report the read-only status bits of a channel that follow its own state (R151); ZFLT's rise raises its fault (R133, R148). -/
def State.fbShow (s : State) (n : Nat) : State :=
  let c := s.fbS n
  let zflt := decide (c.miss ≥ s.rf (Addr.FB_ZCFG n) Fl.FB_ZCFG_ZMLIM)
  let valid := s.fbPlaced n && !c.possat
  let a := Addr.FB_STAT n
  let rise := zflt && !s.flag a Fl.FB_STAT_ZFLT
  let s := (s.wf a Fl.FB_STAT_MISSCNT c.miss).wf a Fl.FB_STAT_CFGERR (b2n c.cfgerr)
  let s := (s.wf a Fl.FB_STAT_TOUT (b2n c.tout)).wf a Fl.FB_STAT_STALE (b2n c.stale)
  let s := (s.wf a Fl.FB_STAT_ZFLT (b2n zflt)).wf a Fl.FB_STAT_ZARMED (b2n c.zarmed)
  let s := (s.wf a Fl.FB_STAT_ZREF (b2n c.zref)).wf a Fl.FB_STAT_VALID (b2n valid)
  if rise then (s.irq 11 6).raise 0x38 n 1 else s

/-- A status bit of a channel rises: interrupt of group 11 and the fault of R148; a bit already set raises nothing. -/
def State.fbRise (s : State) (n : Nat) (f : Fld) (code cls : Nat) : State :=
  if s.flag (Addr.FB_STAT n) f then s
  else ((s.wf (Addr.FB_STAT n) f 1).irq 11 6).raise code n cls

/-- Count index misses and judge ZMLIM (R131, R133). -/
def State.fbMiss (s : State) (n : Nat) (m : Nat) : State :=
  (s.modFb n (fun c => { c with miss := m })).fbShow n

/-- The estimator at a counted edge (R142), positions taken from the accumulator. -/
def EstS.edge (e : EstS) (neg : Bool) (a : Int) (t : Nat) : EstS :=
  let h := e.edges.headD (a, t)
  match e.est with
  | .still => { e with est := .first, dirNeg := neg, tFirst := t, edges := [(a, t)] }
  | .first =>
    if neg = e.dirNeg then { e with est := .run, edges := (a, t) :: e.edges }
    else { e with dirNeg := neg, tFirst := t, edges := [(a, t)] }
  | .run =>
    if neg = e.dirNeg then { e with edges := (a, t) :: e.edges }
    else { e with est := .rev, dirNeg := neg, cPrev := h.1, tPrev := h.2, cRev := a, tRev := t, edges := [(a, t)] }
  | .rev =>
    if neg = e.dirNeg then { e with est := .run, edges := [(a, t), (e.cRev, e.tRev)] }
    else { e with dirNeg := neg, cPrev := e.cRev, tPrev := e.tRev, cRev := a, tRev := t, edges := [(a, t)] }

/-- Drop edges no window of R141 can reach any more at any frame rate; the newest two always stay. -/
def EstS.prune (e : EstS) (from_ : Nat) : EstS :=
  { e with edges := e.edges.take 2 ++ (e.edges.drop 2).takeWhile (fun p => decide (p.2 ≥ from_)) }

/-- The divider at a counted edge of FB6 or FB7 (R146). -/
def State.fbDivide (s : State) (n : Nat) (d : Int) : State :=
  if (n == 6 || n == 7) && s.flag (Addr.FB_OUT n) Fl.FB_OUT_DIVEN then
    let num : Int := s.rf (Addr.FB_DIV n) Fl.FB_DIV_NUMD
    let den : Int := s.rf (Addr.FB_DIV n) Fl.FB_DIV_DEND
    if den = 0 then s
    else
      let r := (s.fbS n).rem + d * num
      s.modFb n (fun c => { c with rem := (r % den).toNat, outCnt := c.outCnt + r / den })
  else s

/-- A counted edge of `d` counts at time t (R117, R120, R131, R142, R144, R146). -/
def State.fbEdge (s : State) (n : Nat) (d : Int) (t : Nat) : State :=
  let c := s.fbS n
  let a := c.acc + d
  let s := s.modFb n (fun c =>
    { c with cnt := sext 48 (enc 48 (c.cnt + d)), acc := a, tLast := t, e := c.e.edge (decide (d < 0)) a t })
  let s := s.fbDivide n d
  let cpr : Int := (s.rd (Addr.FB_ZCPR n)).toNat
  if s.fbMode n = 1 ∧ c.zref = true ∧ cpr > 0 ∧ (a - c.ref).natAbs > (3 * cpr / 2).toNat then
    let s := s.modFb n (fun c => { c with ref := if a - c.ref > 0 then c.ref + cpr else c.ref - cpr })
    let s := s.wf (Addr.FB_STAT n) Fl.FB_STAT_ZMISSING 1
    s.fbMiss n (min (c.miss + 1) 255)
  else s.fbShow n

/-- The place of accepted levels in the quadrature sequence, A leading B counting up (R117). -/
def quadPos (a b : Bool) : Nat :=
  match a, b with
  | false, false => 0 | true, false => 1 | true, true => 2 | false, true => 3

/-- Accepted levels in quadrature mode go from `old` to `lv`: counting (R117, R118). -/
def State.quadCount (s : State) (n old lv : Nat) : State :=
  match (quadPos (bitOf lv 0) (bitOf lv 1) + 4 - quadPos (bitOf old 0) (bitOf old 1)) % 4 with
  | 1 => s.fbEdge n 1 s.now
  | 3 => s.fbEdge n (-1) s.now
  | 2 => (s.bump (Addr.FB_ERRCNT n) Fl.FB_ERRCNT_QCNT).fbRise n Fl.FB_STAT_QERR 0x31 1
  | _ => s

/-- The place of a hall code in the positive sequence (R119); none for 0b000 and 0b111. -/
def hallPos (h : Nat) : Option Nat :=
  match h with
  | 1 => some 0 | 3 => some 1 | 2 => some 2 | 6 => some 3 | 4 => some 4 | 5 => some 5 | _ => none

/-- A new accepted hall code (R119). It is judged against HCODE; where HCODE is still 0 it is taken without counting (log entry
132). -/
def State.hallCount (s : State) (n h : Nat) : State :=
  let old := s.rf (Addr.FB_STAT n) Fl.FB_STAT_HCODE
  match hallPos h with
  | none => (s.bump (Addr.FB_ERRCNT n) Fl.FB_ERRCNT_QCNT).fbRise n Fl.FB_STAT_HALLERR 0x32 1
  | some p =>
    let s := s.wf (Addr.FB_STAT n) Fl.FB_STAT_HCODE h
    match hallPos old with
    | none => s
    | some q =>
      match (p + 6 - q) % 6 with
      | 0 => s
      | 1 => s.fbEdge n 1 s.now
      | 5 => s.fbEdge n (-1) s.now
      | _ => (s.bump (Addr.FB_ERRCNT n) Fl.FB_ERRCNT_QCNT).fbRise n Fl.FB_STAT_QERR 0x31 1

/-- The deviation of an index from the centre of its window (R131). -/
def indexDev (d cpr : Int) : Int :=
  if (2 * d).natAbs ≤ cpr.natAbs then d else if d > 0 then d - cpr else d + cpr

/-- The index condition at accepted levels (R129): Z at its active level (ZPOL), and the gate of ZGATE. -/
def State.indexOn (s : State) (n lv : Nat) : Bool :=
  (bitOf lv 2 != s.flag (Addr.FB_CTL n) Fl.FB_CTL_ZPOL) &&
    (match s.rf (Addr.FB_CTL n) Fl.FB_CTL_ZGATE with
     | 1 => bitOf lv 0 && bitOf lv 1
     | 2 => !bitOf lv 0 && !bitOf lv 1
     | _ => true)

/-- A qualified index is judged (R130–R132). -/
def State.fbIndex (s : State) (n : Nat) : State :=
  let c := s.fbS n
  let cpr : Int := (s.rd (Addr.FB_ZCPR n)).toNat
  let zm := s.rf (Addr.FB_CTL n) Fl.FB_CTL_ZMODE
  let anyw := !c.zref || cpr == 0
  let dev : Int := if anyw then 0 else indexDev (c.acc - c.ref) cpr
  let inwin := anyw || decide (dev.natAbs ≤ s.rf (Addr.FB_ZCFG n) Fl.FB_ZCFG_ZTOL)
  let s := s.modFb n (fun c => { c with zlat := c.acc, zdev := dev })
  if inwin then
    let ld := zm == 1 || (zm == 2 && c.zarmed)
    let s := s.modFb n (fun c => { c with
      ref := c.acc, zref := true,
      cnt := if ld then s.rs (Addr.FB_PRE n) else c.cnt, zarmed := c.zarmed && !ld })
    s.fbMiss n 0
  else
    (s.wf (Addr.FB_STAT n) Fl.FB_STAT_ZWIN 1).fbMiss n (min (c.miss + 1) 255)

/-- New accepted levels: kept in every mode whose pads are inputs; a counting mode counts, an edge before an index of the same
cycle (R111, R134). In a serial mode the pads carry no levels: those accepted before it stay, and a counting mode that follows
judges its first transition against them; an index condition that holds already when MODE, ZPOL or ZGATE is applied qualifies
none, its first cycle being past (log entry 175). -/
def State.fbLevels (s : State) (n lv : Nat) : State :=
  let m := s.fbMode n
  let old := (s.fbS n).lvl
  if m ≥ 3 then s
  else
    let s := s.modFb n (fun c => { c with lvl := lv })
    if m = 1 then
      let s := s.quadCount n old lv
      if s.indexOn n lv && !s.indexOn n old then s.fbIndex n else s
    else if m = 2 then (if lv = old then s else s.hallCount n lv)
    else s

/-- The level a filter gives: the sampled one after FILT + 1 equal samples, before that the accepted one (R116). -/
def State.filtered (s : State) (n : Nat) (p : Pad) (old : Bool) : Bool :=
  if s.rf (Addr.FB_CTL n) Fl.FB_CTL_FILT < p.run then p.lvl else old

/-- A pad that a row says nothing of. -/
def Pad.unsaid : Pad := ⟨false, 0⟩

/-- The accepted levels after a cycle with these pads A, B and Z, or H1 to H3. -/
def State.filterPads (s : State) (n : Nat) (a b z : Pad) : Nat :=
  let l := (s.fbS n).lvl
  b2n (s.filtered n a (bitOf l 0)) + 2 * b2n (s.filtered n b (bitOf l 1)) + 4 * b2n (s.filtered n z (bitOf l 2))

/-- QUADRATURE_EDGE: the pads A and B in cycle `cyc` (R116–R118). -/
def State.quadratureEdge (s : State) (n : Nat) (a b : Pad) (cyc : Nat) : State :=
  let s := s.at cyc
  s.fbLevels n (s.filterPads n a b Pad.unsaid)

/-- HALL_TRANSITION: the same for the pads H1 to H3 (R116, R119). -/
def State.hallTransition (s : State) (n : Nat) (h : HallPads) (cyc : Nat) : State :=
  let s := s.at cyc
  s.fbLevels n (s.filterPads n h.h1 h.h2 h.h3)

/-- QUALIFIED_INDEX: the same for the pad Z (R116, R129–R132). -/
def State.qualifiedIndex (s : State) (n : Nat) (z : ZPad) : State :=
  let s := s.at z.cyc
  s.fbLevels n (s.filterPads n Pad.unsaid Pad.unsaid z.pad)

/-- One bit fed to a CRC register of width w. -/
def crcBit (w poly reg : Nat) (b : Bool) : Nat :=
  let top := bitOf reg (w - 1) != b
  let r := (reg <<< 1) % 2 ^ w
  if top then r ^^^ (poly % 2 ^ w) else r

/-- A CRC over the low `k` bits of a value, most significant first. -/
def crcBits (w poly : Nat) : Nat → Nat → Nat → Nat
  | 0, _, reg => reg
  | k + 1, v, reg => crcBits w poly k v (crcBit w poly reg (bitOf v k))

/-- Gray decoding of a word of up to 40 bits (R124). -/
def grayDecode (v : Nat) : Nat :=
  let v := v ^^^ (v >>> 32)
  let v := v ^^^ (v >>> 16)
  let v := v ^^^ (v >>> 8)
  let v := v ^^^ (v >>> 4)
  let v := v ^^^ (v >>> 2)
  v ^^^ (v >>> 1)

/-- Does the received CRC of a serial word match (R123, R124)? -/
def State.serialCrcOk (s : State) (n data : Nat) (eb wb : Bool) (crc : Nat) : Bool :=
  let a := Addr.FB_SER n
  let bits := s.rf a Fl.FB_SER_DBITS
  if s.fbMode n = 3 then
    let c := crcBits 6 0x03 (bits + 2) (data * 4 + b2n eb * 2 + b2n wb) 0
    (c ^^^ 0x3F) == crc % 64
  else
    let w := s.rf (Addr.FB_SCRC n) Fl.FB_SCRC_WIDTH
    if w = 0 then true
    else
      let poly := s.rf (Addr.FB_SCRC n) Fl.FB_SCRC_POLY
      let c := if s.flag a Fl.FB_SER_ERRBIT then crcBits w poly (bits + 1) (data * 2 + b2n eb) 0
               else crcBits w poly bits data 0
      let c := if s.flag (Addr.FB_SCRC n) Fl.FB_SCRC_INV then c ^^^ (2 ^ w - 1) else c
      c == crc % 2 ^ w

/-- A valid serial word moves the counter (R127) and is an edge when the position differs (R144). -/
def State.serialValid (s : State) (n pos t : Nat) : State :=
  let c := s.fbS n
  let bits := s.rf (Addr.FB_SER n) Fl.FB_SER_DBITS
  let d : Int := match c.word with
    | some p => sext bits (pos + 2 ^ bits - p % 2 ^ bits)
    | none => pos
  let restart := c.tout
  let s := s.modFb n (fun c => { c with word := some pos, seen := true, got := true, tout := false, stale := false, missing := 0 })
  let s :=
    if c.word.isNone then s.modFb n (fun c => { c with cnt := sext 48 (enc 48 (c.cnt + d)), acc := c.acc + d, tLast := t })
    else if restart then
      s.modFb n (fun c => { c with cnt := sext 48 (enc 48 (c.cnt + d)), acc := c.acc + d, tLast := t,
                                   e := { c.e with est := .still, edges := [] } })
    else if d = 0 then s.modFb n (fun c => { c with tLast := t })
    else s.fbEdge n d t
  s.fbShow n

/-- SERIAL_WORD: the end of a transfer: whether its start bit came in time, the bits received, and the cycle at which the line
went idle; a word that is not complete before cycle N − 1 of the frame that asked for it is not in time (R121–R127). The raw
registers take what the line gave also where the start bit did not come in time (log entry 176). -/
def State.serialWord (s : State) (n : Nat) (inTime : Bool) (data : Nat) (eb wb : Bool) (crc cyc : Nat) : State :=
  let s := s.at cyc
  if s.fbMode n = 3 ∨ s.fbMode n = 4 then
    if (s.fbS n).xfer then
      let a := Addr.FB_SER n
      let bits := s.rf a Fl.FB_SER_DBITS
      let data := data % 2 ^ bits
      let inTime := inTime && (s.fbS n).xferT == s.ecyc && decide (cyc + 1 < s.ncyc)
      let s := s.modFb n (fun c => { c with xfer := false, idleAt := s.now })
      let s := s.wr (Addr.FB_SRAW_LO n) (wN data)
      let s := s.wr (Addr.FB_SRAW_HI n) (setF (setF (setF (setF 0 Fl.FB_SRAW_HI_CRCRX crc) Fl.FB_SRAW_HI_WB (b2n wb))
        Fl.FB_SRAW_HI_EB (b2n eb)) Fl.FB_SRAW_HI_DHI (data >>> 32))
      if !inTime then s.fbRise n Fl.FB_STAT_TRUNC 0x36 0
      else if !s.serialCrcOk n data eb wb crc then
        (s.bump (Addr.FB_ERRCNT n) Fl.FB_ERRCNT_CCNT).fbRise n Fl.FB_STAT_CRCERR 0x33 0
      else
        let err := if s.fbMode n = 3 then !eb
          else s.flag a Fl.FB_SER_ERRBIT && (eb == s.flag a Fl.FB_SER_ERRLVL)
        if err then (s.bump (Addr.FB_ERRCNT n) Fl.FB_ERRCNT_ECNT).fbRise n Fl.FB_STAT_ENCERR 0x34 1
        else
          let s := if s.fbMode n = 3 ∧ wb = false then s.fbRise n Fl.FB_STAT_ENCWARN 0x35 0 else s
          let pos := if s.fbMode n = 4 ∧ s.flag (Addr.FB_OUT n) Fl.FB_OUT_GRAY = true then grayDecode data else data
          s.serialValid n pos (s.ecyc + 20 * s.rf a Fl.FB_SER_SLAT)
    else s
  else s

/-- SERIAL_TIMEOUT: TOUT consecutive words are missing (R126), the last perhaps in the frame a change of MODE ends. -/
def State.serialTimeout (s : State) (n : Nat) : State :=
  let c := s.fbS n
  if (s.fbMode n ≥ 3 ∨ c.ser = true) ∧ c.missing ≥ s.rf (Addr.FB_SER n) Fl.FB_SER_TOUT ∧ c.tout = false then
    let s := (s.modFb n (fun c => { c with tout := true })).fbShow n
    (s.irq 11 6).raise 0x37 n 2
  else s

/-- STANDSTILL: no counted edge for TSTILL at a cycle 0 (R142). -/
def State.standstill (s : State) (n : Nat) : State :=
  let c := s.fbS n
  let lim := 20000 * s.rf (Addr.FB_SPDCFG n) Fl.FB_SPDCFG_TSTILL
  match c.l.e.est, c.l.e.edges with
  | .still, _ => s
  | _, [] => s
  | _, (_, t) :: _ =>
    if c.l.tfe - t ≥ lim then
      s.modFb n (fun c =>
        let e := if c.e.edges = c.l.e.edges then { c.e with est := .still, edges := [] } else c.e
        { c with l := { c.l with e := { c.l.e with est := .still, edges := [] } }, e := e })
    else s

/-- FBn_CNT, FBn_TS, FBn_TFE, FBn_ZLAT and FBn_ZDEV take the values latched in cycle 0 (R136, R152). -/
def State.fbCounts (s : State) (n : Nat) : State :=
  let l := (s.fbS n).l
  let s := ((s.wr (Addr.FB_CNT n) (wI l.cnt)).wr (Addr.FB_TS n) (wN l.t)).wr (Addr.FB_TFE n) (wN l.tfe)
  (s.wr (Addr.FB_ZLAT n) (wI l.zlat)).wr (Addr.FB_ZDEV n) (wI l.zdev)

/-- A channel that was in a serial mode through the frame that ended: did a valid word come (R126)? -/
def State.fbMissing (s : State) (n : Nat) : State :=
  let c := s.fbS n
  if !c.ser then s
  else if c.got then s.modFb n (fun c => { c with stale := false })
  else ((s.modFb n (fun c => { c with stale := true, missing := c.missing + 1 })).bump (Addr.FB_ERRCNT n) Fl.FB_ERRCNT_MCNT).serialTimeout n

/-- A channel in cycle 0 of a frame: a missing word is counted (R126), counter, time stamp and estimator are latched (R136, R142), a
serial transfer starts when the line has been idle for TREC (R121). The counts show at once while no schedule runs; else with
the commit, so that they are of one committed frame with the report registers (R139; log entry 133). -/
def State.fbCycle0 (s : State) (n : Nat) : State :=
  let s := s.fbMissing n
  let ser := decide (s.fbMode n ≥ 3)
  let idle := decide (s.ecyc ≥ (s.fbS n).idleAt + 50 * s.rf (Addr.FB_SCRC n) Fl.FB_SCRC_TREC)
  let ok := s.fbPlaced n
  let s := s.modFb n (fun c =>
    let e := c.e.prune (s.ecyc - 16 * ncycOf 0)
    let go := ser && idle && !c.xfer
    { c with l := ⟨c.cnt, c.tLast, s.ecyc, e, c.zlat, c.zdev, ok⟩, e := e, got := false, ser := ser,
             xfer := ser && (c.xfer || idle), xferT := if go then s.ecyc else c.xferT })
  let s := (s.standstill n).fbShow n
  if s.running then s else s.fbCounts n

/-- Every present channel in cycle 0 of a frame. -/
def State.fbLatchAll (s : State) : State := ((List.range 8).filter (fun n => s.hasFb n)).foldl State.fbCycle0 s

/-- FB_LATCH: the latched values move on to FB_SPEED (R140). -/
def State.fbLatch (s : State) (n : Nat) : State := s.modFb n (fun c => { c with m := c.l })

/-- POSSAT has taken its value at a commit: VALID follows, its rise raises its fault (R148, R151). -/
def State.possatShown (s : State) (n : Nat) : State :=
  let now := s.flag (Addr.FB_STAT n) Fl.FB_STAT_POSSAT
  let was := (s.fbS n).possat
  let s := (s.modFb n (fun c => { c with possat := now })).fbShow n
  if now && !was then (s.irq 11 6).raise 0x39 n 2 else s

/-- The channels at a commit (R58, R136, R152). -/
def State.fbCommit (s : State) : State :=
  ((List.range 8).filter (fun n => s.hasFb n)).foldl (fun s n => (s.fbCounts n).possatShown n) s

/-- The earliest edge of the window of R141, from the edges after the newest; with none in the window the edge just before the
newest, also when the newest lies outside it too (log entry 174). -/
def windowEdge (from_ : Nat) : List (Int × Nat) → (Int × Nat) → (Int × Nat)
  | [], b => b
  | e :: es, b => if e.2 ≥ from_ then windowEdge from_ es e else b

/-- |num| · 200,000,000 · counts / (den · cycles), truncated (R141, R143). -/
def rate (num den : Int) (counts : Nat) (cycles : Nat) : Nat :=
  num.natAbs * 200000000 * counts / (den.natAbs * cycles)

/-- What FB_SPEED forms: position, speed, bound, flags (R137, R138, R141–R144). -/
structure FbOut where
  pos   : Int
  sat   : Bool
  vel   : Int
  vsat  : Bool
  bnd   : Nat
  decay : Bool
  low   : Bool
deriving DecidableEq, Repr

/-- The speed report of the estimator latched at cycle 0. -/
def speedOf (e : EstS) (num den : Int) (win tfe n : Nat) (bounded : Bool) : Nat × Nat × Bool × Bool :=
  match e.est, e.edges with
  | .still, _ => (0, 0, false, false)
  | .first, _ => (0, rate num den 1 (tfe - e.tFirst), false, true)
  | .run, (cl, tl) :: rest =>
    let r := windowEdge (tfe - (win + 1) * n) rest (rest.headD (cl, tl))
    let r := if rest.isEmpty then (cl, tl) else r
    let v := rate num den (cl - r.1).natAbs (tl - r.2)
    let b := rate num den 1 (tfe - tl)
    if bounded && decide (b < v) then (b, b, true, false) else (v, b, false, false)
  | .rev, (_, tl) :: _ =>
    let v := rate num den (e.cRev - e.cPrev).natAbs (e.tRev - e.tPrev)
    let b := rate num den 1 (tfe - tl)
    if bounded && decide (b < v) then (b, b, true, true) else (v, b, false, true)
  | _, [] => (0, 0, false, false)

/-- The values FB_SPEED forms for channel n from what FB_LATCH moved on (R137–R144). In a serial mode the bound VBND limits the speed only when a
word newer than the newest edge has arrived (DEDUCED: the worked example of R140 reports 10 m/s beside a bound of one
count). -/
def State.fbForm (s : State) (n : Nat) : FbOut :=
  let c := s.fbS n
  let u := fbU (s.fbUnit n)
  let num := s.fbNum n
  let den := s.fbDen n
  let serial := decide (s.fbMode n ≥ 3)
  let e := c.m.e
  let tl := (e.edges.headD (0, c.m.t)).2
  let (v, b, dec, low) := speedOf e (u * num) den (s.rf (Addr.FB_SPDCFG n) Fl.FB_SPDCFG_WIN) c.m.tfe s.ncyc
    (!serial || decide (tl < c.m.t))
  let neg := e.dirNeg != decide (num < 0)
  let vsat := decide (v > 0x7FFFFFFF)
  let mag : Int := (min v 0x7FFFFFFF : Nat)
  let vel := if neg then - mag else mag
  let ext := if serial then (e.est == .run || e.est == .rev) && !c.tout else e.est == .run
  let dt : Int := (c.m.tfe - c.m.t : Nat)
  let scale := den * u * 200000000
  let x := c.m.cnt * num * u * 200000000 + (if ext then vel * dt * den else 0)
  let p := if scale ≤ 0 then 0 else divNear x scale
  let ps := satS 32 p
  ⟨ps, decide (ps ≠ p), vel, vsat, satU 32 b, dec, low⟩

/-- FB_SPEED: position, speed, bound and flags for the frame edge, shown at the commit (R114, R138, R143, R148). A channel in
MODE 0 stands STILL at its counter; in a serial mode TOUT freezes position and speed (R126). A first valid word after TOUT that
comes before this slot ends the freeze in its own frame, whose values are of the estimator latched in cycle 0 (log entry 176).
Before any edge DIR is the sign of NUM, as for a forward edge (log entry 174). -/
def State.fbSpeed (s : State) (n : Nat) : State :=
  let c := s.fbS n
  let o := s.fbForm n
  let est := match c.m.e.est with | .still => 0 | .first => 1 | .run => 2 | .rev => 3
  let spd := setF (setF (setF (setF (setF 0 Fl.FB_SPD_EST est) Fl.FB_SPD_VSAT (b2n o.vsat)) Fl.FB_SPD_DECAY (b2n o.decay))
    Fl.FB_SPD_DIR (b2n (c.m.e.dirNeg != decide (s.fbNum n < 0)))) Fl.FB_SPD_LOWCONF (b2n o.low)
  let s := (s.pub (Addr.FB_SPD n) spd).pub (Addr.FB_VBND n) (wN o.bnd)
  let s := if c.tout ∧ s.fbMode n ≥ 3 then s else (s.pub (Addr.FB_POS n) (wI o.pos)).pub (Addr.FB_VEL n) (wI o.vel)
  s.pubF (Addr.FB_STAT n) Fl.FB_STAT_POSSAT (b2n o.sat)

/-- R115: what a change of MODE sets, at the boundary that applies it; TOUT and STALE stay as they are, but for a word missing in
the serial frame that ends here, which is counted first (R126). The counter takes the FBn_PRE that stands when MODE is applied
(log entry 134); hall mode starts with the code that stands on the pads, if it is valid (log entry 132). -/
def State.fbModeSet (s : State) (n : Nat) : State :=
  let s := s.fbMissing n
  let s := s.modFb n (fun c => { c with
    cnt := s.rs (Addr.FB_PRE n), acc := 0, ref := 0, zref := false, zarmed := false, word := none, seen := false, got := false,
    ser := false, missing := 0, xfer := false, e := EstS.init })
  let h := (s.fbS n).lvl
  let s := if s.fbMode n = 2 ∧ (hallPos h).isSome = true then s.wf (Addr.FB_STAT n) Fl.FB_STAT_HCODE h else s
  s.fbShow n

/-- FBn_CMD.POS_SET: the counter takes PRE (R155). -/
def State.posSet (s : State) (n : Nat) : State :=
  if s.hasFb n then s.modFb n (fun c => { c with cnt := s.rs (Addr.FB_PRE n) }) else s

/-- FBn_CMD.ZREF_CLR: the index reference is dropped (R155). -/
def State.zrefClr (s : State) (n : Nat) : State :=
  if s.hasFb n then (s.modFb n (fun c => { c with zref := false })).fbShow n else s

/-- FBn_CMD.ZARM: the one-time index reset is armed in ZMODE 2 of quadrature mode; ignored otherwise (R129, R155). -/
def State.zarm (s : State) (n : Nat) : State :=
  if s.fbMode n = 1 ∧ s.rf (Addr.FB_CTL n) Fl.FB_CTL_ZMODE = 2 then
    (s.modFb n (fun c => { c with zarmed := true })).fbShow n
  else s

/-- R139: a read of FBn_POS takes the snapshot that later reads of the companion registers return. -/
def State.posSnapshot (s : State) (n : Nat) : State :=
  s.modFb n (fun c => { c with
    snap :=
    [s.rd (Addr.FB_CNT n), s.rd (Addr.FB_VEL n), s.rd (Addr.FB_SPD n), s.rd (Addr.FB_VBND n), s.rd (Addr.FB_TS n),
     s.rd (Addr.FB_TFE n), s.rd (Addr.FB_ZLAT n), s.rd (Addr.FB_ZDEV n)] })

/-- The levels on FBn_AO, FBn_BO, FBn_ZO as bits 0 to 2 (R145, R146): the index output is high while the index condition holds.
Outputs that repeat nothing are low: in MODE 0, and AO and BO while DIVEN = 0, whose phase stays for the next DIVEN = 1 (log entry
177). -/
def State.fbPads (s : State) (n : Nat) : Nat :=
  let c := s.fbS n
  if n < 6 then
    if s.flag (Addr.FB_OUT n) Fl.FB_OUT_PTEN && (s.fbMode n == 1 || s.fbMode n == 2) then c.lvl else 0
  else
    let ab := if s.flag (Addr.FB_OUT n) Fl.FB_OUT_DIVEN then
      match (c.outCnt % 4).toNat with | 0 => 0 | 1 => 1 | 2 => 3 | _ => 2 else 0
    ab + 4 * b2n (s.fbMode n == 1 && s.indexOn n c.lvl && s.flag (Addr.FB_OUT n) Fl.FB_OUT_ZOEN)

end Sys2Proof.Machine
end

