-- ==== Sys2Proof/Machine/Float.lean ====
section
/-! DEFINITION. IEEE 754 arithmetic by exact rounding: binary32 as the engine computes it (R203) and binary64 as the
segment-table check computes it (R168). -/

namespace Sys2Proof.Machine

/-- A number of either format: not a number, an infinity, or sign, magnitude and power of two. -/
inductive Fv
  | nan
  | inf (neg : Bool)
  | fin (neg : Bool) (m : Nat) (e : Int)
deriving DecidableEq, Repr

/-- Number of binary digits. -/
def bitLen (m : Nat) : Nat := if m = 0 then 0 else Nat.log2 m + 1

/-- A magnitude shifted right with rounding to nearest, ties to even. -/
def shrRound (m k : Nat) : Nat :=
  let q := m >>> k
  let r := m % 2 ^ k
  let h := 2 ^ k / 2
  if k = 0 then m else if r > h then q + 1 else if r < h then q else if q % 2 = 1 then q + 1 else q

/-- Round to `p` digits with unbounded exponent. -/
def roundP (p : Nat) (neg : Bool) (m : Nat) (e : Int) : Fv :=
  let l := bitLen m
  if l ≤ p then .fin neg m e else .fin neg (shrRound m (l - p)) (e + (l - p : Nat))

/-- Round to `p` digits, no digit below 2^emin: gradual underflow. -/
def roundG (p : Nat) (emin : Int) (neg : Bool) (m : Nat) (e : Int) : Fv :=
  let k := max (bitLen m - p) (if e < emin then (emin - e).toNat else 0)
  .fin neg (shrRound m k) (e + k)

/-- Do two magnitudes stand in the order m1·2^e1 < m2·2^e2? -/
def magLt (m1 : Nat) (e1 : Int) (m2 : Nat) (e2 : Int) : Bool :=
  let e := min e1 e2
  decide (m1 <<< (e1 - e).toNat < m2 <<< (e2 - e).toNat)

/-- The result of the engine after rounding (R203): below 2^-126 zero of the same sign, from 2^128 an infinity. -/
def fin32 (v : Fv) : Fv :=
  match v with
  | .fin neg m e =>
    if m = 0 then .fin neg 0 0
    else if magLt m e 1 (-126) then .fin neg 0 0
    else if magLt m e 1 128 then v
    else .inf neg
  | _ => v

/-- The binary64 result after rounding. -/
def fin64 (v : Fv) : Fv :=
  match v with
  | .fin neg m e => if m ≠ 0 ∧ magLt m e 1 1024 = false then .inf neg else v
  | _ => v

def rnd32 (neg : Bool) (m : Nat) (e : Int) : Fv := fin32 (roundP 24 neg m e)

def rnd64 (neg : Bool) (m : Nat) (e : Int) : Fv := fin64 (roundG 53 (-1074) neg m e)

/-- Read a binary32 operand; a subnormal reads as zero of its sign (R203). -/
def f32 (w : Word) : Fv :=
  let n := w.toNat
  let neg := decide (n ≥ 2 ^ 31)
  let ex : Nat := (n / 2 ^ 23) % 256
  let fr := n % 2 ^ 23
  if ex = 255 then (if fr = 0 then .inf neg else .nan)
  else if ex = 0 then .fin neg 0 0
  else .fin neg (2 ^ 23 + fr) ((ex : Int) - 150)

/-- Write a rounded number as binary32; a NaN takes the bits given. -/
def toF32 (nanw : Word) (v : Fv) : Word :=
  match v with
  | .nan => nanw
  | .inf neg => wN (b2n neg * 2 ^ 31 + 0x7F800000)
  | .fin neg m e =>
    if m = 0 then wN (b2n neg * 2 ^ 31)
    else
      let l := bitLen m
      let fr := if l ≤ 24 then m <<< (24 - l) else m >>> (l - 24)
      let ex := e + (l : Int) - 24 + 150
      wN (b2n neg * 2 ^ 31 + ex.toNat * 2 ^ 23 + fr % 2 ^ 23)

/-- Exact sum of two finite numbers; an exact zero is negative only when both are. -/
def exactAdd (n1 : Bool) (m1 : Nat) (e1 : Int) (n2 : Bool) (m2 : Nat) (e2 : Int) : Bool × Nat × Int :=
  let e := min e1 e2
  let a : Int := (m1 <<< (e1 - e).toNat : Nat)
  let b : Int := (m2 <<< (e2 - e).toNat : Nat)
  let r := (if n1 then -a else a) + (if n2 then -b else b)
  if r = 0 then (n1 && n2, 0, 0) else (decide (r < 0), r.natAbs, e)

/-- a·b + c with one rounding. -/
def fvFma (rnd : Bool → Nat → Int → Fv) (a b c : Fv) : Fv :=
  match a, b, c with
  | .nan, _, _ | _, .nan, _ | _, _, .nan => .nan
  | .inf na, .fin nb mb _, c =>
    if mb = 0 then .nan else (match c with | .inf nc => if nc = (na != nb) then .inf nc else .nan | _ => .inf (na != nb))
  | .fin na ma _, .inf nb, c =>
    if ma = 0 then .nan else (match c with | .inf nc => if nc = (na != nb) then .inf nc else .nan | _ => .inf (na != nb))
  | .inf na, .inf nb, c => (match c with | .inf nc => if nc = (na != nb) then .inf nc else .nan | _ => .inf (na != nb))
  | .fin _ _ _, .fin _ _ _, .inf nc => .inf nc
  | .fin na ma ea, .fin nb mb eb, .fin nc mc ec =>
    let r := exactAdd (na != nb) (ma * mb) (ea + eb) nc mc ec
    rnd r.1 r.2.1 r.2.2

/-- Negation. -/
def Fv.neg : Fv → Fv
  | .nan => .nan | .inf n => .inf (!n) | .fin n m e => .fin (!n) m e

/-- The product. -/
def fvMul (rnd : Bool → Nat → Int → Fv) (a b : Fv) : Fv :=
  match a, b with
  | .nan, _ | _, .nan => .nan
  | .inf na, .inf nb => .inf (na != nb)
  | .inf na, .fin nb mb _ => if mb = 0 then .nan else .inf (na != nb)
  | .fin na ma _, .inf nb => if ma = 0 then .nan else .inf (na != nb)
  | .fin na ma ea, .fin nb mb eb => rnd (na != nb) (ma * mb) (ea + eb)

/-- The sum. -/
def fvAdd (rnd : Bool → Nat → Int → Fv) (a b : Fv) : Fv :=
  match a, b with
  | .nan, _ | _, .nan => .nan
  | .inf na, .inf nb => if na = nb then .inf na else .nan
  | .inf na, _ => .inf na
  | _, .inf nb => .inf nb
  | .fin na ma ea, .fin nb mb eb => let r := exactAdd na ma ea nb mb eb; rnd r.1 r.2.1 r.2.2

/-- The quotient, with enough digits and a sticky digit before the one rounding. -/
def fvDiv (rnd : Bool → Nat → Int → Fv) (a b : Fv) : Fv :=
  match a, b with
  | .nan, _ | _, .nan => .nan
  | .inf _, .inf _ => .nan
  | .inf na, .fin nb _ _ => .inf (na != nb)
  | .fin na _ _, .inf nb => .fin (na != nb) 0 0
  | .fin na ma ea, .fin nb mb eb =>
    if mb = 0 then (if ma = 0 then .nan else .inf (na != nb))
    else
      let k := 120 + bitLen mb
      let q := (ma <<< k) / mb
      let st := if (ma <<< k) % mb = 0 then 0 else 1
      rnd (na != nb) (2 * q + st) (ea - eb - k - 1)

/-- An integer, rounded. -/
def fvOfInt (rnd : Bool → Nat → Int → Fv) (i : Int) : Fv := rnd (decide (i < 0)) i.natAbs 0

/-- a < b; false when either is not a number. -/
def fvLt (a b : Fv) : Bool :=
  match a, b with
  | .nan, _ | _, .nan => false
  | .inf na, .inf nb => na && !nb
  | .inf na, _ => na
  | _, .inf nb => !nb
  | .fin na ma ea, .fin nb mb eb =>
    let r := exactAdd na ma ea (!nb) mb eb
    r.1 && r.2.1 != 0

/-- a ≤ b; false when either is not a number. -/
def fvLe (a b : Fv) : Bool :=
  match a, b with
  | .nan, _ | _, .nan => false
  | _, _ => !fvLt b a

def Fv.isFin : Fv → Bool
  | .fin _ _ _ => true
  | _ => false

/-- The magnitude. -/
def Fv.abs : Fv → Fv
  | .nan => .nan | .inf _ => .inf false | .fin _ m e => .fin false m e

def Fv.zero : Fv := .fin false 0 0

/-- A NaN result's bits: any payload, from the operands. -/
def nan32 (a b c : Word) : Word :=
  let x := Config.nanBits a b c
  wN ((x / 2 ^ 23 % 2) * 2 ^ 31 + 0x7F800000 + (x % (2 ^ 23 - 1) + 1))

/-- One instruction of an FMA program (R208): A·B + C, or −(A·B) + C. -/
def fma32 (negp : Bool) (a b c : Word) : Word :=
  let x := f32 a
  toF32 (nan32 a b c) (fvFma rnd32 (if negp then x.neg else x) (f32 b) (f32 c))

def mul32 (a b : Fv) : Fv := fvMul rnd32 a b
def add32 (a b : Fv) : Fv := fvAdd rnd32 a b
def sub32 (a b : Fv) : Fv := fvAdd rnd32 a b.neg
def int32 (i : Int) : Fv := fvOfInt rnd32 i

def mul64 (a b : Fv) : Fv := fvMul rnd64 a b
def add64 (a b : Fv) : Fv := fvAdd rnd64 a b
def sub64 (a b : Fv) : Fv := fvAdd rnd64 a b.neg
def div64 (a b : Fv) : Fv := fvDiv rnd64 a b
def int64 (i : Int) : Fv := fvOfInt rnd64 i

/-- The binary32 value nearest to a positive quotient (R204: Ts and 1/Ts). -/
def quot32 (a b : Nat) : Fv := fvDiv rnd32 (.fin false a 0) (.fin false b 0)

end Sys2Proof.Machine
end

