-- ==== Sys2Proof/Machine/Path.lean ====
section
/-! DEFINITION. The arithmetic of commanded paths (R167, R169–R173, R186): jerk-limited ramps and target moves as
phases of constant jerk, and the segment table's cubic. Positions, speeds, accelerations and jerks are integers scaled
by 2^32; times are 1/256 fabric cycles (DESIGN CHOICE: the manual gives no number format of the generator). -/

namespace Sys2Proof.Machine

/-- The scale of path values. -/
def sc : Int := 4294967296

/-- Time units of 1/256 fabric cycle in one second. -/
def ups : Int := 51200000000

/-- Integer square root, one binary digit at a time. -/
def isqrtGo (n : Nat) : Nat → Nat → Nat
  | 0, r => r
  | k + 1, r =>
    let t := r + 2 ^ k
    if t * t ≤ n then isqrtGo n k t else isqrtGo n k r

/-- The largest number whose square does not exceed n. -/
def isqrt (n : Nat) : Nat := isqrtGo n (bitLen n / 2 + 1) 0

/-- Path values after `t` time units of jerk j (u speed units make one position unit per second). -/
def advance (u j : Int) (t : Nat) (p : Int × Int × Int) : Int × Int × Int :=
  let (s, v, a) := p
  let t : Int := t
  (s + divNear (6 * v * t * ups * ups + 3 * a * t * t * ups + j * t * t * t) (6 * u * ups * ups * ups),
   v + divNear (2 * a * t * ups + j * t * t) (2 * ups * ups),
   a + divNear (j * t) ups)

/-- Path values after `t` time units of a list of phases; past the last phase speed and acceleration stay. -/
def runPhases (u : Int) : List (Int × Nat) → Nat → Int × Int × Int → Int × Int × Int
  | [], _, p => p
  | (j, d) :: ps, t, p => if t ≤ d then advance u j t p else runPhases u ps (t - d) (advance u j d p)

/-- Duration of a list of phases. -/
def phasesLen (ps : List (Int × Nat)) : Nat := ps.foldl (fun n p => n + p.2) 0

/-- Where a list of phases ends. -/
def phasesEnd (u : Int) (ps : List (Int × Nat)) (p : Int × Int × Int) : Int × Int × Int :=
  ps.foldl (fun q ph => advance u ph.1 ph.2 q) p

/-- The phases that bring (v, a) to speed vp with a = 0 in the shortest time under |a| ≤ A and jerk J (R170, R171:
with a ≠ 0 the acceleration first turns to the needed side at jerk J). -/
def rampPhases (v a vp A J : Int) : List (Int × Nat) :=
  if J ≤ 0 ∨ A ≤ 0 then []
  else
    let z := divZ (a * a.natAbs) (2 * J)
    let d := (vp - v) - z
    if d = 0 then [((if a > 0 then -J else J), (a.natAbs * ups / J).toNat)]
    else
      let g : Int := if d > 0 then 1 else -1
      let a1 := g * a
      let dv := g * (vp - v)
      let ap : Int := isqrt (J * dv + a * a / 2).toNat
      if ap ≤ A then [(g * J, ((ap - a1) * ups / J).toNat), (-g * J, (ap * ups / J).toNat)]
      else
        let j1 := if a1 ≤ A then g * J else -g * J
        let g1 := (if a1 ≤ A then A * A - a1 * a1 else a1 * a1 - A * A) / (2 * J)
        [(j1, ((A - a1).natAbs * ups / J).toNat),
         (0, ((dv - g1 - A * A / (2 * J)) * ups / A).toNat),
         (-g * J, (A * ups / J).toNat)]

/-- The phases of a move that reaches peak speed vp and stops. -/
def peakPhases (v a vp A J : Int) : List (Int × Nat) := rampPhases v a vp A J ++ rampPhases vp 0 0 A J

/-- The way a move through peak speed vp covers. -/
def peakDist (u v a vp A J : Int) : Int :=
  let r1 := phasesEnd u (rampPhases v a vp A J) (0, v, a)
  let r2 := phasesEnd u (rampPhases vp 0 0 A J) (0, vp, 0)
  r1.1 + r2.1

/-- The peak speed that covers way D, by halving the interval. -/
def findPeak (u v a A J D : Int) : Nat → Int → Int → Int
  | 0, lo, _ => lo
  | k + 1, lo, hi =>
    let m := (lo + hi) / 2
    if peakDist u v a m A J ≤ D then findPeak u v a A J D k m hi else findPeak u v a A J D k lo m

/-- The shortest stopping distance from (v, a), signed (R171). -/
def stopDist (u v a A J : Int) : Int := (phasesEnd u (rampPhases v a 0 A J) (0, v, a)).1

/-- A brake under way is eased for `t` time units before it is taken up again. -/
def easePhases (u v a A J : Int) (t : Nat) : List (Int × Nat) :=
  let q := advance u J t (0, v, a)
  (J, t) :: rampPhases q.2.1 q.2.2 0 A J

/-- How long a brake is eased to stop after way D, by halving the interval. -/
def findEase (u v a A J D : Int) : Nat → Nat → Nat → Nat
  | 0, lo, _ => lo
  | k + 1, lo, hi =>
    let m := (lo + hi) / 2
    if (phasesEnd u (easePhases u v a A J m) (0, v, a)).1 ≤ D then findEase u v a A J D k m hi else findEase u v a A J D k lo m

/-- The phases of a move whose way D is at least that of the direct stop: at V for a while; or at a peak speed above the one at
which the present acceleration ends; or, while it brakes, with the brake eased (R170). -/
def forwardPhases (u v a D V A J : Int) : List (Int × Nat) :=
  let ve := v + divZ (a * a.natAbs) (2 * J)
  let fV := peakDist u v a V A J
  if fV ≤ D then rampPhases v a V A J ++ [(0, ((D - fV) * u * ups / V).toNat)] ++ rampPhases V 0 0 A J
  else if ve < 0 ∨ V < ve then peakPhases v a (findPeak u v a A J D 80 0 V) A J
  else if a < 0 ∧ D < peakDist u v a ve A J then easePhases u v a A J (findEase u v a A J D 80 0 (a.natAbs * ups / J).toNat)
  else peakPhases v a (findPeak u v a A J D 80 ve V) A J

/-- The jerk-limited move from (s, v, a) to (goal, 0, 0) under V, A, J (R170); a way short of the direct stop is the mirror image of
one beyond it. -/
def pointPlan (u s v a goal V A J : Int) : Plan :=
  let D := goal - s
  let ps :=
    if V ≤ 0 ∨ A ≤ 0 ∨ J ≤ 0 then []
    else if stopDist u v a A J ≤ D then forwardPhases u v a D V A J
    else (forwardPhases u (-v) (-a) (-D) V A J).map (fun p => (-p.1, p.2))
  ⟨s, v, a, ps, some goal, 0, goal, (V, A, J)⟩

/-- The jerk-limited stop (R171, R182). -/
def stopPlan (s v a A J : Int) : Plan := ⟨s, v, a, rampPhases v a 0 A J, none, 0, 0, (0, A, J)⟩

/-- The ramp to a speed that is then kept (R189). -/
def speedPlan (s v a vt A J : Int) : Plan :=
  ⟨s, v, a, rampPhases v a vt A J ++ [(0, 2 ^ 80)], none, 0, 0, (vt, A, J)⟩

/-- Has a plan reached its end? -/
def Plan.ended (p : Plan) : Bool := decide (phasesLen p.phases ≤ p.el)

/-- The point of a plan at its present time: at the end of a target move the target at rest, at the end of a stop the
place reached at rest. -/
def Plan.point (u : Int) (p : Plan) : Int × Int × Int :=
  if p.ended then
    match p.fin with
    | some g => (g, 0, 0)
    | none => ((phasesEnd u p.phases (p.s0, p.v0, p.a0)).1, 0, 0)
  else runPhases u p.phases p.el (p.s0, p.v0, p.a0)

/-! ### Segment tables (R166–R169) -/

/-- Time, position and velocity of point k. -/
def Tbl.pt (t : Tbl) (k : Nat) : Nat × Int × Int :=
  match aget' t.pts k with
  | some (a, b, c) => (a, sext 32 b, sext 32 c)
  | none => (0, 0, 0)
where
  aget' : List (Nat × (Nat × Nat × Nat)) → Nat → Option (Nat × Nat × Nat)
    | [], _ => none
    | (k, v) :: r, a => if k = a then some v else aget' r a

/-- The segment a table time in fabric cycles falls into. -/
def Tbl.seg (t : Tbl) (c : Nat) : Nat → Nat
  | 0 => 0
  | k + 1 => if 200 * (t.pt (k + 1)).1 ≤ c ∧ k + 2 < t.n then k + 1 else t.seg c k

/-- Position (position units), speed and acceleration at a table time in fabric cycles, scaled by 2^32 (R167). -/
def Tbl.eval (t : Tbl) (u : Int) (c : Nat) : Int × Int × Int :=
  let k := t.seg c t.n
  let (t0, p0, v0) := t.pt k
  let (t1, p1, v1) := t.pt (k + 1)
  let h : Int := ((t1 - t0) * 200 : Nat)
  let x : Int := (c - 200 * t0 : Nat)
  let cps : Int := 200000000
  if h ≤ 0 then (p0 * sc, 0, 0)
  else
    -- all three are sums over p0, p1 (times u·cps) and v0, v1 (times h), over powers of h
    let np := (2 * x ^ 3 - 3 * x ^ 2 * h + h ^ 3) * p0 * u * cps + (x ^ 3 - 2 * x ^ 2 * h + x * h ^ 2) * h * v0
      + (3 * x ^ 2 * h - 2 * x ^ 3) * p1 * u * cps + (x ^ 3 - x ^ 2 * h) * h * v1
    let nv := (6 * x ^ 2 - 6 * x * h) * p0 * u * cps + (3 * x ^ 2 - 4 * x * h + h ^ 2) * h * v0
      + (6 * x * h - 6 * x ^ 2) * p1 * u * cps + (3 * x ^ 2 - 2 * x * h) * h * v1
    let na := (12 * x - 6 * h) * p0 * u * cps + (6 * x - 4 * h) * h * v0
      + (6 * h - 12 * x) * p1 * u * cps + (6 * x - 2 * h) * h * v1
    (divNear (np * sc) (h ^ 3 * u * cps), divNear (nv * sc) (h ^ 3), divNear (na * cps * sc) (h ^ 3))

/-- The first failing check of R168 on a table, with the failing segment or point (0 for the causes 1, 8 and 9, which name none:
log 136), for limits V, A, J of an axis with u speed units per position unit; binary64 arithmetic in the written order of R167. -/
def Tbl.check (t : Tbl) (ax0 inTable : Bool) (u V A J : Nat) : Nat × Nat :=
  let fl (i : Int) := int64 i
  let lastv := (t.pt (t.n - 1)).2.2
  let segs := List.range (t.n - 1)
  let hs (k : Nat) : Fv := div64 (fl ((t.pt (k + 1)).1 - (t.pt k).1)) (fl 1000000)
  let w (k : Nat) : Fv := div64 (fl (t.pt k).2.2) (fl u)
  let p (k : Nat) : Fv := fl (t.pt k).2.1
  -- a factor times h times a velocity, and the sum c0·p_k + c1·h·w_k + c2·p_{k+1} + c3·h·w_{k+1}
  let chw (c : Fv) (k i : Nat) : Fv := mul64 (mul64 c (hs k)) (w i)
  let sum4 (k : Nat) (c0 c1 c2 c3 : Fv) : Fv :=
    add64 (add64 (add64 (mul64 c0 (p k)) (chw c1 k k)) (mul64 c2 (p (k + 1)))) (chw c3 k (k + 1))
  let slope (k : Nat) : Fv :=
    add64 (sub64 (add64 (mul64 (fl 12) (p k)) (chw (fl 6) k k)) (mul64 (fl 12) (p (k + 1)))) (chw (fl 6) k (k + 1))
  let brk (k : Nat) (s : Fv) : Fv :=
    sum4 k (sub64 (mul64 (fl 12) s) (fl 6)) (sub64 (mul64 (fl 6) s) (fl 4))
      (add64 (mul64 (fl (-12)) s) (fl 6)) (sub64 (mul64 (fl 6) s) (fl 2))
  let acc (k : Nat) (s : Fv) : Fv := mul64 (div64 (fl u) (mul64 (hs k) (hs k))) (brk k s)
  let jerk (k : Nat) : Fv := mul64 (div64 (fl u) (mul64 (mul64 (hs k) (hs k)) (hs k))) (slope k)
  let peak (k : Nat) : Fv :=
    let s := div64 (brk k Fv.zero).neg (slope k)
    if fvLe Fv.zero s && fvLe s (fl 1) then
      let s2 := mul64 s s
      let c0 := sub64 (mul64 (fl 6) s2) (mul64 (fl 6) s)
      let c1 := add64 (sub64 (mul64 (fl 3) s2) (mul64 (fl 4) s)) (fl 1)
      let c2 := add64 (mul64 (fl (-6)) s2) (mul64 (fl 6) s)
      let c3 := sub64 (mul64 (fl 3) s2) (mul64 (fl 2) s)
      mul64 (div64 (fl u) (hs k)) (sum4 k c0 c1 c2 c3)
    else Fv.zero
  let beyond (x : Fv) (l : Nat) : Bool := fvLt (fl l) x.abs
  let bad (f : Nat → Bool) (l : List Nat) : Option Nat := l.find? f
  if t.n < 2 ∨ t.n > 64 then (1, 0)
  else if t.pt 0 ≠ (0, 0, 0) then (2, 0)
  else
    match bad (fun k => decide ((t.pt (k + 1)).1 < (t.pt k).1 + 1000)) segs with
    | some k => (3, k)
    | none =>
      if lastv ≠ 0 then (4, t.n - 1)
      else
        match bad (fun k => decide ((t.pt k).2.2.natAbs > V) || decide ((t.pt (k + 1)).2.2.natAbs > V) || beyond (peak k) V) segs with
        | some k => (5, k)
        | none =>
          match bad (fun k => beyond (acc k Fv.zero) A || beyond (acc k (fl 1)) A) segs with
          | some k => (6, k)
          | none =>
            match bad (fun k => beyond (jerk k) J) segs with
            | some k => (7, k)
            | none =>
              let pts := List.range t.n
              if ax0 && pts.any (fun k => decide ((t.pt k).2.2 > 0)) && pts.any (fun k => decide ((t.pt k).2.2 < 0)) then (8, 0)
              else if inTable then (9, 0)
              else (0, 0)

end Sys2Proof.Machine
end

