-- ==== Sys2Proof/Machine/Profiles.lean ====
section
/-! DEFINITION. Motion profiles and step generation (chapter 04, R158–R200): commands and motion states of the axes,
segment tables, target moves, the rate multiplier, limits, stops, link groups, homing, current reduction. -/

namespace Sys2Proof.Machine

def State.axS (s : State) (n : Nat) : AxS := s.ax.getD n AxS.init

def State.modAx (s : State) (n : Nat) (f : AxS → AxS) : State := { s with ax := setAt 6 AxS.init s.ax n f }

/-- Level of filtered input k as latched at INGEST (R180). -/
def State.inp (s : State) (k : Nat) : Bool := bitOf s.fio.lat k

def State.axDrive (s : State) (n : Nat) : Nat := s.rf (Addr.AX_PCFG n) Fl.AX_PCFG_DRIVE

/-- Step-only axes have DRIVE 1 or 2, feedback axes DRIVE 3 to 6 (R158). -/
def State.axStepOnly (s : State) (n : Nat) : Bool := s.axDrive n == 1 || s.axDrive n == 2

def State.axFeedback (s : State) (n : Nat) : Bool := 3 ≤ s.axDrive n && s.axDrive n ≤ 6

/-- Speed units per position unit of the axis (R160). -/
def State.axU (s : State) (n : Nat) : Int := fbU (s.fbUnit n)

/-- Commanded position scaled by 2^32 (R186: along the path of a group). -/
def AxS.pos (x : AxS) : Int := if x.den = 1 ∧ x.num = 1 then x.base + x.s else x.base + divNear (x.s * x.num) (if x.den = 0 then 1 else x.den)

/-- Commanded speed and acceleration scaled by 2^32. -/
def AxS.spd (x : AxS) : Int := if x.den = 1 ∧ x.num = 1 then x.v else divNear (x.v * x.num) (if x.den = 0 then 1 else x.den)

def AxS.accl (x : AxS) : Int := if x.den = 1 ∧ x.num = 1 then x.a else divNear (x.a * x.num) (if x.den = 0 then 1 else x.den)

/-- The target of a command as a scaled position: AXn_TGT, or the target of the sequencer or stop table that gave it. -/
def State.axTgt (s : State) (n : Nat) : Int :=
  match (s.axS n).dtgt with | some t => t * sc | none => s.rs (Addr.AX_TGT n) * sc

/-- A register's value bounded by a limit's, scaled: a value that an accepted change of the limit has left above it counts as the
limit (R161, log 51). -/
def State.bounded (s : State) (a l : Nat) : Int := sc * (min (s.rd a).toNat (s.rd l).toNat : Nat)

/-- Run limits V, A, J of an axis, scaled (R161); a closing door's cap takes the place of VRUN (R273). -/
def State.runLim (s : State) (n : Nat) : Int × Int × Int :=
  let v := s.bounded (Addr.AX_VRUN n) (Addr.AX_VMAX n)
  (match (s.axS n).vcap with | some c => min v (sc * (c : Int)) | none => v,
   s.bounded (Addr.AX_ARUN n) (Addr.AX_AMAX n), s.bounded (Addr.AX_JRUN n) (Addr.AX_JMAX n))

/-- Limit-ramp values A, J, scaled (R161). -/
def State.rampLim (s : State) (n : Nat) : Int × Int :=
  (s.bounded (Addr.AX_ALIM n) (Addr.AX_AMAX n), s.bounded (Addr.AX_JLIM n) (Addr.AX_JMAX n))

/-- Members of the axis's link group; an axis in no group stands alone (R185). -/
def State.grpOf (s : State) (n : Nat) : List Nat :=
  let g := if n = 0 then 0 else s.rf (Addr.AX_PCFG n) Fl.AX_PCFG_GRP
  if g = 0 then [n]
  else [1, 2, 3, 4, 5].filter (fun m => s.hasAx m && s.rf (Addr.AX_PCFG m) Fl.AX_PCFG_GRP == g)

/-- The axes that share the path the axis is on: the members of its group in motion on the group's path, else itself. -/
def State.pathOf (s : State) (n : Nat) : List Nat :=
  if (s.axS n).linked then (s.grpOf n).filter (fun m => (s.axS m).linked && (s.axS m).mot != .idle) else [n]

/-- A limit of the group's path: the least of the members' limits stretched to the leader's way (R186). -/
def State.grpLim (s : State) (ms : List Nat) (lim : Nat → Int) : Int :=
  match ms.filter (fun m => (s.axS m).num ≠ 0) with
  | [] => lim (ms.headD 0)
  | m :: r =>
    let one (m : Nat) : Int := let x := s.axS m; if x.num.natAbs = x.den.natAbs then lim m else lim m * x.den / x.num.natAbs
    r.foldl (fun acc k => min acc (one k)) (one m)

/-- A limit of the path the axis is on. -/
def State.pathLim (s : State) (n : Nat) (lim : Nat → Int) : Int := s.grpLim (s.pathOf n) lim

/-- An axis status bit written at once. -/
def State.axBit (s : State) (n : Nat) (f : Fld) : State := s.wf (Addr.AX_STAT n) f 1

/-- A command is refused: CMDREF, and nothing else changes (R164). -/
def State.cmdRef (s : State) (n : Nat) : State := s.axBit n Fl.AX_STAT_CMDREF

/-- Is the limit switch of a side enabled and active (R180)? -/
def State.limActive (s : State) (n : Nat) (positive : Bool) : Bool :=
  let a := Addr.AX_LSW n
  let en := if positive then s.flag a Fl.AX_LSW_PEN else s.flag a Fl.AX_LSW_NEN
  let k := if positive then s.rf a Fl.AX_LSW_PIN else s.rf a Fl.AX_LSW_NIN
  en && (s.inp k != s.flag a Fl.AX_LSW_LPOL)

/-- Is the reference switch active? -/
def State.refActive (s : State) (n : Nat) : Bool :=
  let a := Addr.AX_HCFG n
  s.flag a Fl.AX_HCFG_REFEN && (s.inp (s.rf a Fl.AX_HCFG_REFIN) != s.flag a Fl.AX_HCFG_REFPOL)

/-- May the axis go to a target (scaled): inside the virtual limits and not toward an active switch (R165, R179,
R181)? -/
def State.tgtOk (s : State) (n : Nat) (t : Int) : Bool :=
  let lo := s.rs (Addr.AX_VLO n) * sc
  let hi := s.rs (Addr.AX_VHI n) * sc
  let p := (s.axS n).pos
  (decide (lo ≥ hi) || (decide (lo ≤ t) && decide (t ≤ hi))) &&
    !(decide (t > p) && s.limActive n true) && !(decide (t < p) && s.limActive n false)

/-- An axis's path taken out of a group: the coordinate is the position itself. -/
def AxS.plain (x : AxS) : AxS := { x with base := 0, num := 1, den := 1, linked := false, s := x.pos, v := x.spd, a := x.accl }

/-- POSLOST rises: fault 0x43 (R182, R184, R195); the interrupt comes with the status bit. -/
def State.posLost (s : State) (n : Nat) : State :=
  if (s.axS n).poslost then s
  else (s.modAx n (fun x => { x with poslost := true, homed := false })).raise 0x43 n 1

/-- A running homing fails with a cause: HSTATE FAIL, advisory fault (causes 1 to 6); the interrupt "homing ended" comes with the
status (R191, R195, R615). One that has failed already keeps its cause. -/
def State.homeFail (s : State) (n c : Nat) : State :=
  if (s.axS n).hst = .fail then s
  else (s.modAx n (fun x => { x with hst := .fail, hcause := c, hend := true })).raise 0x44 n 0

/-- The start of a homing is refused: CMDREF, HSTATE FAIL with cause 7, 8 or 9 and the interrupt, no fault (R164, R188, R191). -/
def State.homeRefuse (s : State) (n c : Nat) : State :=
  ((s.modAx n (fun x => { x with hst := .fail, hcause := c })).irq 10 6).cmdRef n

/-- The step count that belongs to a position, rounded to nearest (R176). -/
def State.stepsOf (s : State) (n : Nat) (pos : Int) : Int :=
  let num : Int := s.rf (Addr.AX_SSCALE n) Fl.AX_SSCALE_SNUM
  let den : Int := s.rf (Addr.AX_SSCALE n) Fl.AX_SSCALE_SDEN
  if den = 0 then 0 else divNear (pos * num) (den * sc)

/-- The extended step count at a time to come, while the velocity word stands (R175, R176). -/
def AxS.psiAt (x : AxS) (t : Nat) : Int := if x.lapsed then x.psi else x.psi + x.w * ((t - x.psiT : Nat) : Int)

/-- The commanded position, scaled, at which a step-only axis stands after an immediate stop: where its steps end at the release
that carries W = 0, when that misses the commanded point by more than a step (R182; log 137). -/
def State.stepEnd (s : State) (n : Nat) : Int :=
  let x := s.axS n
  let e := s.ecyc + s.rf Addr.SCH_TPH0 Fl.SCH_TPH0_TEMT
  let p := x.psiAt (if s.now ≤ e then e else e + s.ncyc)
  if (p / 2 ^ 48 - s.stepsOf n x.pos).natAbs ≤ 1 then x.pos
  else divNear (p * s.rf (Addr.AX_SSCALE n) Fl.AX_SSCALE_SDEN) (2 ^ 16 * s.rf (Addr.AX_SSCALE n) Fl.AX_SSCALE_SNUM)

/-- Immediate stop of one axis (R182, R183): a feedback axis's commanded point becomes (FBn_POS, 0, 0), a step train
ends with the next release and its axis stands where the steps end, a step-only axis faster than VSS loses its position. The door of
the axis, or the stop table, is to see the stop (R268, R307). -/
def State.immStop1 (s : State) (n c : Nat) : State :=
  let x := s.axS n
  let s := if x.mot = .home then s.homeFail n c else s
  let s := if s.axStepOnly n && decide (x.spd.natAbs > (s.rd (Addr.AX_VSS n)).toNat * sc.natAbs) then s.posLost n else s
  let p := if s.axFeedback n then s.cs (Addr.FB_POS n) * sc else if s.axStepOnly n then s.stepEnd n else x.pos
  let s := if n = 0 then { s with stp := { s.stp with ext := true } } else { s with dor := setAt 4 DorS.init s.dor (n - 1) (fun x => { x with imm := true }) }
  s.modAx n (fun x =>
    { x.plain with
      mot := .idle, plan := none, v := 0, a := 0, s := p, again := false, retgt := false, dwell := 0,
      zeroW := true, stopped := true, still := true })

/-- Immediate stop of an axis and of every member of its group, which show GRPSTOP (R182, R185, R187). -/
def State.immStop (s : State) (n c : Nat) : State :=
  let s := s.immStop1 n c
  (s.grpOf n).foldl (fun s m =>
    if m = n then s
    else (s.immStop1 m c).axBit m Fl.AX_STAT_GRPSTOP) s

/-- Immediate stop of every present axis: the response to a stop- or trip-class fault (R595). -/
def State.immStopAll (s : State) : State :=
  (List.range 6).foldl (fun s n => if s.hasAx n then s.immStop1 n 3 else s) s

/-- Begin a stop of the axis's path under limits A, J. -/
def AxS.rampStop (x : AxS) (m : Mot) (A J : Int) : AxS :=
  { x with mot := m, plan := some (stopPlan x.s x.v x.a A J) }

/-- A run begins: full current first where it is reduced (R194). -/
def AxS.start (x : AxS) (p : Plan) (t : Int) : AxS :=
  { x with mot := .move, plan := some p, tgt := t, wake := x.ired, again := false, retgt := false }

/-- Does the stop table hold AX0: enabled and not OFF (R306)? -/
def State.stpHolds (s : State) : Bool := s.hasUnit 4 && s.flag Addr.STP_CFG Fl.STP_CFG_EN && s.stp.w.cst != 0

/-- MOVE from rest for an axis in no group (R165). -/
def State.moveFresh (s : State) (n : Nat) (t : Int) : State :=
  let (V, A, J) := s.runLim n
  let u := s.axU n
  s.modAx n (fun x =>
    let x := x.plain
    if t = x.s then { x with mot := .idle, plan := none, tgt := t, again := false, retgt := false }
    else x.start (pointPlan u x.s x.v x.a t V A J) t)

/-- A MOVE that reaches an axis in motion, in no group (R172 for AX0, R173 for the others). -/
def State.moveRetarget (s : State) (n : Nat) (t : Int) : State :=
  let (V, A, J) := s.runLim n
  let u := s.axU n
  let x := (s.axS n).plain
  if n = 0 then
    if x.v = 0 ∧ x.a = 0 then s.moveFresh n t
    else
      let d := stopDist u x.v x.a A J
      let ahead := if x.v > 0 ∨ (x.v = 0 ∧ x.a > 0) then decide (t - x.s ≥ d) else decide (t - x.s ≤ d)
      if ahead then s.modAx n (fun _ => { x with mot := .move, plan := some (pointPlan u x.s x.v x.a t V A J), tgt := t, again := false, retgt := false })
      else s.modAx n (fun _ => { x.rampStop .halt A J with tgt := t, again := true, retgt := true })
  else
    s.modAx n (fun _ => { x with mot := .move, plan := some (pointPlan u x.s x.v x.a t V A J), tgt := t, again := false, retgt := false })

/-- A MOVE gives each member of a group its target (R185). -/
def State.groupTgt (s : State) (ms : List Nat) : State :=
  ms.foldl (fun s m => let t := s.axTgt m; s.modAx m (fun x => { x with tgt := t })) s

/-- A group's move from rest along the leader's path to the members' targets (R186); when a member's current is reduced, all wait the
one frame of R194, so that they arrive together. -/
def State.groupFresh (s : State) (ms : List Nat) : State :=
  let dist (m : Nat) : Int := (s.axS m).tgt - (s.axS m).pos
  let lead := ms.foldl (fun l m => if (dist m).natAbs > (dist l).natAbs then m else l) (ms.headD 1)
  let dl : Int := (dist lead).natAbs
  if dl = 0 then
    ms.foldl (fun s m => s.modAx m (fun x => { x.plain with mot := .idle, plan := none, again := false })) s
  else
    let s := ms.foldl (fun s m =>
      let d := dist m
      s.modAx m (fun x => { x with base := x.pos, num := d, den := dl, linked := d != 0, s := 0, v := 0, a := 0 })) s
    let wake := ms.any (fun m => decide ((s.axS m).num ≠ 0) && (s.axS m).ired)
    let V := s.grpLim ms (fun m => (s.runLim m).1)
    let A := s.grpLim ms (fun m => (s.runLim m).2.1)
    let J := s.grpLim ms (fun m => (s.runLim m).2.2)
    let u := s.axU lead
    ms.foldl (fun s m => s.modAx m (fun x =>
      if x.num = 0 then { x with mot := .idle, plan := none, again := false }
      else { x.start (pointPlan u 0 0 0 dl V A J) x.tgt with wake := wake })) s

/-- A retarget of a group in motion (R187): back along its path when every new target lies on it behind the present point, a member
at rest staying where it is; otherwise every member in motion stops along its path, and a new run follows. -/
def State.groupRetarget (s : State) (ms : List Nat) : State :=
  let run := ms.filter (fun m => (s.axS m).mot != .idle)
  let lead := run.foldl (fun l m => if (s.axS m).num.natAbs > (s.axS l).num.natAbs then m else l) (run.headD 1)
  let xl := s.axS lead
  let way (m : Nat) : Int := (s.axS m).tgt - (s.axS m).base
  let onPath := ms.all (fun m =>
    if (s.axS m).mot == .idle then (s.axS m).tgt == (s.axS m).pos
    else (s.axS m).linked && decide (way m * xl.num = way lead * (s.axS m).num))
  let goal := if xl.num = 0 then 0 else way lead * xl.den / xl.num
  let A (m : Nat) := s.pathLim m (fun k => (s.runLim k).2.1)
  let J (m : Nat) := s.pathLim m (fun k => (s.runLim k).2.2)
  let V := s.pathLim lead (fun k => (s.runLim k).1)
  let u := s.axU lead
  if onPath && decide (goal < xl.s) then
    run.foldl (fun s m => s.modAx m (fun x =>
      { x with mot := .move, plan := some (pointPlan u x.s x.v x.a goal V (A lead) (J lead)), again := false })) s
  else
    run.foldl (fun s m => s.modAx m (fun x => { x.rampStop .halt (A m) (J m) with again := true })) s

/-- A MOVE on AX0 toward the neighbour while the shaft start inhibit holds (R374). -/
def State.shaftHolds (s : State) (n : Nat) : Bool :=
  n == 0 && s.flag Addr.HDL_STAT Fl.HDL_STAT_INHIBIT &&
    (if s.rf Addr.HDL_SHCFG Fl.HDL_SHCFG_SPOS = 0 then decide (s.axTgt 0 > (s.axS 0).pos) else decide (s.axTgt 0 < (s.axS 0).pos))

/-- A guard stop decided in an earlier slot waits for AX0's SEG_EVAL of the next frame: MOVE, TABLE, HALT and HOME that act on
AX0 meanwhile give way to it (R360, log 148). -/
def State.guardHolds (s : State) (n : Nat) : Bool := s.hdl.stopRq.isSome && (s.grpOf n).contains 0

/-- The guard stop acts in this frame: it was decided in an earlier one (R360). -/
def State.guardDue (s : State) : Bool := match s.hdl.stopRq with | some f => f != s.frm | none => false

/-- AXn_PCMD.CMD = MOVE at its boundary (R163–R165, R185): to the given target on a single axis, to each member's
AXn_TGT in a group. -/
def State.cmdMove (s : State) (n : Nat) : State :=
  let ms := s.grpOf n
  if s.guardHolds n then s
  else if s.mode ≠ .RUN ∨ s.shaftHolds n = true then s.cmdRef n
  else if ms.any (fun m => (s.axS m).poslost || (s.axS m).mot == .limstop || (s.axS m).mot == .home) then s.cmdRef n
  else if !ms.all (fun m => s.tgtOk m (s.axTgt m)) then
    (ms.filter (fun m => !s.tgtOk m (s.axTgt m))).foldl (fun s m => s.axBit m Fl.AX_STAT_TGTERR) (s.cmdRef n)
  else
    match ms with
    | [_] =>
      let t := s.axTgt n
      match (s.axS n).mot with
      | .idle => s.moveFresh n t
      | .dwell => s.modAx n (fun x => { x with tgt := t })
      | _ => s.moveRetarget n t
    | _ =>
      let s := s.groupTgt ms
      if ms.all (fun m => (s.axS m).mot == .idle) then s.groupFresh ms else s.groupRetarget ms

/-- CMD = TABLE (R164, R165, R169); an empty active table refuses it (DESIGN CHOICE). -/
def State.cmdTable (s : State) (n : Nat) : State :=
  let x := s.axS n
  if s.guardHolds n then s
  else if s.mode ≠ .RUN ∨ x.mot ≠ .idle ∨ x.tblbad = true ∨ x.poslost = true ∨ x.tab.n < 2 then s.cmdRef n
  else
    let fin := x.pos + (x.tab.pt (x.tab.n - 1)).2.1 * sc
    if !s.tgtOk n fin then (s.cmdRef n).axBit n Fl.AX_STAT_TGTERR
    else s.modAx n (fun x =>
      let x := x.plain
      { x with mot := .table, plan := none, tStart := x.s, tK := 0, tgt := fin, wake := x.ired })

/-- HALT of one axis's path (R165, R182, R191). -/
def State.halt1 (s : State) (n : Nat) (A J : Int) : State :=
  match (s.axS n).mot with
  | .move | .table => s.modAx n (fun x => { x.rampStop .halt A J with again := false, retgt := false })
  | .halt => s.modAx n (fun x => { x with again := false, retgt := false })
  | .dwell => s.modAx n (fun x => { x with mot := .idle, again := false, retgt := false })
  | .home => if (s.axS n).hst = .fail then s else (s.homeFail n 2).modAx n (fun x => x.rampStop .home A J)
  | _ => s

/-- CMD = HALT on the axis and its group, each member under the run values of the path it is on (R164, R185). -/
def State.doHalt (s : State) (n : Nat) : State :=
  (s.grpOf n).foldl (fun t m => t.halt1 m (s.pathLim m (fun k => (s.runLim k).2.1)) (s.pathLim m (fun k => (s.runLim k).2.2))) s

def State.cmdHalt (s : State) (n : Nat) : State :=
  if s.guardHolds n then s
  else if !s.running then s.cmdRef n
  else if (s.axS n).mot = .limstop then s.cmdRef n
  else s.doHalt n

/-- CMD = ABORT: immediate stop of the axis and its group, whose other members show GRPSTOP (R165, R182, R185, R187). -/
def State.cmdAbort (s : State) (n : Nat) : State := if !s.running then s.cmdRef n else s.immStop n 2

/-- CMD = HOME (R164, R188, R191). An axis that is not IDLE shows cause 8; but one that is homing, and a module not in RUN, only
refuse it (log 138). -/
def State.cmdHome (s : State) (n : Nat) : State :=
  let x := s.axS n
  let a := Addr.AX_HCFG n
  let hidx := s.flag a Fl.AX_HCFG_HIDX
  if s.guardHolds n then s
  else if s.mode ≠ .RUN ∨ x.mot = .home then s.cmdRef n
  else if x.mot ≠ .idle ∨ s.flag a Fl.AX_HCFG_REFEN = false then s.homeRefuse n 8
  else if x.chLat ≠ 0 then s.homeRefuse n 7
  else if s.axFeedback n && !s.flag (Addr.FB_STAT n) Fl.FB_STAT_VALID then s.homeRefuse n 8
  else if hidx && !(s.fbMode n == 1 && s.rf (Addr.FB_CTL n) Fl.FB_CTL_ZMODE == 2) then s.homeRefuse n 9
  else
    let (_, A, J) := s.runLim n
    let vs := 100 * sc * s.rf (Addr.AX_HSPD n) Fl.AX_HSPD_VSEEK
    let vs := if s.flag a Fl.AX_HCFG_HDIR then vs else -vs
    let now := s.now
    s.modAx n (fun x =>
      let x := x.plain
      { x with
        mot := .home, hst := .seek, hcause := 0, homed := false, hStart := now, wake := x.ired,
        plan := some (speedPlan x.s x.v x.a vs A J) })

/-- CMD = CHAT_CLR (R192): the latched bits clear, and with them the changes counted so far (DESIGN CHOICE, log 139). -/
def State.cmdChatClr (s : State) (n : Nat) : State :=
  if !s.running then s.cmdRef n else s.modAx n (fun x => { x with chLat := 0, chat := [[], [], []] })

/-- A step-only axis takes AXn_HPOS as its commanded position and step count base (R163, R190); a path under way is
shifted with it. -/
def State.takeHpos (s : State) (n : Nat) : State :=
  let h := s.rs (Addr.AX_HPOS n) * sc
  let k := s.stepsOf n h
  s.modAx n (fun x => { x with base := x.base + (h - x.pos), psi := k * 2 ^ 48 + x.psi % 2 ^ 48 })

/-- CMD = POSSET (R163, R184): without effect on an axis that is not step-only (DESIGN CHOICE, log 140). -/
def State.cmdPosset (s : State) (n : Nat) : State :=
  if !s.running ∨ (s.axS n).mot = .limstop then s.cmdRef n
  else if s.axStepOnly n then (s.takeHpos n).modAx n (fun x => { x with poslost := false })
  else s

/-- A command of AXn_PCMD at the boundary that applies it (R163). -/
def State.axCommand (s : State) (n c : Nat) : State :=
  match c with
  | 1 => s.cmdMove n | 2 => s.cmdTable n | 3 => s.cmdHalt n | 4 => s.cmdAbort n
  | 5 => s.cmdHome n | 6 => s.cmdChatClr n | 7 => s.cmdPosset n | _ => s

/-! ### Slots -/

/-- An axis comes to rest: the states that end at standstill (R165, R172, R189). -/
def State.axRest (s : State) (n : Nat) : State :=
  let x := s.axS n
  match x.mot with
  | .move | .limstop => s.modAx n (fun x => { x with mot := .idle, plan := none })
  | .halt =>
    if n = 0 ∧ x.again = true then
      let k := s.rf (Addr.AX_DWELL 0) Fl.AX_DWELL_DWELL * 200000 / s.ncyc + 1     -- counted from the rest edge, one frame on
      s.modAx n (fun x => { x with mot := .dwell, plan := none, dwell := k, retgt := true })
    else if x.again then s.modAx n (fun x => { x with plan := none })
    else s.modAx n (fun x => { x with mot := .idle, plan := none })
  | .home =>
    match x.hst with
    | .done =>
      -- the commanded point at DONE (R190, log 141): the measured position, or HPOS
      let so := s.axStepOnly n
      let s := if so && s.flag (Addr.AX_HCFG n) Fl.AX_HCFG_HIDX then s.takeHpos n else s
      let p := if s.axFeedback n then s.cs (Addr.FB_POS n) * sc else if so then s.rs (Addr.AX_HPOS n) * sc else x.pos
      (s.modAx n (fun x => { x.plain with mot := .idle, plan := none, homed := true, hend := true, poslost := false, s := p }))
    | .fail => s.modAx n (fun x => { x with mot := .idle, plan := none })
    | _ => s
  | _ => s

/-- Make the plan again when the run values have changed since it was made (R170: planned at every frame). -/
def State.replan (s : State) (n : Nat) : State :=
  let x := s.axS n
  match x.mot, x.plan with
  | .move, some p =>
    let L := (s.pathLim n (fun m => (s.runLim m).1), s.pathLim n (fun m => (s.runLim m).2.1), s.pathLim n (fun m => (s.runLim m).2.2))
    if p.lim = L then s
    else
      let u := s.axU n
      s.modAx n (fun x => { x with plan := some (pointPlan u x.s x.v x.a p.goal L.1 L.2.1 L.2.2) })
  | _, _ => s

/-- Report a scaled value in a register; one that is no whole number is rounded up or down (free, R164 gives no rule). The word reported
is the answer's first part. -/
def State.pubScaled (s : State) (a : Nat) (v : Int) : Word × State :=
  let q := v / sc
  if v % sc = 0 then (wI q, s.pub a (wI q))
  else
    let (k, s) := s.fresh
    let w := wI (if Config.roundUp k then q + 1 else q)
    (w, s.pub a w)

/-- Report the commanded point (R197) and push its words, position, speed and acceleration, to a hopper (R174; log 135). -/
def State.pubPoint (s : State) (n hout : Nat) : State :=
  let x := s.axS n
  let (p, s) := s.pubScaled (Addr.AX_CPOS n) x.pos
  let (v, s) := s.pubScaled (Addr.AX_CVEL n) x.spd
  let (a, s) := s.pubScaled (Addr.AX_CACC n) x.accl
  s.push hout [p, v, a]

/-- A guard stop of AX0, which is in no group (R185, R360): LIMSTOP under the limit ramp; in DWELL it drops its target. -/
def State.guardStopAct (s : State) : State :=
  let s := { s with hdl := { s.hdl with stopRq := none } }
  let (A, J) := s.rampLim 0
  match (s.axS 0).mot with
  | .move | .table | .halt => s.modAx 0 (fun x => { x.rampStop .limstop A J with again := false, retgt := false })
  | .home => (s.homeFail 0 1).modAx 0 (fun x => { x.rampStop .limstop A J with again := false, retgt := false })
  | .dwell => s.modAx 0 (fun x => { x with mot := .idle, dwell := 0, again := false, retgt := false })
  | _ => s

/-- SEG_EVAL: the commanded point for the next frame edge (R169, R170, R174); a guard stop acts here (R360). In the frame in which
full current returns the velocity word stays 0, and the time of R193 starts anew (R194; log entry 178). -/
def State.segEval (s : State) (n hout : Nat) : State :=
  let s := if n = 0 ∧ s.guardDue = true then s.guardStopAct else s
  let s := s.modAx n (fun x => { x with still := x.wake || (x.still && x.mot == .idle) })
  let T := 256 * s.ncyc
  let u := s.axU n
  let x := s.axS n
  let s :=
    if x.wake then let t := s.now; s.modAx n (fun x => { x with wake := false, ired := false, lastStp := t })
    else
      match x.mot with
      | .idle | .dwell => s
      | .table =>
        let k := x.tK + 1
        let c := k * s.ncyc
        let last := x.tab.pt (x.tab.n - 1)
        if 200 * last.1 ≤ c then
          s.modAx n (fun x => { x with mot := .idle, tK := k, s := x.tStart + last.2.1 * sc, v := 0, a := 0 })
        else
          let (p, v, a) := x.tab.eval u c
          s.modAx n (fun x => { x with tK := k, s := x.tStart + p, v := v, a := a })
      | _ =>
        let s := s.replan n
        match (s.axS n).plan with
        | none => s
        | some p =>
          let p := { p with el := p.el + T }
          let (ps, v, a) := p.point u
          let s := s.modAx n (fun x => { x with plan := some p, s := ps, v := v, a := a })
          if p.ended then s.axRest n else s
  let s := if (s.axS n).v = 0 ∧ x.v ≠ 0 then let t := s.now; s.modAx n (fun x => { x with lastStp := t }) else s
  s.pubPoint n hout

/-- A limit stop of an axis and its group (R179, R180, R187): each member under the limit ramp of the path it is on, status bits at the
commit, fault on the rise. A homing that ends so fails with cause 1, at a virtual limit too (log 75). -/
def State.limStop (s : State) (n : Nat) (f : Fld) (code : Nat) : State :=
  let A (m : Nat) := s.pathLim m (fun k => (s.rampLim k).1)
  let J (m : Nat) := s.pathLim m (fun k => (s.rampLim k).2)
  let rise := s.cf (Addr.AX_STAT n) f == 0
  let s := s.pubF (Addr.AX_STAT n) f 1
  let s := if rise then (s.irqC 11 n).raise code n 1 else s
  (s.grpOf n).foldl (fun s m =>
    let x := s.axS m
    let s := if m = n then s else s.pubF (Addr.AX_STAT m) Fl.AX_STAT_GRPSTOP 1
    if x.mot = .move ∨ x.mot = .table ∨ x.mot = .halt ∨ x.mot = .home then
      let s := if x.mot = .home then s.homeFail m 1 else s
      s.modAx m (fun x => { x.rampStop .limstop (A m) (J m) with again := false, retgt := false })
    else s) s

/-- LIM_CHK: virtual limits and limit switches (R179, R180). -/
def State.limChk (s : State) (n : Nat) : State :=
  let x := s.axS n
  if x.mot = .move ∨ x.mot = .table ∨ x.mot = .halt ∨ x.mot = .home then
    let lo := s.rs (Addr.AX_VLO n) * sc
    let hi := s.rs (Addr.AX_VHI n) * sc
    let p := x.pos
    let q := if s.axFeedback n then s.cs (Addr.FB_POS n) * sc else p
    let v := x.spd
    let band := decide (lo < hi) && ((decide (v > 0) && (decide (p > hi) || decide (q > hi))) ||
      (decide (v < 0) && (decide (p < lo) || decide (q < lo))))
    let sw := (decide (v > 0) && s.limActive n true) || (decide (v < 0) && s.limActive n false)
    let s := if band then s.limStop n Fl.AX_STAT_LIMV 0x41 else s
    if sw then s.limStop n Fl.AX_STAT_LIMS 0x42 else s
  else s

/-- Is a plan one that keeps its speed (R189)? Else it is a stop. -/
def Plan.keeps (p : Plan) : Bool := p.phases.any (fun q => q.2 == 2 ^ 80)

/-- HOME_STEP: one frame of the homing sequence (R189–R191). -/
def State.homeStep (s : State) (n : Nat) : State :=
  let x := s.axS n
  let a := Addr.AX_HCFG n
  let (_, A, J) := s.runLim n
  let rest := x.v == 0 && x.a == 0
  let vc := 100 * sc * s.rf (Addr.AX_HSPD n) Fl.AX_HSPD_VCREEP
  let vc := if s.flag a Fl.AX_HCFG_HDIR then -vc else vc
  if x.mot ≠ .home then s
  else if x.hst ≠ .fail ∧ s.axFeedback n = true ∧ s.flag (Addr.FB_STAT n) Fl.FB_STAT_VALID = false then s.immStop n 6
  else
    match x.hst with
    | .seek =>
      if s.refActive n then
        if rest then s.modAx n (fun x => { x with hst := .clear, plan := some (speedPlan x.s x.v x.a vc A J) })
        else if !x.plan.any Plan.keeps then s
        else s.modAx n (fun x => x.rampStop .home A J)
      else if rest && !x.plan.any Plan.keeps then
        s.modAx n (fun x => { x with hst := .clear, plan := some (speedPlan x.s x.v x.a vc A J) })
      else s
    | .clear =>
      if s.refActive n then s
      else if s.flag a Fl.AX_HCFG_HIDX then
        let s := (s.zrefClr n).zarm n
        let c := (s.fbS n).acc
        s.modAx n (fun x => { x with hst := .find, hCnt := c })
      else
        let s := if s.axFeedback n then s.posSet n else s.takeHpos n
        s.modAx n (fun x => { x.rampStop .home A J with hst := .done })
    | .find =>
      if (s.fbS n).zarmed = false then s.modAx n (fun x => { x.rampStop .home A J with hst := .done })
      else if ((s.fbS n).acc - x.hCnt).natAbs > 2 * (s.rd (Addr.FB_ZCPR n)).toNat then
        (s.homeFail n 5).modAx n (fun x => x.rampStop .home A J)
      else s
    | _ => s

/-- The clamp of the velocity word (R177). -/
def State.wMax (s : State) (n : Nat) : Int :=
  let pw : Int := s.rf (Addr.AX_STEP n) Fl.AX_STEP_PW
  if pw = 0 then 0 else 2 ^ 48 / (2 * pw)

/-- STEP_STAGE: the velocity word that reaches the commanded point's step count (R176, R177); after an immediate stop it is 0 until
the axis moves again (R182). -/
def State.stepStage (s : State) (n : Nat) : State :=
  let d := s.axDrive n
  if 1 ≤ d ∧ d ≤ 4 then
    let x := s.axS n
    let tE := s.ecyc + s.rf Addr.SCH_TPH0 Fl.SCH_TPH0_TEMT
    let w := if x.still then 0 else divNear (s.stepsOf n x.pos * 2 ^ 48 - x.psiAt tE) s.ncyc
    let m := s.wMax n
    let c := if w > m then m else if w < -m then -m else w
    let s := s.modAx n (fun x => { x with wNext := c, staged := true })
    if c = w then s
    else
      let rise := s.cf (Addr.AX_STAT n) Fl.AX_STAT_RATECLP == 0
      (s.pubF (Addr.AX_STAT n) Fl.AX_STAT_RATECLP 1).raiseIf rise 0x47 n 0
  else s

/-! ### Events -/

/-- The enabled reference (k = 0), positive (1) and negative (2) limit switch: its input, none where it is not enabled. -/
def State.switchIn (s : State) (n k : Nat) : Option Nat :=
  let h := Addr.AX_HCFG n
  let l := Addr.AX_LSW n
  match k with
  | 0 => if s.flag h Fl.AX_HCFG_REFEN then some (s.rf h Fl.AX_HCFG_REFIN) else none
  | 1 => if s.flag l Fl.AX_LSW_PEN then some (s.rf l Fl.AX_LSW_PIN) else none
  | _ => if s.flag l Fl.AX_LSW_NEN then some (s.rf l Fl.AX_LSW_NIN) else none

/-- HSTAT shows homing and chatter (R197). -/
def State.hstatShow (s : State) (n : Nat) : State :=
  let x := s.axS n
  let h := match x.hst with | .idle => 0 | .seek => 1 | .clear => 2 | .find => 3 | .done => 4 | .fail => 5
  s.wr (Addr.AX_HSTAT n) (wN (h + 16 * x.hcause + 256 * (b2n (bitOf x.chLat 0) + 2 * b2n (bitOf x.chLat 1) + 4 * b2n (bitOf x.chLat 2))))

/-- AXn_STAT and AXn_HSTAT show an axis; its coming to rest, the rise of POSLOST and the end of a homing are interrupt sources and
set their bits with the status (R197, R614, R615). -/
def State.axShow (s : State) (n : Nat) : State :=
  let x := s.axS n
  let a := Addr.AX_STAT n
  let m := match x.mot with | .idle => 0 | .move => 1 | .table => 2 | .halt => 3 | .dwell => 4 | .home => 5 | .limstop => 6
  let was := s.rf a Fl.AX_STAT_MSTATE
  let s := if x.poslost && !s.flag a Fl.AX_STAT_POSLOST then s.irq 11 n else s
  let s := if x.hend then (s.modAx n (fun x => { x with hend := false })).irq 10 6 else s
  let s := (s.wf a Fl.AX_STAT_MSTATE m).wf a Fl.AX_STAT_RETGT (b2n x.retgt)
  let s := (s.wf a Fl.AX_STAT_POSLOST (b2n x.poslost)).wf a Fl.AX_STAT_HOMED (b2n x.homed)
  let s := ((s.wf a Fl.AX_STAT_IRED (b2n x.ired)).wf a Fl.AX_STAT_TBLBAD (b2n x.tblbad)).hstatShow n
  if m = 0 ∧ was ≠ 0 then s.irq 10 n else s

/-- The frame boundary for the axes: dwell counted (R172), level changes of the enabled switches' inputs noted (R192), a group's new
run after its stop (R187), marks of the ended frame cleared. With no schedule running no commit follows: the status shows at once. -/
def State.axBoundary (s : State) : State :=
  let s := (List.range 6).foldl (fun s n =>
    let now := s.ecyc
    let win := 2000000 * s.rf (Addr.AX_LSW n) Fl.AX_LSW_CHW
    let lat := s.fio.lat
    let s := s.modAx n (fun x =>
      let upd (k : Nat) (ts : List Nat) : List Nat :=
        let ts := ts.filter (fun t => decide (t + win ≥ now))
        match s.switchIn n k with
        | some i => if bitOf lat i = bitOf x.swLvl i then ts else ts ++ [now]
        | none => ts
      { x with
        dwell := x.dwell - 1, swLvl := lat, chat := (List.range 3).map (fun k => upd k (x.chat.getD k [])) })
    if s.hasAx n && !s.running then s.axShow n else s) s
  [1, 2, 3].foldl (fun s g =>
    let ms := [1, 2, 3, 4, 5].filter (fun m => s.hasAx m && s.rf (Addr.AX_PCFG m) Fl.AX_PCFG_GRP == g)
    if ms ≠ [] ∧ ms.any (fun m => (s.axS m).again) ∧
        ms.all (fun m => let x := s.axS m; x.mot == .idle || (x.mot == .halt && x.plan.isNone)) then
      s.groupFresh ms
    else s) s

/-- DWELL_ELAPSED: the dwell has lasted its frames; the new run starts to the latest target (R165, R172). -/
def State.dwellElapsed (s : State) (n : Nat) : State :=
  let x := s.axS n
  if x.mot = .dwell ∧ x.dwell = 0 then
    (s.modAx n (fun x => { x with mot := .idle, again := false, retgt := false })).moveFresh n x.tgt
  else s

/-- HOMING_TIMEOUT: AXn_HTIME has passed since the start of the sequence (R191). -/
def State.homingTimeout (s : State) (n : Nat) : State :=
  let x := s.axS n
  if x.mot = .home ∧ x.hst ≠ .fail ∧ s.now ≥ x.hStart + 20000000 * s.rf (Addr.AX_HTIME n) Fl.AX_HTIME_HTIME then
    let (_, A, J) := s.runLim n
    (s.homeFail n 4).modAx n (fun x => x.rampStop .home A J)
  else s

/-- CHATTER_LATCH: a switch changed more than CHN times within the window (R192): k 0 reference, 1 positive,
2 negative limit. -/
def State.chatterLatch (s : State) (n k : Nat) : State :=
  let x := s.axS n
  if k < 3 ∧ (x.chat.getD k []).length > s.rf (Addr.AX_LSW n) Fl.AX_LSW_CHN then
    let rise := !bitOf x.chLat k
    let s := (s.modAx n (fun x => { x with chLat := x.chLat ||| 2 ^ k })).raiseIf rise 0x46 n 1
    if s.running then s else s.hstatShow n
  else s

/-- CURRENT_REDUCTION: IREDT has passed at rest without a step (R193). -/
def State.currentReduction (s : State) (n : Nat) : State :=
  let x := s.axS n
  let a := Addr.AX_IRED n
  if (s.axDrive n = 2 ∨ s.axDrive n = 4) ∧ x.v = 0 ∧ s.rf a Fl.AX_IRED_IREDP < 100 ∧
      s.now ≥ x.lastStp + 200000 * s.rf a Fl.AX_IRED_IREDT then
    s.modAx n (fun x => { x with ired := true })
  else s

/-- The check of a table under the axis's present limits (R162, R168). -/
def State.tblCheck (s : State) (n : Nat) (t : Tbl) (inTable : Bool) : Nat × Nat :=
  t.check (n == 0) inTable (s.axU n).toNat (s.rd (Addr.AX_VMAX n)).toNat (s.rd (Addr.AX_AMAX n)).toNat (s.rd (Addr.AX_JMAX n)).toNat

/-- R162: the limits have changed; the active table is judged again. -/
def State.limitsChanged (s : State) (n : Nat) : State :=
  let bad := decide ((s.axS n).tab.n ≥ 2) && (s.tblCheck n (s.axS n).tab false).1 != 0
  s.modAx n (fun x => { x with tblbad := bad })

/-- Report the axes at the commit (R58, R197). -/
def State.axPublish (s : State) : State :=
  (List.range 6).foldl (fun s n =>
    if !s.hasAx n then s
    else
      let s := (s.axShow n).modAx n (fun x => { x with wCom := x.w })
      s.wr (Addr.AX_SCNT n) (wI ((s.axS n).psi / 2 ^ 48))) s

end Sys2Proof.Machine
end

