-- ==== Sys2Proof/Machine/Drive.lean ====
section
/-! DEFINITION. The axis drive stage (chapter 06, R242–R260): currents, overcurrent, bridge, PWM compare values,
electrical angle, microstep table, hysteresis chopper, load angle and force. -/

namespace Sys2Proof.Machine

def State.drvS (s : State) (n : Nat) : DrvS := s.drv.getD n DrvS.init

def State.modDrv (s : State) (n : Nat) (f : DrvS → DrvS) : State := { s with drv := setAt 6 DrvS.init s.drv n f }

/-- Does the axis use internal current sensing (R243)? -/
def State.axInt (s : State) (n : Nat) : Bool := let d := s.axDrive n; d == 2 || d == 4 || d == 5

/-- An internal stepper axis. -/
def State.axStp (s : State) (n : Nat) : Bool := let d := s.axDrive n; d == 2 || d == 4

/-! ### Microstep table (R252–R254) -/

/-- The reset table T[0..255] of R252. -/
def microTable : List Nat :=
  [0, 402, 804, 1206, 1608, 2010, 2412, 2814, 3216, 3617, 4019, 4420, 4821, 5222, 5623, 6023] ++
   [6424, 6824, 7223, 7623, 8022, 8421, 8820, 9218, 9616, 10014, 10411, 10808, 11204, 11600, 11996, 12391] ++
   [12785, 13179, 13573, 13966, 14359, 14751, 15142, 15533, 15924, 16313, 16703, 17091, 17479, 17866, 18253, 18639] ++
   [19024, 19408, 19792, 20175, 20557, 20939, 21319, 21699, 22078, 22456, 22834, 23210, 23586, 23960, 24334, 24707] ++
   [25079, 25450, 25820, 26189, 26557, 26925, 27291, 27656, 28020, 28383, 28745, 29106, 29465, 29824, 30181, 30538] ++
   [30893, 31247, 31600, 31952, 32302, 32651, 32999, 33346, 33692, 34036, 34379, 34721, 35061, 35400, 35738, 36074] ++
   [36409, 36743, 37075, 37406, 37736, 38064, 38390, 38715, 39039, 39361, 39682, 40001, 40319, 40635, 40950, 41263] ++
   [41575, 41885, 42194, 42500, 42806, 43109, 43411, 43712, 44011, 44308, 44603, 44897, 45189, 45479, 45768, 46055] ++
   [46340, 46624, 46905, 47185, 47464, 47740, 48014, 48287, 48558, 48827, 49095, 49360, 49624, 49885, 50145, 50403] ++
   [50659, 50913, 51166, 51416, 51664, 51911, 52155, 52398, 52638, 52877, 53113, 53348, 53580, 53811, 54039, 54266] ++
   [54490, 54713, 54933, 55151, 55367, 55582, 55794, 56003, 56211, 56417, 56620, 56822, 57021, 57218, 57413, 57606] ++
   [57797, 57985, 58171, 58356, 58537, 58717, 58895, 59070, 59243, 59414, 59582, 59749, 59913, 60075, 60234, 60391] ++
   [60546, 60699, 60850, 60998, 61144, 61287, 61429, 61567, 61704, 61838, 61970, 62100, 62227, 62352, 62475, 62595] ++
   [62713, 62829, 62942, 63053, 63161, 63267, 63371, 63472, 63571, 63668, 63762, 63853, 63943, 64030, 64114, 64196] ++
   [64276, 64353, 64428, 64500, 64570, 64638, 64703, 64765, 64826, 64883, 64939, 64992, 65042, 65090, 65136, 65179] ++
   [65219, 65258, 65293, 65327, 65357, 65386, 65412, 65435, 65456, 65475, 65491, 65504, 65515, 65524, 65530, 65534]

/-- An entry of a table kept as its differences from the reset table; T[256] is 65,535. -/
def microAt (t : List (Nat × Nat)) (k : Nat) : Nat := if k ≥ 256 then 65535 else (aget t k).getD (microTable.getD k 0)

/-- A table with one entry set. -/
def microPut (t : List (Nat × Nat)) (k v : Nat) : List (Nat × Nat) :=
  if v = microTable.getD k 0 then adel t k else aput t k v

/-- The signed amplitudes of coils A and B at table index m (R252). -/
def microAmp (t : List (Nat × Nat)) (m : Nat) : Int × Int :=
  let k := m % 256
  let a : Int := microAt t k
  let b : Int := microAt t (256 - k)
  match m / 256 with | 0 => (b, a) | 1 => (-a, b) | 2 => (-b, -a) | _ => (a, -b)

/-- The check of a shadow table (R254): cause and entry. -/
def microCheck (t : List (Nat × Nat)) : Nat × Nat :=
  if microAt t 0 ≠ 0 then (1, 0)
  else
    match (List.range 256).find? (fun k => decide (k > 0) && decide (microAt t k < microAt t (k - 1))) with
    | some k => (2, k)
    | none => (0, 0)

/-- The check of a swap request on an axis's table. -/
def State.microChk (s : State) (n : Nat) : State × Bool :=
  let r := microCheck (s.drvS n).tblS
  (s.wr (Addr.AX_MCHK n) (wN (r.1 + 256 * r.2)), r.1 == 0)

/-! ### Chopper (R255–R257) -/

/-- The exact coil current reference I_ref in mA as numerator and denominator (R255, R193). -/
def State.iRef (s : State) (n : Nat) : Nat × Nat :=
  let d := s.drvS n
  let irun := s.rf (Addr.AX_ICOIL n) Fl.AX_ICOIL_IRUN
  let r := if d.ired then s.rf (Addr.AX_IRED n) Fl.AX_IRED_IREDP else 100
  match f32 d.scl with
  | .fin false m e => if e ≥ 0 then (irun * r * m * 2 ^ e.toNat, 100) else (irun * r * m, 100 * 2 ^ (-e).toNat)
  | _ => (0, 100)

/-- The target current of a coil, mA (R252, R253, R255). -/
def State.coilTgt (s : State) (n x : Nat) : Int :=
  let (p, q) := s.iRef n
  let t := microAmp (s.drvS n).tblA (s.axS n).m
  let swap := s.flag (Addr.AX_PCFG n) Fl.AX_PCFG_DIRPOL
  let amp := if (x == 0) != swap then t.1 else t.2
  (p * amp) / (q * 65536)

/-- Is the axis's bridge off (R245, R246)? -/
def DrvS.off (d : DrvS) : Bool := d.offOC || d.offNR

/-- Net driving time of a coil between two times in its phase; `fast` is the fast part of the decay (R252, R256). -/
def CoilS.net (c : CoilS) (decay tfast t : Nat) : Int :=
  let span (a b : Nat) : Int := (b - a : Nat)
  match c.ph with
  | 1 => c.dir * span c.accT t
  | 2 =>
    match decay with
    | 0 => 0
    | 1 => - c.dir * span c.accT t
    | _ => - c.dir * span c.accT (min t (c.t0 + 4 * tfast))
  | _ => 0

/-- The coils at a time: driving times up to it, and a drive phase in the new direction when the sign of the target has changed
(R256). -/
def State.coilAt (s : State) (n t : Nat) : State :=
  if s.axStp n then
    let decay := s.rf (Addr.AX_CHOP n) Fl.AX_CHOP_DECAY
    let tf := s.rf (Addr.AX_CHOP n) Fl.AX_CHOP_TFAST
    let off := (s.drvS n).off
    let dirOf (x : Nat) : Int := if off then 0 else (s.coilTgt n x).sign
    s.modDrv n (fun d =>
      { d with
        coils := (d.coils.zipIdx).map (fun p =>
          let c := p.1
          let g := dirOf p.2
          let c := { c with acc := c.acc + c.net decay tf t, accT := t }
          if g = c.dir then c else { c with dir := g, ph := if g = 0 then 0 else 1, t0 := t }) })
  else s

/-! ### The rate multiplier (R175–R178) -/

/-- The times in (psiT, t] at which the multiplier carries or borrows (R175). -/
def AxS.carries (x : AxS) (t : Nat) : List Nat :=
  let p := x.psi + x.w * ((t - x.psiT : Nat) : Int)
  let phi := x.psi % 2 ^ 48
  (List.range (p / 2 ^ 48 - x.psi / 2 ^ 48).natAbs).map (fun j =>
    if 0 < x.w then x.psiT + ((((j : Int) + 1) * 2 ^ 48 - phi + x.w - 1) / x.w).toNat
    else x.psiT + ((phi + (j : Int) * 2 ^ 48) / (-x.w)).toNat + 1)

/-- A carry at time t drives the STEP and DIR pads of an external step axis (R177): DIR changes when the last step is over, the next
step waits DSU cycles after it, steps rise at least 2·PW cycles apart, and no more than 15 wait. -/
def AxS.stepOut (x : AxS) (pw dsu t : Nat) (fwd : Bool) : AxS :=
  let q := x.stq.filter (fun i => decide (t < i + 2 * pw))
  if (q.filter (fun i => decide (t < i))).length ≥ 15 then { x with stq := q }
  else
    let t1 := match q.getLast? with | some l => max t (l + 2 * pw) | none => t
    if x.back = fwd then
      let td := match q.getLast? with | some l => max t (l + pw) | none => t
      { x with back := !fwd, dirT := td, stq := q ++ [max t1 (td + dsu)] }
    else { x with stq := q ++ [max t1 (x.dirT + dsu)] }

/-- The multiplier issues a step at time t: the microstep index moves (R253) and the coils follow it; an external step axis drives its
pads. -/
def State.stepAt (s : State) (n t : Nat) (fwd : Bool) : State :=
  let k : Int := 2 ^ (8 - s.rf (Addr.AX_MSTEP n) Fl.AX_MSTEP_MR)
  let s := s.modAx n (fun x => { x with m := (((x.m : Int) + (if fwd then k else -k)) % 1024).toNat, lastStp := t })
  if s.axStp n then s.coilAt n t
  else
    let a := Addr.AX_STEP n
    s.modAx n (fun x => x.stepOut (s.rf a Fl.AX_STEP_PW) (s.rf a Fl.AX_STEP_DSU) t fwd)

/-- The multiplier up to a time: the extended step count grows by W each cycle while it issues steps (R175, R178). -/
def State.stepRun (s : State) (n t : Nat) : State :=
  let x := s.axS n
  if t ≤ x.psiT then s
  else
    let s := if x.lapsed then s else (x.carries t).foldl (fun s c => s.stepAt n c (decide (0 < x.w))) s
    s.modAx n (fun y => { y with psi := x.psiAt t, psiT := t })

/-- The axis's steps and coils brought up to the present. -/
def State.coilSync (s : State) (n : Nat) : State :=
  let t := s.now
  (s.stepRun n t).coilAt n t

/-- The velocity words at the release (R57, R178, R182, R194). -/
def State.stepRelease (s : State) : State :=
  (List.range 6).foldl (fun s n =>
    (s.coilSync n).modAx n (fun x =>
      { x with w := if x.zeroW then 0 else if x.staged then x.wNext else x.w, zeroW := false, staged := false, lapsed := false })) s

/-- Without a release the multipliers of the step axes issue no further steps: LAPSE, fault 0x45 on its rise (R178, R195). -/
def State.stepLapse (s : State) : State :=
  (List.range 6).foldl (fun s n =>
    let d := s.axDrive n
    if s.hasAx n && decide (1 ≤ d) && decide (d ≤ 4) then
      let rise := !s.flag (Addr.AX_STAT n) Fl.AX_STAT_LAPSE
      let t := s.ecyc + s.rf Addr.SCH_TPH0 Fl.SCH_TPH0_TEMT
      let s := (s.stepRun n t).modAx n (fun x => { x with lapsed := true, stq := x.stq.filter (fun i => decide (i ≤ t)) })
      (s.axBit n Fl.AX_STAT_LAPSE).raiseIf rise 0x45 n 1
    else s) s

/-- STEP_ISSUED: the multiplier issues a step (R175): the axis's steps are brought up to this cycle. -/
def State.stepIssued (s : State) (n cyc : Nat) : State := (s.at cyc).coilSync n

/-! ### The chopper's phases -/

/-- Clear the learned offsets (R257). -/
def State.ofsClear (s : State) (n : Nat) : State :=
  s.modDrv n (fun d => { d with coils := d.coils.map (fun c => { c with ovs := [], ofs := 0 }) })

/-- The code of an analog input at a voltage in µV (R701), which the errors of the input are already in. -/
def adcCode (uv : Nat) : Nat := min 4095 ((uv * 4096 + 600000) / 1200000)

/-- The current of an axis's input at a voltage, in µA (R243, R701). -/
def State.uA (s : State) (n uv : Nat) : Int := ((adcCode uv : Int) - 2048) * s.rf (Addr.AX_ISCFG n) Fl.AX_ISCFG_ISCALE

/-- DRIVE_PHASE_END: a sample of a coil reaches I_hi after TBLANK; the overshoot of its peak is recorded and the offset
learned (R256, R257). -/
def State.drivePhaseEnd (s : State) (n x uv peak cyc : Nat) : State :=
  let s := (s.at cyc).coilSync n
  let c := (s.drvS n).coils.getD x CoilS.init
  let it := (s.coilTgt n x).natAbs
  let hyst := s.rf (Addr.AX_CHOP n) Fl.AX_CHOP_HYST
  let hi2 : Int := 1000 * (2 * it + hyst - 2 * c.ofs)
  if s.axStp n ∧ x < 2 ∧ c.ph = 1 ∧ s.now ≥ c.t0 + s.rf (Addr.AX_CHOP n) Fl.AX_CHOP_TBLANK ∧
      2 * (s.uA n uv * c.dir) ≥ hi2 then
    let pk := max (s.uA n uv * c.dir) (s.uA n peak * c.dir)
    let ovs := ((2 * pk - hi2) :: c.ovs).take 16
    let (m, s) := s.freeRound (ovs.foldl (· + ·) 0) (2000 * ovs.length)
    let mx : Int := s.rf (Addr.AX_ICOIL n) Fl.AX_ICOIL_OFSMAX
    let o := if m > mx then mx else if m < 0 then 0 else m
    let t := s.now
    let s := s.modDrv n (fun d => { d with coils := setAt 2 CoilS.init d.coils x (fun c => { c with ph := 2, t0 := t, ovs := ovs, ofs := o }) })
    if m > mx then s.say (Addr.AX_DSTAT n) Fl.AX_DSTAT_OFSCLP 1 else s
  else s

/-- DECAY_PHASE_END: a sample of a coil falls to I_lo; the next drive phase begins (R256). -/
def State.decayPhaseEnd (s : State) (n x uv cyc : Nat) : State :=
  let s := (s.at cyc).coilSync n
  let c := (s.drvS n).coils.getD x CoilS.init
  let it := (s.coilTgt n x).natAbs
  let hyst := s.rf (Addr.AX_CHOP n) Fl.AX_CHOP_HYST
  if s.axStp n ∧ x < 2 ∧ c.ph = 2 ∧ 2 * (s.uA n uv * c.dir) ≤ 1000 * (2 * it - hyst - 2 * c.ofs) then
    let t := s.now
    s.modDrv n (fun d => { d with coils := setAt 2 CoilS.init d.coils x (fun c => { c with ph := 1, t0 := t }) })
  else s

/-- CHOP_UPD: the current scale, clamped to 0–1, takes effect at the release (R255); one that is not a number is a free
value. -/
def State.chopUpd (s : State) (sl : Slot) : State :=
  let (ws, s) := s.pop sl.hin 1
  let w := ws.headD 0
  let one : Word := 0x3F800000
  match f32 w with
  | .nan =>
    let (v, s) := s.freeVal
    s.modDrv sl.inst (fun d => { d with sclS := some (wN (v % 0x3F800001)) })
  | v =>
    let c := if fvLt v Fv.zero then 0 else if fvLt (f32 one) v then one else w
    s.modDrv sl.inst (fun d => { d with sclS := some c })

/-! ### Bridge (R245, R246) -/

/-- Show BRGOFF. -/
def State.brgShow (s : State) (n : Nat) : State := s.wf (Addr.AX_DSTAT n) Fl.AX_DSTAT_BRGOFF (b2n (s.drvS n).off)

/-- OVERCURRENT: a sample above IOC turns the bridge off (R245). -/
def State.overcurrent (s : State) (n uv cyc : Nat) : State :=
  let s := s.at cyc
  if s.hasAx n && s.axInt n && decide ((s.uA n uv).natAbs > 1000 * s.rf (Addr.AX_IOC n) Fl.AX_IOC_IOC) then
    let rise := !s.flag (Addr.AX_DSTAT n) Fl.AX_DSTAT_OC
    let s := (s.coilSync n).modDrv n (fun d => { d with offOC := true })
    let s := ((s.coilSync n).ofsClear n).brgShow n
    let s := s.wf (Addr.AX_DSTAT n) Fl.AX_DSTAT_OC 1
    if rise then (s.irq 11 n).raise 0x61 n 2 else s
  else s

/-- OC_CLEAR: software clears OC; while the axis is IDLE the bridge is enabled again (R245). -/
def State.ocClear (s : State) (n : Nat) : State :=
  if s.hasAx n then
    let s := s.wf (Addr.AX_DSTAT n) Fl.AX_DSTAT_OC 0
    if (s.axS n).mot = .idle then ((s.modDrv n (fun d => { d with offOC := false })).coilSync n).brgShow n else s
  else s

/-- R246: a frame goes without its release: the bridges of internal drives go off and LAPSE sets. -/
def State.bridgeOff (s : State) : State :=
  (List.range 6).foldl (fun s n =>
    if s.hasAx n && s.axInt n then
      let s := (s.coilSync n).modDrv n (fun d => { d with offNR := true })
      let s := ((s.coilSync n).ofsClear n).brgShow n
      let rise := !s.flag (Addr.AX_STAT n) Fl.AX_STAT_LAPSE
      (s.axBit n Fl.AX_STAT_LAPSE).raiseIf rise 0x45 n 1
    else s) s

/-! ### BLDC drive (R247–R251) -/

/-- Electrical counts per second of the channel's speed, times 2^16, from FBn_VEL (R250). -/
def State.cps16 (s : State) (n : Nat) : Int :=
  divZ (s.cs (Addr.FB_VEL n) * s.fbDen n * 65536) (s.fbNum n * fbU (s.fbUnit n))

/-- The electrical angle at the present moment, in 1/65,536 turn (R250). The six hall sectors lie a sixth of a turn apart from the
first one's centre, which is open (log entry 61). -/
def State.thetaE (s : State) (n : Nat) : Nat × State :=
  let c := s.fbS n
  let per := s.rf (Addr.AX_ELEC n) Fl.AX_ELEC_EPER
  let ofs := s.rf (Addr.AX_ELEC n) Fl.AX_ELEC_EOFS
  let lim (b v : Int) : Int := if v > b then b else if v < -b then -b else v
  let dt : Int := (s.now - c.tLast : Nat)
  let (r, s) : Int × State :=
    if per = 0 then
      let (tr, s) := s.freeRound (lim (65536 * 100000000) (s.cps16 n * dt)) (6 * 200000000)     -- within a twelfth of a turn
      match hallPos (s.rf (Addr.FB_STAT n) Fl.FB_STAT_HCODE) with
      | some p => let (c, s) := s.freeRound (65536 * p) 6; ((Config.hallZero : Int) + c + ofs + tr, s)
      | none => ((s.drvS n).th, s)
    else if s.fbMode n ≥ 3 ∧ c.tout = true then (((s.drvS n).th : Int), s)
    else
      let k := c.cnt / 2 ^ s.rf (Addr.AX_PWMCFG n) Fl.AX_PWMCFG_ESH
      let base := (k % (per : Int)) * 65536 / (per : Int) + (ofs : Int)
      if s.fbMode n ≥ 3 then
        -- at most one step of c, 65,536/EPER
        let e : Int := 200000000 * 2 ^ s.rf (Addr.AX_PWMCFG n) Fl.AX_PWMCFG_ESH
        let (tr, s) := s.freeRound (lim (65536 * e) (s.cps16 n * dt)) (e * (per : Int))
        (base + tr, s)
      else (base, s)
  let th := (r % 65536).toNat
  (th, s.modDrv n (fun d => { d with th := th }))

/-- At a frame edge the angles of the BLDC axes on serial channels are noted: what an angle holds when TOUT sets there (R250). -/
def State.thetaNote (s : State) : State :=
  (List.range 6).foldl (fun s n => if s.hasAx n && s.axDrive n == 5 && decide (s.fbMode n ≥ 3) then (s.thetaE n).2 else s) s

/-- A finite binary32 value as a multiple of 2^-60, cut off below. -/
def fix60 : Fv → Int
  | .fin g m e =>
    let v : Int := if e + 60 ≥ 0 then (m * 2 ^ (e + 60).toNat : Nat) else (m / 2 ^ (-(e + 60)).toNat : Nat)
    if g then -v else v
  | _ => 0

/-- The sine of k/49,152 of a quarter turn, scaled by 2^30: its series to the power 15, exact to 3 in 2^30. -/
def sinQuarter (k : Nat) : Int :=
  let t : Int := (k * 2 ^ 30 / 49152 : Nat)
  let u := t * t / 2 ^ 30
  [61, 3864, 172272, 5026995, 85569306, 693598668, 1686629713].foldl (fun p c => c - p * u / 2 ^ 30) 1 * t / 2 ^ 30

/-- The sine of an angle in 1/196,608 turn, scaled by 2^30; the deviation, below 2^-18, is free (R249, R258, R260; log entry 61). -/
def sin30 (a : Nat) : Int :=
  let a := a % 196608
  let k := if a / 49152 % 2 = 0 then a % 49152 else 49152 - a % 49152
  (if a < 98304 then sinQuarter k else - sinQuarter k) + ((Config.sinDev a % 8191 : Nat) - 4095 : Int)

/-- The angles of the steps of `atanSteps`, 2^32 to the turn. -/
def atanTable : List Nat :=
  [536870912, 316933406, 167458907, 85004756, 42667331, 21354465, 10679838, 5340245, 2670163, 1335087, 667544, 333772, 166886, 83443,
   41722, 20861, 10430, 5215, 2608, 1304, 652, 326, 163, 81]

/-- The angle of (x, y) with x ≥ 0, by turns of 2^-k toward the axis. -/
def atanSteps : List Nat → Nat → Int → Int → Int → Int
  | [], _, _, _, z => z
  | a :: as, k, x, y, z =>
    if y > 0 then atanSteps as (k + 1) (x + y / 2 ^ k) (y - x / 2 ^ k) (z + a)
    else if y < 0 then atanSteps as (k + 1) (x - y / 2 ^ k) (y + x / 2 ^ k) (z - a)
    else z

/-- atan2(y, x) in 1/65,536 turn, to a unit that is free; of two zeros a free angle (R258; log entry 61). -/
def atan16 (y x : Int) : Nat :=
  let d := Config.atanDev y x
  if x = 0 ∧ y = 0 then d % 65536
  else
    let z := if x < 0 then atanSteps atanTable 0 (-x * 2 ^ 32) (-y * 2 ^ 32) (2 ^ 31) else atanSteps atanTable 0 (x * 2 ^ 32) (y * 2 ^ 32) 0
    (((z + 2 ^ 15) / 2 ^ 16 + (d % 3 : Nat) - 1) % 65536).toNat

/-- Sine and cosine of an angle in 1/65,536 turn, turned back by k thirds of a turn. -/
def sinT (th k : Nat) : Int := sin30 ((3 * th + 196608 - 65536 * k) % 196608)
def cosT (th k : Nat) : Int := sin30 ((3 * th + 49152 + 196608 - 65536 * k) % 196608)

/-- PWM_STAGE: compare values from the voltage commands v_d and v_q (R249). A command that is not finite, or a bridge
supply of 0, gives free compare values. -/
def State.pwmStage (s : State) (sl : Slot) : State :=
  let n := sl.inst
  let (ws, s) := s.pop sl.hin 2
  let vd := f32 (ws.getD 0 0)
  let vq := f32 (ws.getD 1 0)
  let (th, s) := s.thetaE n
  let per : Int := s.rf (Addr.AX_PWMCFG n) Fl.AX_PWMCFG_PER
  let vdc := (s.drvS n).vdc
  let v (k : Nat) : Int := fix60 vd * cosT th k - fix60 vq * sinT th k
  let mx := max (v 0) (max (v 1) (v 2))
  let mn := min (v 0) (min (v 1) (v 2))
  let one (s : State) (k : Nat) : Nat × State :=
    if vd.isFin && vq.isFin && vdc != 0 then
      -- (v − (max+min)/2)/VDC in volts, VDC = vdc/10,000 V, values scaled by 2^90
      let num := (2 * v k - mx - mn) * 10000
      let den := 2 * vdc * 2 ^ 90
      let c := divNear ((2 * num + den) * per) (2 * den)
      ((if c < 0 then 0 else if c > per then per.toNat else c.toNat), s)
    else
      let (x, s) := s.freeVal
      (x % (per.toNat + 1), s)
  let (u, s) := one s 0
  let (w, s) := one s 1
  let (z, s) := one s 2
  s.modDrv n (fun d => { d with cmpS := some (u, w, z) })

/-- COMPARE_LOAD: at the first carrier valley after T_EMT the released compare values load (R249). -/
def State.compareLoad (s : State) (n cyc : Nat) : State :=
  let s := s.at cyc
  let d := s.drvS n
  let per := s.rf (Addr.AX_PWMCFG n) Fl.AX_PWMCFG_PER
  match d.cmpR with
  | some c => if s.axDrive n = 5 ∧ per > 0 ∧ (s.now - d.car0) % (2 * per) = 0 then 
      let t := s.now
      s.modDrv n (fun d => { d with cmp := c, cmpR := none, cmpP := d.cmp, cmpT := t })
    else s
  | none => s

/-- The compare value of phase x. -/
def cmpOf (c : Nat × Nat × Nat) (x : Nat) : Nat := match x with | 0 => c.1 | 1 => c.2.1 | _ => c.2.2

/-- The level of pad AXn_PWMk of a BLDC axis at a time, bridge on (R247, R248). The high side asks to be on while the carrier counter
is below the compare value, the low side otherwise; each turns on DT cycles after its partner has turned off, and a pulse shorter than
DT is left out. A compare value loaded at the valley ends the pulse that the one before it began. -/
def State.pwmPad (s : State) (n k t : Nat) : Bool :=
  let d := s.drvS n
  let per := s.rf (Addr.AX_PWMCFG n) Fl.AX_PWMCFG_PER
  let dt := s.rf (Addr.AX_PWMCFG n) Fl.AX_PWMCFG_DT
  let c := cmpOf d.cmp (k / 2)
  let p := (t - d.car0) % (2 * per)           -- time since the valley
  let was := if t - p = d.cmpT then cmpOf d.cmpP (k / 2) else c
  let lead := was - 1                          -- how long before the valley the high side asked
  if d.off || per == 0 then false
  else if k % 2 = 0 then
    if c = 0 then false
    else if p < per then (was == per && decide (p < c)) || (decide (p < c ∨ c = per) && decide (dt ≤ lead + c) && decide (dt ≤ lead + p))
    else c == per || (decide (dt ≤ 2 * c - 1) && decide (2 * per + dt < p + c))
  else
    if c = per then false
    else if c = 0 then decide (was ≤ 1) || decide (per ≤ p) || decide (dt ≤ p)
    else decide (dt ≤ 2 * per - 2 * c + 1) && decide (c + dt ≤ p) && decide (p ≤ 2 * per - c)

/-- The levels of a stepper axis's pads A+, A−, B+, B− (R242, R256). -/
def State.coilPads (s : State) (n : Nat) : List Bool :=
  let d := s.drvS n
  let tf := s.rf (Addr.AX_CHOP n) Fl.AX_CHOP_TFAST
  let decay := s.rf (Addr.AX_CHOP n) Fl.AX_CHOP_DECAY
  d.coils.flatMap (fun c =>
    let g : Int :=
      if d.off then 0
      else match c.ph with
        | 1 => c.dir
        | 2 => if decay = 1 ∨ (decay = 2 ∧ s.now < c.t0 + 4 * tf) then -c.dir else 0
        | _ => 0
    [decide (g > 0), decide (g < 0)])

/-- The pads STEP and DIR of an external step axis at a time (R177): STEP is high for PW cycles; DIR is high for forward steps, unless
DIRPOL inverts it (DESIGN CHOICE, log 142). -/
def State.stepPad (s : State) (n t : Nat) : Bool :=
  (s.axS n).stq.any (fun i => decide (i ≤ t) && decide (t < i + s.rf (Addr.AX_STEP n) Fl.AX_STEP_PW))

def State.dirPad (s : State) (n t : Nat) : Bool :=
  let x := s.axS n
  let back := if x.dirT ≤ t then x.back else !x.back
  back == s.flag (Addr.AX_PCFG n) Fl.AX_PCFG_DIRPOL

/-- The levels the drive stage gives AXn_PWM0 to AXn_PWM5 at present (R158, R159, R242): ENABLE is PWM2 of DRIVE 1 and 3; pads a drive
does not use are low. -/
def State.axPads (s : State) (n : Nat) : List Bool :=
  if !s.hasAx n then List.replicate 6 false
  else
    match s.axDrive n with
    | 1 | 3 => [s.stepPad n s.now, s.dirPad n s.now, true, false, false, false]
    | 2 | 4 => s.coilPads n ++ [false, false]
    | 5 => (List.range 6).map (fun k => s.pwmPad n k s.now)
    | _ => List.replicate 6 false

/-! ### Frame steps -/

/-- The drive stage at a frame boundary: currents latched (R244), carriers restarted (R251), driving times taken,
marks of the ended frame cleared. `adc` gives each axis the voltages of ISA, ISB, ISC and VDC in µV: at the valley for
DRIVE 5, the means for DRIVE 2 and 4. -/
def State.drvBoundary (s : State) (adc : List (List Nat)) : State :=
  (List.range 6).foldl (fun s n =>
    if s.hasAx n && s.axInt n then
      let s := s.coilSync n
      let cs := adc.getD n []
      let uv (k : Nat) : Nat := cs.getD k 0
      let iA := s.uA n (uv 0)
      let iB := s.uA n (uv 1)
      let iC := if s.axDrive n = 5 then s.uA n (uv 2) else 0
      let v : Int := adcCode (uv 3) * s.rf (Addr.AX_ISCFG n) Fl.AX_ISCFG_VSCALE
      let (mA, s) := s.freeRound iA 1000
      let (a, s) := s.fitS 16 mA
      let (mB, s) := s.freeRound iB 1000
      let (b, s) := s.fitS 16 mB
      let (mC, s) := s.freeRound iC 1000
      let (c, s) := s.fitS 16 mC
      let (mV, s) := s.freeRound v 100
      let (w, s) := s.fitU 16 mV
      let s := (s.sayW (Addr.AX_IAB n) (wN (a + 65536 * b))).sayW (Addr.AX_IC n) (wN (c + 65536 * w))
      let e := s.ecyc
      let sync := s.flag (Addr.AX_PWMCFG n) Fl.AX_PWMCFG_SYNC
      s.modDrv n (fun d =>
        { d with
          pA := d.iA, pB := d.iB, iA := iA, iB := iB, iC := iC, vdc := v, stall := false,
          vnA := (d.coils.getD 0 CoilS.init).acc, vnB := (d.coils.getD 1 CoilS.init).acc,
          coils := d.coils.map (fun c => { c with acc := 0, accT := e }),
          car0 := if sync || d.carN then e else d.car0, carN := false })
    else s) s

/-- A sheaf begins: the carriers start at its first frame edge (R251). -/
def State.carrierStart (s : State) : State := (List.range 6).foldl (fun s n => s.modDrv n (fun d => { d with carN := true })) s

/-- The drive stage at the release (R57, R246, R249, R255). -/
def State.drvRelease (s : State) : State :=
  (List.range 6).foldl (fun s n =>
    if s.hasAx n && s.axInt n then
      let s := s.coilSync n
      let red := (s.axS n).ired
      let s := s.modDrv n (fun d =>
        { d with
          offNR := false, scl := d.sclS.getD d.scl, sclS := none, ired := red,
          cmpR := match d.cmpS with | some c => some c | none => d.cmpR, cmpS := none })
      (s.coilSync n).brgShow n
    else s) s

/-- The drive registers at the commit (R39). -/
def State.drvPublish (s : State) : State :=
  (List.range 6).foldl (fun s n =>
    if s.hasAx n then
      let d := s.drvS n
      let s := s.wr (Addr.AX_CMP01 n) (wN (d.cmp.1 + 65536 * d.cmp.2.1))
      let s := s.wr (Addr.AX_CMP2 n) (wN d.cmp.2.2)
      let s := s.wf (Addr.AX_MSTEP n) Fl.AX_MSTEP_MIDX (s.axS n).m
      s.wr (Addr.AX_CHOFS n) (wN ((d.coils.getD 0 CoilS.init).ofs.toNat + 65536 * (d.coils.getD 1 CoilS.init).ofs.toNat))
    else s) s

/-! ### Load angle, stall, force (R258–R260) -/

/-- The doors whose axis, or whose axis's link group, holds axis n, and that are enabled. -/
def State.doorsOn (s : State) (n : Nat) : List Nat :=
  [1, 2, 3, 4].filter (fun d => s.hasDoor d && s.flag (Addr.DOR_CFG d) Fl.DOR_CFG_EN && (s.grpOf d).contains n)

/-- A word of the active force set of a door (R282). -/
def State.fset (s : State) (d k : Nat) : Nat := ((s.dor.getD (d - 1) DorS.init).fA).getD k 0

/-- FORCE_EST: load angle, stall and force on a door's axis; the force for the sequencer is left in the door (R258–R260). -/
def State.forceEst (s : State) (sl : Slot) : State :=
  let n := sl.inst
  let d := s.drvS n
  let dr := s.axDrive n
  let cvel := divZ (s.axS n).spd sc
  let sg := cvel.sign
  let vemf : Nat := 100 * s.rf (Addr.AX_LACFG n) Fl.AX_LACFG_VEMF
  let fast := decide (cvel.natAbs ≥ vemf)
  let kf : Int := s.fset n 7
  let fric : Int := s.fset n 8
  let mass : Int := s.fset n 6
  -- load angle of a stepper
  let R : Int := s.rf (Addr.AX_EMF n) Fl.AX_EMF_RCOIL
  let L : Int := s.rf (Addr.AX_EMF n) Fl.AX_EMF_LCOIL
  let N : Int := s.ncyc
  let emf (vn i p : Int) : Int := d.vdc * 100000 * vn - R * i * N - L * (i - p) * 200000
  let stp := dr == 2 || dr == 4
  let valid := stp && fast
  let raw : Int := ((s.axS n).m * 64 : Nat) - (atan16 (emf d.vnB d.iB d.pB) (emf d.vnA d.iA d.pA) : Int) + 16384
  let delta := if valid then sext 16 (enc 16 (sext 16 (enc 16 raw) * sg)) else 0
  let s := if stp then s.pub (Addr.AX_LANG n) (wN (enc 16 delta + 65536 * b2n valid)) else s
  -- stall
  let fb := s.cs (Addr.FB_VEL n)
  let bad :=
    (valid && decide (delta > s.rf (Addr.AX_LACFG n) Fl.AX_LACFG_STALLA)) ||
    (dr == 5 && fast && decide (4 * fb * sg < cvel.natAbs))
  let nf := match s.doorsOn n with | [] => 2 | k :: _ => s.fset k 9
  let cnt := if bad then d.stallN + 1 else 0
  let hit := bad && decide (cnt ≥ nf)
  let rise := hit && !d.stallB
  let s := s.modDrv n (fun d => { d with stallN := cnt, stall := hit, stallB := hit })
  let s :=
    if rise then
      let s := ((s.pubF (Addr.AX_DSTAT n) Fl.AX_DSTAT_STALL 1).irqC 11 n).raise 0x62 n 1
      if dr = 2 ∨ (s.doorsOn n).isEmpty then s.immStop n 2 else s
    else s
  -- force
  let (th, s) := if dr = 5 then s.thetaE n else (0, s)
  let iq : Int := - (d.iA * sinT th 0 + d.iB * sinT th 1 + d.iC * sinT th 2)      -- ×3/2, µA·2^30
  let id : Int := d.iA * cosT th 0 + d.iB * cosT th 1 + d.iC * cosT th 2
  let acc := divZ (s.axS n).accl sc
  let (ip, iqn) := s.iRef n
  let K : Int := 3 * 2 ^ 30
  let (f, s) :=
    if dr = 5 then
      -- KF·i_q in nN: mN/A · µA; 0.1 N = 10^8 nN; MASS·a in 100 nN
      s.freeRound (sg * (kf * 2 * iq - mass * acc * 100 * K) - fric * 100000000 * K) (100000000 * K)
    else if valid then
      s.freeRound (kf * ip * sin30 ((3 * enc 16 delta) % 196608) - fric * 100000 * iqn * 2 ^ 30) (100000 * iqn * 2 ^ 30)
    else (0, s)
  let (fw, s) := s.fitS 32 f
  let s := if s.hasDoor n then s.pub (Addr.DOR_FEST n) (wN fw) else s
  let ev := dr == 5 || valid
  let s := { s with dor := setAt 4 DorS.init s.dor (n - 1) (fun x => { x with fest := if ev then some (sext 32 fw) else none }) }
  if dr = 5 then
    let fl (v : Int) : Word := toF32 0 (fvDiv rnd32 (.fin (decide (v < 0)) (2 * v.natAbs) 0) (.fin false (1000000 * K.toNat) 0))
    s.push sl.hout [fl id, fl iq, toF32 0 (int32 f)]
  else s

end Sys2Proof.Machine
end

