-- ==== Sys2Proof/Machine/Doors.lean ====
section
/-! DEFINITION. The door sequencer (chapter 06, R261–R276, R282, R283): commands, evaluation order, states, caps, force
sets. -/

namespace Sys2Proof.Machine

def State.dorS (s : State) (d : Nat) : DorS := s.dor.getD (d - 1) DorS.init

def State.modDor (s : State) (d : Nat) (f : DorS → DorS) : State := { s with dor := setAt 4 DorS.init s.dor (d - 1) f }

def State.dorEn (s : State) (d : Nat) : Bool := s.hasDoor d && s.flag (Addr.DOR_CFG d) Fl.DOR_CFG_EN

def State.dorRole (s : State) (d : Nat) : Nat := s.rf (Addr.DOR_CFG d) Fl.DOR_CFG_ROLE

/-- The inputs of a door: enabled and at their active level (R281). -/
def State.dorClosed (s : State) (d : Nat) : Bool :=
  let a := Addr.DOR_IN d
  s.flag a Fl.DOR_IN_CLSEN && (s.inp (s.rf a Fl.DOR_IN_CLSIN) != s.flag a Fl.DOR_IN_CLSPOL)

def State.dorLock (s : State) (d : Nat) : Bool :=
  let a := Addr.DOR_IN d
  s.flag a Fl.DOR_IN_LCKEN && (s.inp (s.rf a Fl.DOR_IN_LCKIN) != s.flag a Fl.DOR_IN_LCKPOL)

def State.dorRev (s : State) (d : Nat) : Bool :=
  let a := Addr.DOR_IN d
  s.flag a Fl.DOR_IN_REVEN && (s.inp (s.rf a Fl.DOR_IN_REVIN) != s.flag a Fl.DOR_IN_REVPOL)

def State.dorHoldIn (s : State) (d : Nat) : Bool :=
  let a := Addr.DOR_IN d
  s.flag a Fl.DOR_IN_HLDEN && (s.inp (s.rf a Fl.DOR_IN_HLDIN) != s.flag a Fl.DOR_IN_HLDPOL)

def State.dorOpen (s : State) (d : Nat) : Int := s.rs (Addr.DOR_OPEN d)
def State.dorClose (s : State) (d : Nat) : Int := s.rs (Addr.DOR_CLOSE d)

/-- P of R269, scaled by 2^32. -/
def State.dorPos (s : State) (d : Nat) : Int := if s.axFeedback d then s.cs (Addr.FB_POS d) * sc else (s.axS d).pos

/-- Is |P − CLOSEPOS| ≤ CLOSEWIN? -/
def State.dorInWin (s : State) (d : Nat) : Bool :=
  decide ((s.dorPos d - s.dorClose d * sc).natAbs ≤ s.rf (Addr.DOR_TMV d) Fl.DOR_TMV_CLOSEWIN * sc.natAbs)

/-- Is AXd IDLE at a position? -/
def State.dorAt (s : State) (d : Nat) (p : Int) : Bool := (s.axS d).mot == .idle && (s.axS d).pos == p * sc && (s.dorS d).axc.isNone

/-- Is the door referenced (R264)? -/
def State.dorRefd (s : State) (d : Nat) : Bool :=
  ((s.axS d).homed && !(s.axS d).poslost) ||
    (decide (s.fbMode d ≥ 3) && s.flag (Addr.FB_STAT d) Fl.FB_STAT_VALID)

/-- The guard's door-zone permission for the door (R267, R377): of the last ZONE_CHK that completed. -/
def State.dorZone (s : State) (d : Nat) : Bool :=
  bitOf (s.cur Addr.HDL_PERM).toNat (2 * s.rf (Addr.DOR_CFG d) Fl.DOR_CFG_DECK + s.rf (Addr.DOR_CFG d) Fl.DOR_CFG_SIDE)

/-- The speed cap of a closing door from its energy bound (R273): state 3 CLOSING, 4 NUDGING. -/
def State.dorCap (s : State) (d : Nat) : Option Nat :=
  let f (k : Nat) : Nat := (s.dorS d).fA.getD k 0
  let bound (e : Nat) : Nat := if f 6 = 0 then 0 else isqrt (10 ^ 12 * e / (50 * f 6))
  match (s.dorS d).st with
  | 3 => some (bound (f 3))
  | 4 => some (min (f 5) (bound (f 4)))
  | _ => none

/-- The cap takes the place of VRUN (R273). -/
def State.dorCapSet (s : State) (d : Nat) : State :=
  let c := s.dorCap d
  s.modAx d (fun x => { x with vcap := c })

/-- A door changes state: interrupt, entry times, cap (R271, R273, R615). -/
def State.dorTo (s : State) (d st : Nat) : State :=
  let was := (s.dorS d).st
  let t := s.now
  let s := s.modDor d (fun x =>
    { x with
      st := st, tEnt := if st = 0 then t else x.tEnt, lockTo := if st = 0 then false else x.lockTo })
  let s := if was = st then s else s.sayI 12 (d - 1)
  let s := if st = 7 ∧ was ≠ 7 then s.sayI 12 6 else s
  s.dorCapSet d

/-- Issue MOVE to a target; it acts in the next frame (R263). -/
def State.dorMove (s : State) (d : Nat) (t : Int) : State :=
  let now := s.now
  s.modDor d (fun x => { x with axc := some (some t), goal := t, tMove := now })

/-- Issue HALT (R263). -/
def State.dorHalt (s : State) (d : Nat) : State := s.modDor d (fun x => { x with axc := some none })

/-- FAULT with a cause (R268). -/
def State.dorFault (s : State) (d c : Nat) : State := (s.dorTo d 7).modDor d (fun x => { x with fcause := c, part := false, wait := 0 })

/-- Partial hold (R271). -/
def State.dorPart (s : State) (d : Nat) : State := (s.dorTo d 2).modDor d (fun x => { x with part := true, wait := 0 })

/-- OPEN_HOLD with the hold timer started. -/
def State.dorHold (s : State) (d : Nat) : State :=
  let t := s.now
  (s.dorTo d 2).modDor d (fun x => { x with part := false, hold0 := t })

/-- CLOSED (R271). -/
def State.dorShut (s : State) (d : Nat) : State := (s.dorTo d 0).modDor d (fun x => { x with reo := 0, part := false, wait := 0 })

/-- OPENING toward OPENPOS. -/
def State.dorOpening (s : State) (d : Nat) : State := ((s.dorTo d 1).dorMove d (s.dorOpen d)).modDor d (fun x => { x with wait := 0, part := false })

/-- CLOSING or NUDGING toward CLOSEPOS. -/
def State.dorClosing (s : State) (d st : Nat) : State := ((s.dorTo d st).dorMove d (s.dorClose d)).modDor d (fun x => { x with wait := 0, part := false })

/-- CLOSE or the timer in OPEN_HOLD: NUDGING after NREO reopens (R271). -/
def State.dorAuto (s : State) (d : Nat) : State :=
  let n := s.rf (Addr.DOR_TIM d) Fl.DOR_TIM_NREO
  s.dorClosing d (if n > 0 ∧ (s.dorS d).reo ≥ n then 4 else 3)

/-- REOPENING with its cause (R271, R275). -/
def State.dorReopen (s : State) (d cause : Nat) : State :=
  let o := s.dorOpen d
  let t :=
    if s.dorRole d = 4 ∨ s.dorRole d = 5 then
      let p := s.dorPos d / sc
      let b := s.rs (Addr.DOR_BOFF d)
      if o ≥ p then min o (p + b) else max o (p - b)
    else o
  ((s.dorTo d 5).dorMove d t).modDor d (fun x => { x with reo := min 255 (x.reo + 1), rcause := cause, wait := 0 })

/-- A command is refused (R265, R266). -/
def State.dorRefuse (s : State) (d : Nat) : State := s.say (Addr.DOR_STAT d) Fl.DOR_STAT_CMDREF 1

/-- OPEN from CLOSED or LOCKED outside the door zone (R267)? -/
def State.dorZref (s : State) (d : Nat) : State := (s.say (Addr.DOR_STAT d) Fl.DOR_STAT_ZREF 1).dorRefuse d

/-- OPEN acts (R267, R271, R272). -/
def State.dorDoOpen (s : State) (d : Nat) : State :=
  let x := s.dorS d
  match x.st with
  | 0 | 6 => if s.flag (Addr.DOR_CFG d) Fl.DOR_CFG_ZPERM && !s.dorZone d then s.dorZref d else s.dorOpening d
  | 2 => if x.part then s.dorOpening d else (s.dorHold d).modDor d (fun x => { x with wait := 0 })
  | 3 | 4 => s.dorReopen d 3
  | _ => s.modDor d (fun x => { x with wait := 0 })

/-- STOP acts. -/
def State.dorDoStop (s : State) (d : Nat) : State :=
  match (s.dorS d).st with
  | 1 | 3 | 4 => (s.dorPart d).dorHalt d
  | 2 => s.dorPart d
  | _ => s.modDor d (fun x => { x with wait := 0 })

/-- NUDGE acts. -/
def State.dorDoNudge (s : State) (d : Nat) : State :=
  match (s.dorS d).st with
  | 1 | 2 => s.dorClosing d 4
  | 3 => s.dorTo d 4
  | 5 => s.modDor d (fun x => { x with wait := 2 })
  | _ => s

/-- CLOSE acts. -/
def State.dorDoClose (s : State) (d : Nat) : State :=
  match (s.dorS d).st with
  | 1 => s.dorClosing d 3
  | 2 => if s.dorRev d then s.modDor d (fun x => { x with wait := 1 }) else s.dorAuto d
  | 5 => s.modDor d (fun x => { x with wait := 1 })
  | _ => s

/-- FRESET in FAULT (R271). -/
def State.dorDoReset (s : State) (d : Nat) : State :=
  if (s.dorS d).st ≠ 7 then s
  else if !s.dorRefd d then s.dorRefuse d
  else if (if s.flag (Addr.DOR_IN d) Fl.DOR_IN_CLSEN then s.dorClosed d else s.dorInWin d) then s.dorShut d
  else s.dorPart d

/-- The commands of one frame (R265, R266): refused outside RUN and in FAULT, the highest of OPEN, STOP, NUDGE, CLOSE
acts. -/
def State.dorCommands (s : State) (d : Nat) (cs : List Nat) : State :=
  let four := cs.filter (fun c => decide (1 ≤ c) && decide (c ≤ 4))
  if (s.dorS d).st = 7 then
    let s := if four.isEmpty then s else s.dorRefuse d
    if cs.contains 5 then s.dorDoReset d else s
  else if four.isEmpty then s
  else if s.mode ≠ .RUN then s.dorRefuse d
  else if four.contains 1 then s.dorDoOpen d
  else if four.contains 4 then s.dorDoStop d
  else if four.contains 3 then s.dorDoNudge d
  else s.dorDoClose d

/-- A DOR_CMDd write takes effect at its boundary: the command waits for DOOR_SEQ, which takes one of a frame's (R265, R266). -/
def State.dorNote (s : State) (d c : Nat) : State :=
  if s.dorEn d && s.running then s.modDor d (fun x => { x with cmds := if c = 0 then x.cmds else x.cmds ++ [c] })
  else if s.hasDoor d && c != 0 then s.dorRefuse d else s

/-! ### The sequencer's slot (R268–R274) -/

/-- TMOVE exceeded (R268, R281): fault 0x68. -/
def State.tmoveOver (s : State) (d : Nat) : Bool :=
  let x := s.dorS d
  (x.st == 1 || x.st == 3 || x.st == 4 || x.st == 5) &&
    decide (s.now > x.tMove + 20000000 * s.rf (Addr.DOR_TMV d) Fl.DOR_TMV_TMOVE)

def State.doTmove (s : State) (d : Nat) : State :=
  ((s.dorFault d 3).say (Addr.DOR_STAT d) Fl.DOR_STAT_TMO 1).raise 0x68 d 1

/-- The hold timer has run out in OPEN_HOLD (R271, R275: THOLD = 0 never). -/
def State.holdOver (s : State) (d : Nat) : Bool :=
  let x := s.dorS d
  let t := s.rf (Addr.DOR_TIM d) Fl.DOR_TIM_THOLD
  x.st == 2 && !x.part && decide (t > 0) && decide (s.now ≥ x.hold0 + 20000000 * t)

/-- The timer closes the door, or waits for the reversing input (R271, R272). -/
def State.doHold (s : State) (d : Nat) : State :=
  if s.dorRev d then s.modDor d (fun x => { x with wait := 1 }) else s.dorAuto d

/-- TLOCK has elapsed in CLOSED without the lock input (R271, R276). -/
def State.lockOver (s : State) (d : Nat) : Bool :=
  let x := s.dorS d
  x.st == 0 && s.flag (Addr.DOR_CFG d) Fl.DOR_CFG_LOCKEN && !x.lockTo && !s.dorLock d &&
    decide (s.now ≥ x.tEnt + 2000000 * s.rf (Addr.DOR_TIM d) Fl.DOR_TIM_TLOCK)

def State.doLockTo (s : State) (d : Nat) : State :=
  ((s.modDor d (fun x => { x with lockTo := true })).say (Addr.DOR_STAT d) Fl.DOR_STAT_LOCKTO 1).raise 0x65 d 1

/-- The kinetic energy of R274 times 2·10^10, mJ. -/
def State.dorKe (s : State) (d : Nat) : Nat :=
  let v := if s.axFeedback d then s.cs (Addr.FB_VEL d) else divZ (s.axS d).spd sc
  (s.dorS d).fA.getD 6 0 * v.natAbs * v.natAbs

/-- Does an axis that the door moves stall in this frame: one with position feedback (DRIVE 4 or 5) or a step-only one (R259, R268, R270)? -/
def State.dorStall (s : State) (d : Nat) (fb : Bool) : Bool :=
  (s.grpOf d).any (fun m => (s.drvS m).stall && (if fb then s.axDrive m == 4 || s.axDrive m == 5 else s.axDrive m == 2))

/-- Item 1 of R268: the fault that ends the evaluation, if any. -/
def State.dorItem1 (s : State) (d : Nat) : Option State :=
  let x := s.dorS d
  let con := s.dorClosed d
  if s.dorStall d false then some (s.dorFault d 6)
  else if x.imm then some (s.dorFault d 2)
  else if s.tmoveOver d then some (s.doTmove d)
  else if con = true ∧ x.con = false ∧ s.dorInWin d = false then some ((s.dorFault d 4).raise 0x67 d 1)
  else if !s.dorRefd d then some (s.dorFault d 1)
  else none

/-- Item 2: arrival (R269), and the arrivals of the other moves (R271). -/
def State.dorItem2 (s : State) (d : Nat) : Option State :=
  let x := s.dorS d
  let a := Addr.DOR_IN d
  let con := s.dorClosed d
  if x.st = 3 ∨ x.st = 4 then
    if con && !x.con && s.dorInWin d then some ((s.dorShut d).dorHalt d)
    else if s.dorAt d (s.dorClose d) && (con || !s.flag a Fl.DOR_IN_CLSEN) then some (s.dorShut d)
    else none
  else if x.st = 1 ∧ s.dorAt d (s.dorOpen d) = true then some (s.dorHold d)
  else if x.st = 5 ∧ s.dorAt d x.goal = true then
    let w := x.wait
    let s := if x.goal = s.dorOpen d then s.dorHold d else s.dorPart d
    some (match w with
      | 1 => if s.dorRev d then s.modDor d (fun x => { x with wait := 1 }) else s.dorAuto d
      | 2 => s.dorClosing d 4
      | _ => s)
  else none

/-- Item 3: obstruction (R270). -/
def State.dorItem3 (s : State) (d : Nat) : Option State :=
  let x := s.dorS d
  let nf := x.fA.getD 9 0
  let ne := x.fA.getD 10 0
  let stalled := s.dorStall d true
  let obs (s : State) : State := (s.say (Addr.DOR_STAT d) Fl.DOR_STAT_OBS 1).sayI 12 4
  if x.st = 3 ∨ x.st = 4 then
    if x.way == 2 && !s.dorInWin d then
      let energy := decide (x.ec ≥ ne)
      let cause := if x.st = 3 ∧ s.dorRev d = true then 2 else if x.fc ≥ nf then 1 else if energy then 5 else if stalled then 4 else 0
      let s := if energy then ((s.say (Addr.DOR_STAT d) Fl.DOR_STAT_KEXC 1).sayI 12 5).raise 0x64 d 1 else s
      if cause = 0 then none else some (((obs s).dorReopen d cause).raise 0x63 d 0)
    else none
  else if x.st = 1 ∨ x.st = 5 then
    if x.way = 1 ∧ (x.fc ≥ nf ∨ stalled = true) then some (((obs s).dorPart d).dorHalt d) else none
  else none

/-- The counts of R270 for this frame, by the direction of the commanded speed. -/
def State.dorCounts (s : State) (d : Nat) : State :=
  let x := s.dorS d
  let f (k : Nat) : Nat := x.fA.getD k 0
  let v := (s.axS d).spd * (s.dorClose d - s.dorOpen d)
  let way := if v > 0 then 2 else if v < 0 then 1 else 0
  let closing := (x.st == 3 || x.st == 4) && way == 2 && !s.dorInWin d
  let opening := (x.st == 1 || x.st == 5) && way == 1
  let lim : Nat := match x.st with | 3 => f 0 | 4 => f 2 | _ => f 1
  let beyond := (closing || opening) && (match x.fest with | some v => decide (v > (lim : Int)) | none => false)
  let hot := closing && decide (s.dorKe d > (if x.st = 4 then f 4 else f 3) * 20000000000)
  let was (n : Nat) : Nat := if way = x.way then n else 0
  s.modDor d (fun x => { x with fc := if beyond then was x.fc + 1 else 0, ec := if hot then was x.ec + 1 else 0, way := way })

/-- Item 5 and the changes that need no command (R271, R272, R276). -/
def State.dorItem5 (s : State) (d : Nat) : State :=
  let x := s.dorS d
  match x.st with
  | 0 =>
    if s.flag (Addr.DOR_IN d) Fl.DOR_IN_CLSEN && !s.dorClosed d then (s.dorFault d 5).raise 0x69 d 1
    else if s.flag (Addr.DOR_CFG d) Fl.DOR_CFG_LOCKEN && s.dorLock d then s.dorTo d 6
    else if s.lockOver d then s.doLockTo d else s
  | 6 =>
    if s.flag (Addr.DOR_IN d) Fl.DOR_IN_CLSEN && !s.dorClosed d then (s.dorFault d 5).raise 0x69 d 1
    else if !s.dorLock d then (s.dorTo d 0).raise 0x66 d 1 else s
  | 2 =>
    if x.wait = 1 then (if s.dorRev d then s else s.dorAuto d)
    else if x.part then s
    else if s.holdOver d && !s.dorHoldIn d then s.doHold d
    else if s.dorRev d || (s.dorHoldIn d && decide (s.dorRole d < 4)) then s.dorHold d
    else s
  | _ => s

/-- Items 1 to 5 of R268 in their order: the first that applies decides; a command that changes nothing lets item 5 decide. -/
def State.dorItems (s : State) (d : Nat) (cs : List Nat) : State :=
  let st := (s.dorS d).st
  match (if st = 7 then none else s.dorItem1 d) with
  | some t => t
  | none =>
    match s.dorItem2 d with
    | some t => t
    | none =>
      match s.dorItem3 d with
      | some t => t
      | none =>
        let t := s.dorCommands d cs
        if (t.dorS d).st = st then t.dorItem5 d else t

/-- The commands DOOR_SEQ decides on: those that wait, the word of its hopper, and OPEN where the retract input asks for it (R265, R266,
R275). -/
def State.dorWords (s : State) (d : Nat) (ws : List Word) : List Nat :=
  let c := match ws with | w :: _ => w.toNat % 16 | [] => 0
  (s.dorS d).cmds ++ (if 1 ≤ c ∧ c ≤ 5 then [c] else []) ++ (if (s.dorRole d == 4 || s.dorRole d == 5) && s.dorHoldIn d then [1] else [])

/-- DOOR_SEQ (R265–R274). -/
def State.doorSeq (s : State) (sl : Slot) : State :=
  let d := sl.inst
  let r := s.popOpt sl.hin 1
  if !s.dorEn d then r.2
  else
    let s := r.2
    let s := if (match r.1 with | w :: _ => w.toNat % 16 | [] => 0) ≥ 6 then s.dorRefuse d else s
    let cs := s.dorWords d r.1
    let con := s.dorClosed d
    let r := (s.dorCounts d).dorItems d cs
    let ke := r.dorKe d
    let (kw, r) := r.freeRound ke 20000000000
    let (kb, r) := r.fitU 32 kw
    let r := r.pub (Addr.DOR_KE d) (wN kb)
    r.modDor d (fun x => { x with con := con, cmds := [], imm := false })

/-! ### Boundary, events, commit -/

/-- The doors at a boundary: the axis commands of the last frame act (R263), the force estimate of the ended frame goes. -/
def State.dorBoundary (s : State) : State :=
  [1, 2, 3, 4].foldl (fun s d =>
    if !s.hasDoor d then s
    else
      let x := s.dorS d
      let s := s.modDor d (fun x => { x with axc := none, fest := none })
      let s :=
        match x.axc with
        | none => s
        | some none => s.doHalt d
        | some (some t) =>
          let s := s.modAx d (fun a => { a with dtgt := some t })
          (s.cmdMove d).modAx d (fun a => { a with dtgt := none })
      s.dorCapSet d) s

/-- The first frame of a sheaf (R264). -/
def State.dorSheafStart (s : State) : State :=
  [1, 2, 3, 4].foldl (fun s d => if s.dorEn d then (s.dorFault d 1).modDor d (fun x => { x with axc := none, cmds := [], imm := false }) else s) s

/-- HALT or ABORT from outside on an axis, or leaving RUN: its moving doors go to partial hold (R271). -/
def State.dorOutside (s : State) (n : Nat) : State :=
  (s.doorsOn n).foldl (fun s d =>
    let st := (s.dorS d).st
    let s := if st = 1 ∨ st = 3 ∨ st = 4 ∨ st = 5 then s.dorPart d else s
    s.modDor d (fun x => { x with axc := none })) s

/-- HOLD_TIMER_EXPIRY. -/
def State.holdTimerExpiry (s : State) (d cyc : Nat) : State :=
  let s := s.at cyc
  if s.dorEn d && s.running && s.holdOver d && !s.dorHoldIn d then s.doHold d else s

/-- TLOCK_EXPIRY. -/
def State.tlockExpiry (s : State) (d cyc : Nat) : State :=
  let s := s.at cyc
  if s.dorEn d && s.running && s.lockOver d then s.doLockTo d else s

/-- TMOVE_EXCEEDED. -/
def State.tmoveExceeded (s : State) (d cyc : Nat) : State :=
  let s := s.at cyc
  if s.dorEn d && s.running && s.tmoveOver d then s.doTmove d else s

/-- An axis command from software (R163, R262, R306): MOVE, TABLE and HOME of a door's axis are refused while the door is
enabled and not in FAULT, those of AX0 while the stop table holds it; HALT and ABORT bring a moving door to partial hold, and the stop
table sees them. -/
def State.axCommandSw (s : State) (n c : Nat) : State :=
  if (c = 1 ∨ c = 2 ∨ c = 3 ∨ c = 5) ∧ s.guardHolds n = true then s
  else if (c = 1 ∨ c = 2 ∨ c = 5) ∧ ((s.dorEn n = true ∧ (s.dorS n).st ≠ 7) ∨ (n = 0 ∧ s.stpHolds = true)) then s.cmdRef n
  else
    let was := s.dor.map (fun x => x.imm)
    let s := s.axCommand n c
    if c = 3 ∨ c = 4 then
      -- the stop of an ABORT is no stop of R268's item 1 (R271)
      let s := { s with dor := s.dor.zipIdx.map (fun (p : DorS × Nat) => { p.1 with imm := was.getD p.2 false }) }
      let s := if n = 0 ∧ s.running = true then { s with stp := { s.stp with ext := true } } else s
      (s.grpOf n).foldl (fun s m => s.dorOutside m) s
    else s

/-- The door registers at the commit (R39, R281). -/
def State.dorPublish (s : State) : State :=
  [1, 2, 3, 4].foldl (fun s d =>
    if !s.hasDoor d then s
    else
      let x := s.dorS d
      let a := Addr.DOR_STAT d
      let run := x.st == 2 && !x.part && decide (s.rf (Addr.DOR_TIM d) Fl.DOR_TIM_THOLD > 0)
      let s := (s.wf a Fl.DOR_STAT_STATE x.st).wf a Fl.DOR_STAT_FCAUSE x.fcause
      let s := (s.wf a Fl.DOR_STAT_RCAUSE x.rcause).wf a Fl.DOR_STAT_REOCNT x.reo
      let s := (s.wf a Fl.DOR_STAT_HOLDRUN (b2n run)).wf a Fl.DOR_STAT_PARTIAL (b2n x.part)
      let vrun := (s.rd (Addr.AX_VRUN d)).toNat
      s.wr (Addr.DOR_VCAP d) (wN (match s.dorCap d with | some c => min vrun c | none => vrun))) s

/-! ### Force sets (R282, R283) -/

/-- The ranges of the eleven words. -/
def forceRange : List (Nat × Nat) :=
  [(100, 4000), (100, 4000), (100, 4000), (100, 50000), (100, 50000), (1, 5000000), (1, 10000), (1, 10000000), (0, 4000), (1, 16), (1, 16)]

/-- The check of a shadow force set: cause and word. -/
def State.forceCheck (s : State) (d : Nat) : Nat × Nat :=
  let w (k : Nat) : Nat := (s.dorS d).fS.getD k 0
  match (List.range 11).find? (fun k => let r := forceRange.getD k (0, 0); decide (w k < r.1) || decide (r.2 < w k)) with
  | some k => (1, k)
  | none =>
    if w 2 > w 0 then (2, 2)
    else if w 4 > w 3 then (3, 4)
    else if w 5 > (s.rd (Addr.AX_VMAX d)).toNat then (4, 5)
    else (0, 0)

def State.forceChk (s : State) (d : Nat) : State × Bool :=
  let r := s.forceCheck d
  (s.wr (Addr.DOR_FCHK d) (wN (r.1 + 256 * r.2)), r.1 == 0)

/-- The swap of a force set, at its boundary in every state. -/
def State.forceSwap (s : State) (d : Nat) : State := (s.modDor d (fun x => { x with fA := x.fS, fS := x.fA })).dorCapSet d

end Sys2Proof.Machine
end

