-- ==== Sys2Proof/Machine/Schedule.lean ====
section
/-! DEFINITION. What stops the slots of a frame (R75–R77, R234) and drops the claim (R573). -/

namespace Sys2Proof.Machine

/-- A drop condition of R573 arises: the first one is kept until reset. -/
def State.dropClaim (s : State) (c : Nat) : State :=
  if s.pair.drop = 0 then { s with pair := { s.pair with drop := c } } else s

/-- T_EMT and T_DRN of the running sheaf (R102). -/
def State.tEmt (s : State) : Nat := s.rf Addr.SCH_TPH0 Fl.SCH_TPH0_TEMT
def State.tDrn (s : State) : Nat := s.rf Addr.SCH_TPH1 Fl.SCH_TPH1_TDRN
def State.tEnd (s : State) : Nat := s.rf Addr.SCH_TPH1 Fl.SCH_TPH1_TEND
def State.tCmp (s : State) : Nat := s.rf Addr.SCH_TPH0 Fl.SCH_TPH0_TCMP

/-- Without a release step trains end and bridges go off, in each frame that goes without (R178, R246). -/
def State.releaseMissing (s : State) : State := s.stepLapse.bridgeOff

/-- The effect of a frame overrun on the schedule, detected at the present cycle (R76): slots aborted, release and commit
suppressed as due, hoppers emptied, no slots from the next boundary on. SCH_STAT shows RUNNING 0 and PHASE 0xF from the abort on
(DESIGN CHOICE, log 170). -/
def State.abortFrame (s : State) : State :=
  let c := s.cyc
  let noRel := decide (c ≤ s.tEmt)
  let s := { s with
    sch := { s.sch with aborted := true, stopped := true, noRelease := s.sch.noRelease || noRel,
                        noCommit := s.sch.noCommit || decide (c ≤ s.tDrn) }
    hops := [] }
  if noRel then s.releaseMissing else s

/-- A lockstep mismatch at the end of slot k (R234). -/
def State.laneMismatch (s : State) (k : Nat) (sl : Slot) : State :=
  let s := s.at (sl.start + sl.cyc)
  let s := s.wr Addr.THR_LSMM (wN (k % 65536 + 65536 * (s.frm % 65536)))
  let s := (s.bump Addr.THR_LSCNT Fl.THR_LSCNT_COUNT).wf Addr.THR_STAT Fl.THR_STAT_LSMM 1
  ((s.raise 0x51 0 3).abortFrame).dropClaim 1

end Sys2Proof.Machine
end

