-- ==== Sys2Proof/Machine/Can.lean ====
section
/-! DEFINITION. The CAN FD controllers (chapter 12, R452–R490): message objects, receiving, transmitting, group functions,
error confinement, sleep. Controller 0 is CANA, 1 is CANB. -/

namespace Sys2Proof.Machine

def State.canS (s : State) (x : Nat) : CanS := s.can.getD x CanS.init
def State.modCan (s : State) (x : Nat) (f : CanS → CanS) : State := { s with can := setAt 2 CanS.init s.can x f }

def State.canStat (s : State) (x : Nat) (f : Fld) : Bool := s.flag (Addr.CAN_STAT x) f
def State.setStat (s : State) (x : Nat) (f : Fld) (b : Bool) : State := s.wf (Addr.CAN_STAT x) f (b2n b)
def State.canCfg (s : State) (x : Nat) (f : Fld) : Nat := s.rf (Addr.CAN_CFG x) f

/-- The timestamp counter (R478). -/
def State.tstamp (s : State) : Nat := s.now / 200 % 2 ^ 32

/-! ### Frames and objects (R459–R462, R473, R488) -/

/-- Payload bytes of a DLC (R460). -/
def dlcLen (d : Nat) : Nat :=
  if d ≤ 8 then d else [12, 16, 20, 24, 32, 48, 64].getD (d - 9) 64

/-- Payload word k: bytes 4k to 4k + 3, bytes beyond the length 0 (R464). -/
def frmWord (f : CanFrm) (k : Nat) : Word := wN (ofLE ((List.range 4).map (fun j => if 4 * k + j < dlcLen f.dlc then f.data.getD (4 * k + j) 0 else 0)))

/-- A window word of a frame (R488). -/
def frmWin (f : CanFrm) (ovr : Bool) (k : Nat) : Word :=
  match k with
  | 0 => wN (f.id % 2 ^ 29 + 2 ^ 29 * b2n f.ide + 2 ^ 30 * b2n f.fdf + 2 ^ 31 * b2n f.brs)
  | 1 => wN (f.dlc % 16 + 16 * b2n f.esi + 32 * b2n ovr)
  | 2 => wN f.ts
  | _ => frmWord f (k - 3)

/-- The last window word of a frame: 2 + ⌈length/4⌉ (R467). -/
def frmLast (f : CanFrm) : Nat := 2 + (dlcLen f.dlc + 3) / 4

/-- The record type of a controller's MSGMAP (R459). -/
def canTyp (x k : Nat) : Nat := 0x0500 + 0x100 * x + k

def oObj (r : SRec) : Nat := r.b 1 6 0
def oTx (r : SRec) : Bool := r.b 1 7 7 == 1
def oOwner (r : SRec) : Nat := r.b 1 9 8
def oIde (r : SRec) : Bool := r.b 1 10 10 == 1
def oFdf (r : SRec) : Bool := r.b 1 11 11 == 1
def oBrs (r : SRec) : Bool := r.b 1 12 12 == 1
def oEcho (r : SRec) : Bool := r.b 1 13 13 == 1
def oDyn (r : SRec) : Bool := r.b 1 14 14 == 1
def oDlc (r : SRec) : Nat := r.b 1 19 16
def oId (r : SRec) : Nat := r.b 2 28 0
def oMask (r : SRec) : Nat := r.b 3 28 0

/-- Is the controller CANB of an RLY-4620, which serves fault reports and the SDO server only (R23)? -/
def State.servOnly (s : State) (x : Nat) : Bool := x == 1 && (s.id.variant == .rly4620 || s.id.variant == .rly4620E)

/-- The objects of a controller. -/
def State.objs (s : State) (x : Nat) : List SRec :=
  if s.servOnly x then [] else s.recsOf (canTyp x 1)
def State.obj? (s : State) (x k : Nat) : Option SRec := (s.objs x).find? (fun r => oObj r == k)

/-- The frame an object holds before anything was written to it. -/
def objFrm (r : SRec) : CanFrm := ⟨oId r, oIde r, oFdf r, oBrs r, false, oDlc r, [], 0, false⟩

/-- Identifier match of R462. -/
def idMatch (ide : Bool) (id mask : Nat) (f : CanFrm) : Bool := (f.ide == ide) && ((f.id ^^^ id) &&& mask) % 2 ^ 29 == 0

/-- The receive object that takes a frame (R462). -/
def State.rxObj? (s : State) (x : Nat) (f : CanFrm) : Option SRec :=
  leastRec ((s.objs x).filter (fun r => !oTx r && idMatch (oIde r) (oId r) (oMask r) f))
where
  leastRec : List SRec → Option SRec
    | [] => none
    | r :: t => match leastRec t with | some q => if oObj q < oObj r then some q else some r | none => some r

def CanS.rxO (c : CanS) (k : Nat) : CRx := (aget c.rx k).getD CRx.init
def CanS.txO (c : CanS) (k : Nat) : CTx := (aget c.tx k).getD CTx.init

def State.modRx (s : State) (x k : Nat) (f : CRx → CRx) : State := s.modCan x (fun c => { c with rx := aput c.rx k (f (c.rxO k)) })
def State.modTx (s : State) (x k : Nat) (f : CTx → CTx) : State := s.modCan x (fun c => { c with tx := aput c.tx k (f (c.txO k)) })

/-- What a group frame names (R473): priority class, KIND, SEQ, ROUND, REBID. -/
structure Grp where
  pcl   : Nat
  kind  : Nat
  seq   : Nat
  round : Nat
  rebid : Bool
deriving DecidableEq, Repr

def gfrmOf (f : CanFrm) : Option Grp :=
  let p := f.id / 2 ^ 26 % 8
  let b (k : Nat) : Nat := f.data.getD k 0
  if !f.ide then none
  else if 1 ≤ p ∧ p ≤ 5 then some ⟨p, 0, b 0 % 256 + 256 * (b 1 % 256), b 2 % 4, bitOf (b 2) 2⟩
  else if p = 0 then some ⟨0, f.id / 2 ^ 22 % 16, f.id / 2 ^ 6 % 2 ^ 16, b 6 / 8 % 4, false⟩
  else none

/-- Are the group functions on (R473)? -/
def State.grpOn (s : State) (x : Nat) : Bool := x == 1 && s.canCfg x Fl.CAN_CFG_GRP == 1

/-! ### Receive queue and buffers (R463–R467) -/

/-- A record joins the receive queue (R463, R465). -/
def State.qPut (s : State) (x : Nat) (f : CanFrm) (own : Bool) : State :=
  let c := s.canS x
  if c.q.length < 64 then s.modCan x (fun c => { c with q := c.q ++ [(f, own, s.frm)], lossQ := false })
  else
    let s := ((s.bump (Addr.CAN_QOVF x) Fl.CAN_QOVF_RX).setStat x Fl.CAN_STAT_RXQOVF true).irq (6 + x) 7
    (s.raiseIf (!c.lossQ) 0xC3 x 0).modCan x (fun c => { c with lossQ := true })

/-- Set NEW of a control-path receive object. -/
def State.newSet (s : State) (x k : Nat) (f : CanFrm) (ovr : Bool) : State :=
  let s := (s.modRx x k (fun o => { o with frm := some f, new := true, ovr := ovr })).irq (6 + x) 0
  if ovr then s.setStat x Fl.CAN_STAT_OVR true else s

/-- The object whose main buffer is locked. -/
def State.lockedObj (s : State) (x : Nat) : Option Nat := if (s.canS x).lock.isSome then some (s.rf (Addr.CAN_RXSEL x) Fl.CAN_RXSEL_OBJ) else none

/-- The lock ends: a frame in the shadow moves to the main buffer (R467). -/
def State.unlock (s : State) (x : Nat) : State :=
  match s.lockedObj x with
  | none => s
  | some k =>
    let s := s.modCan x (fun c => { c with lock := none })
    let o := (s.canS x).rxO k
    match o.sh with
    | none => s
    | some f => (s.modRx x k (fun o => { o with sh := none, frm := some f, new := true })).irq (6 + x) 0

/-- A completed frame is delivered to its receive object (R463). -/
def State.canDeliver (s : State) (x : Nat) (f : CanFrm) : State :=
  match s.rxObj? x f with
  | none => s
  | some r =>
    let k := oObj r
    match oOwner r with
    | 0 => s.modRx x k (fun o => { o with frm := some f, new := true, ovr := o.ovr || o.new })
    | 1 => s.qPut x f false
    | _ =>
      if s.lockedObj x = some k then
        let beyond := ((s.canS x).rxO k).sh.isSome
        let s := s.modRx x k (fun o => { o with sh := some f, ovr := o.ovr || beyond })
        if beyond then s.setStat x Fl.CAN_STAT_OVR true else s
      else s.newSet x k f ((s.canS x).rxO k).new

/-- The high-priority match (R466). -/
def State.hpMatch (s : State) (x : Nat) (f : CanFrm) : State :=
  let i := s.rd (Addr.CAN_HPID x)
  let a := Addr.CAN_HPSTAT x
  if !s.servOnly x && s.flag a Fl.CAN_HPSTAT_EN && idMatch (bitOf i.toNat 29) (i.toNat % 2 ^ 29) (s.rd (Addr.CAN_HPMASK x)).toNat f then
    let full := s.flag a Fl.CAN_HPSTAT_FULL
    let s := ((s.modCan x (fun c => { c with hp := some f })).wf a Fl.CAN_HPSTAT_FULL 1).irq (6 + x) 2
    if full then (s.setStat x Fl.CAN_STAT_HPOVR true).raise 0xC7 x 0 else s
  else s

/-- A read of CANx_HPD1 clears FULL (R466). -/
def State.hpRead (s : State) (x : Nat) : State := s.wf (Addr.CAN_HPSTAT x) Fl.CAN_HPSTAT_FULL 0

/-- A read of word w of the receive window (R467): none when the selected object is no control-path receive object. -/
def State.rxWin (s : State) (x w : Nat) : Option (Word × State) :=
  let k := s.rf (Addr.CAN_RXSEL x) Fl.CAN_RXSEL_OBJ
  match s.obj? x k with
  | none => none
  | some r =>
    if oTx r || oOwner r != 2 then none
    else
      let o := (s.canS x).rxO k
      let f := o.frm.getD { (objFrm r) with dlc := 0 }
      let v := frmWin f o.ovr w
      if w = 0 then
        let t := s.now
        some (v, (s.modCan x (fun c => { c with lock := some (c.lock.getD t) })).modRx x k (fun o => { o with new := false }))
      else if w = frmLast f then some (v, s.unlock x)
      else some (v, s)

/-- A lock held for 1.0 ms is released (R467). -/
def State.lockTimeout (s : State) (x cyc : Nat) : State :=
  let s := s.at cyc
  match (s.canS x).lock with
  | some t => if t + 200000 ≤ s.now then ((s.unlock x).setStat x Fl.CAN_STAT_LOCKTO true).raise 0xC8 x 0 else s
  | none => s

/-! ### Data-path receive slot (R464) -/

/-- The four words of a record. -/
def recWords (f : CanFrm) (b29 b30 : Bool) : List Word :=
  [wN (f.id % 2 ^ 29 + 2 ^ 29 * b2n b29 + 2 ^ 30 * b2n b30), wN f.ts, frmWord f 0, frmWord f 1]

def emptyRec : List Word := [0xFFFFFFFF, 0, 0, 0]

/-- Records of the queue that completed before cycle 0 are popped, oldest first. -/
def State.qPop (s : State) (x : Nat) : Nat → List Word × State
  | 0 => ([], s)
  | n + 1 =>
    match (s.canS x).q with
    | (f, own, fr) :: t =>
      if fr < s.frm then
        let r := (s.modCan x (fun c => { c with q := t })).qPop x n
        (recWords f own false ++ r.1, r.2)
      else ((List.replicate (n + 1) emptyRec).flatten, s)
    | [] => ((List.replicate (n + 1) emptyRec).flatten, s)

/-- The latched frame of a single object is taken. -/
def State.oTake (s : State) (x k : Nat) : List Word × State :=
  let o := (s.canS x).rxO k
  let d := match s.obj? x k with | some r => { (objFrm r) with dlc := 0 } | none => ⟨0, false, false, false, false, 0, [], 0, false⟩
  (recWords (o.lat.getD d) o.lnew o.lovr, s.modRx x k (fun o => { o with lnew := false, lovr := false }))

def State.oTakes (s : State) (x : Nat) : Nat → Nat → List Word × State
  | _, 0 => ([], s)
  | k, n + 1 =>
    let r := s.oTake x k
    let t := r.2.oTakes x (k + 1) n
    (r.1 ++ t.1, t.2)

/-- RX_TAKE. -/
def State.rxTake (s : State) (x : Nat) (sl : Slot) : State :=
  let r := if bitOf sl.arg 15 then s.qPop x sl.n else s.oTakes x (sl.arg % 128) sl.n
  r.2.push sl.hout r.1

/-! ### Transmitting (R468–R472) -/

/-- Is a release instant due? -/
def State.instDue (s : State) (i : Nat) : Bool := decide ((s.tstamp + 2 ^ 32 - i % 2 ^ 32) % 2 ^ 32 < 2 ^ 31)

/-- The result of a transmit object, told to BID for pool objects of CANB (R472, R476) and to software for others. -/
def State.txDone (s : State) (x k res : Nat) : State :=
  let o := (s.canS x).txO k
  let s := s.modTx x k (fun o => { o with st := 0, cancel := false, res := res })
  let pool := match s.obj? x k with | some r => oOwner r == 1 | none => false
  let s := if x == 1 && pool then
      match o.frm with | some f => s.modCan x (fun c => { c with bres := c.bres ++ [(f, res, o.notick)] }) | none => s
    else s
  s.irq (6 + x) 1

/-- A cancel of an object (R468, R472). -/
def State.txCancel (s : State) (x k : Nat) : State :=
  match ((s.canS x).txO k).st with
  | 0 => s
  | 3 => s.modTx x k (fun o => { o with cancel := true })
  | _ => s.txDone x k 2

/-- New content goes to an object that is IDLE: HELD or PENDING (R468). -/
def State.txPut (s : State) (x k : Nat) (f : CanFrm) (th tm : Bool) (inst : Nat) : State :=
  let held := th || (tm && !s.instDue inst)
  s.modTx x k (fun o => { o with st := if held then 1 else 2, frm := some f, cancel := false, notick := false, th := th, inst := inst, cnt := (o.cnt + 1) % 16 })

/-- The frame of a transmit record for an object (R470). -/
def txFrm (r : SRec) (ws : List Word) : CanFrm :=
  let w (k : Nat) : Nat := (ws.getD k 0).toNat
  { (objFrm r) with
    id := if oDyn r then (if oIde r then w 0 % 2 ^ 29 else w 0 % 2 ^ 11) else oId r
    data := (leBytes 4 (w 2) ++ leBytes 4 (w 3)).take (dlcLen (oDlc r)) }

/-- A record is dropped (R470). -/
def State.txDrop (s : State) (x : Nat) (pool : Bool) : State :=
  let s := s.bump (Addr.CAN_QOVF x) Fl.CAN_QOVF_TX
  if pool then ((s.setStat x Fl.CAN_STAT_TXQOVF true).irq (6 + x) 7).raise 0xC4 x 0 else s

/-- A record is handed off (R470). -/
def State.txHand (s : State) (x : Nat) (dst : Option Nat) (ws : List Word) : State :=
  let w0 := (ws.getD 0 0).toNat
  if w0 = 0xFFFFFFFF then s
  else
    let th := bitOf w0 29
    let tm := bitOf w0 30
    let inst := (ws.getD 1 0).toNat
    match dst with
    | some k =>
      match s.obj? x k with
      | none => s
      | some r =>
        match ((s.canS x).txO k).st with
        | 0 => s.txPut x k (txFrm r ws) th tm inst
        | 3 => s.txDrop x false
        | _ => s.modTx x k (fun o => { o with frm := some (txFrm r ws), inst := inst, cnt := (o.cnt + 1) % 16 })
    | none =>
      let pool := (s.objs x).filter (fun r => oTx r && oOwner r == 1)
      match (List.range 128).find? (fun k => pool.any (fun r => oObj r == k) && ((s.canS x).txO k).st == 0) with
      | some k => match s.obj? x k with | some r => s.txPut x k (txFrm r ws) th tm inst | none => s
      | none => s.txDrop x true

/-- TX_STAGE (R470): the records wait for the commit. -/
def State.txStage (s : State) (x : Nat) (sl : Slot) : State :=
  let (ws, s) := s.pop sl.hin (4 * sl.n)
  let dst (i : Nat) : Option Nat := if bitOf sl.arg 15 then none else some (sl.arg % 128 + i)
  let rs := (List.range sl.n).map (fun i => (dst i, (ws.drop (4 * i)).take 4))
  s.modCan x (fun c => { c with stage := c.stage ++ rs })

/-- A hand-off request of software (R471): none when it is refused. -/
def State.txReq (s : State) (x : Nat) : Option State :=
  let k := s.rf (Addr.CAN_TXSEL x) Fl.CAN_TXSEL_OBJ
  match s.obj? x k with
  | none => none
  | some r =>
    let o := (s.canS x).txO k
    if !oTx r || oOwner r != 2 || o.st != 0 then none
    else
      let f := o.frm.getD (objFrm r)
      if !oFdf r && decide (f.dlc > 8) then none
      else some (s.modTx x k (fun o => { o with st := 2, frm := some f, cancel := false, notick := false, th := false }))

/-- A read of word w of the transmit window. -/
def State.txWin (s : State) (x w : Nat) : Word :=
  let k := s.rf (Addr.CAN_TXSEL x) Fl.CAN_TXSEL_OBJ
  match s.obj? x k with
  | some r => if oTx r && oOwner r == 2 then frmWin (((s.canS x).txO k).frm.getD (objFrm r)) false w else 0
  | none => 0

/-- A write of word w of the transmit window (R471, R488): none when it is refused. -/
def State.txWinWrite (s : State) (x w : Nat) (v : Word) : Option State :=
  let k := s.rf (Addr.CAN_TXSEL x) Fl.CAN_TXSEL_OBJ
  match s.obj? x k with
  | none => none
  | some r =>
    let o := (s.canS x).txO k
    if !oTx r || oOwner r != 2 || o.st != 0 then none
    else
      let f := o.frm.getD (objFrm r)
      let n := v.toNat
      let keep (g : CanFrm) : Option State := some (s.modTx x k (fun o => { o with frm := some g }))
      match w with
      | 0 => keep (if oDyn r then { f with id := if oIde r then n % 2 ^ 29 else n % 2 ^ 11 } else f)
      | 1 => if !oFdf r && decide (n % 16 > 8) then none else keep { f with dlc := n % 16 }
      | 2 => keep f
      | _ =>
        let d := f.data ++ List.replicate (64 - f.data.length) 0
        keep { f with data := d.take (4 * (w - 3)) ++ leBytes 4 n ++ d.drop (4 * (w - 3) + 4) }

/-- The order in which pending frames are offered (R469): identifier, base before extended, object number. -/
def offerKey (f : CanFrm) (k : Nat) : Nat :=
  ((if f.ide then f.id % 2 ^ 29 else f.id % 2 ^ 11 * 2 ^ 18) * 2 + b2n f.ide) * 512 + k

/-- The frames that take part in the next arbitration: objects, the report buffer and the first service frame. A
controller in classical format offers no FD frame (R453). -/
def State.offers (s : State) (x : Nat) : List (Nat × CanFrm) :=
  let c := s.canS x
  let fd := s.canCfg x Fl.CAN_CFG_FDEN == 1
  let os := c.tx.filterMap (fun p => if p.2.st = 2 then p.2.frm.map (fun f => (p.1, f)) else none)
  let sv := match c.svc with | f :: _ => [(256, f)] | [] => []
  (os ++ sv).filter (fun p => fd || !p.2.fdf)

def leastOffer : List (Nat × CanFrm) → Option (Nat × CanFrm)
  | [] => none
  | p :: t => match leastOffer t with | some q => if offerKey q.2 q.1 < offerKey p.2 p.1 then some q else some p | none => some p

/-- Is an object a claim object (R512)? -/
def State.isClaim (s : State) (x k : Nat) : Bool := x == 0 && (s.recsOf 0x0502).any (fun r => r.b 1 6 0 == k)

/-- A frame as it is sent: the claim field of R514, the SOF timestamp. -/
def State.sentFrm (s : State) (x k : Nat) (f : CanFrm) : CanFrm :=
  let f := { f with ts := s.tstamp }
  if s.isClaim x k then
    let cnt := ((s.canS x).txO k).cnt
    let d := f.data ++ List.replicate (8 - f.data.length) 0
    { f with
      id := if s.id.sideB then f.id ||| 1 else f.id
      data := d.take 7 ++ [s.rf Addr.PAIR_CLAIM Fl.PAIR_CLAIM_CLAIM + 16 * cnt] }
  else f

/-- May the controller start a transmission? -/
def State.canMaySend (s : State) (x : Nat) : Bool :=
  s.canStat x Fl.CAN_STAT_ACTIVE && !(s.canS x).slpRq && (s.canS x).cur.isNone && s.canCfg x Fl.CAN_CFG_MON == 0

/-- TRANSMIT_START (R469): own SOF. -/
def State.txStart (s : State) (x cyc : Nat) : State :=
  let s := s.at cyc
  if s.canMaySend x then
    match leastOffer (s.offers x) with
    | none => s
    | some (k, f) =>
      let f := s.sentFrm x k f
      let t := s.now
      let s := s.modCan x (fun c => { c with cur := some ⟨k, f, t⟩ })
      if k < 256 then s.modTx x k (fun o => { o with st := 3 }) else s
  else s

/-- A nominal bit in fabric cycles, times 2 (R454: 80 MHz against 200 MHz). -/
def State.bit2 (s : State) (x : Nat) : Nat :=
  let v := (s.canS x).effN
  5 * (getF v Fl.CAN_NBT_NBRP * (1 + getF v Fl.CAN_NBT_NTSEG1 + getF v Fl.CAN_NBT_NTSEG2))

/-- The bits of a frame from SOF to the RRS or RTR bit, before stuffing (R452, R468). -/
def arbBits (f : CanFrm) : List Bool :=
  let bits (lo n : Nat) : List Bool := (List.range n).map (fun k => bitOf f.id (lo + n - 1 - k))
  if f.ide then [false] ++ bits 18 11 ++ [true, true] ++ bits 0 18 ++ [false] else [false] ++ bits 0 11 ++ [false]

/-- Bits on the wire of a run of bits: after five equal ones, a stuff bit among them included, comes one of the other value
(ISO 11898-1, R452); `last` and `run` are the value and length of the run so far. -/
def wireLen : List Bool → Bool → Nat → Nat
  | [], _, _ => 0
  | b :: t, last, run =>
    let r := if b = last then run + 1 else 1
    if r = 5 ∧ t ≠ [] then 2 + wireLen t (!b) 1 else 1 + wireLen t b r

/-- Has the frame being sent won arbitration (R468: at the end of its RRS or RTR bit, stuff bits before it counted)? -/
def State.inBus (s : State) (x : Nat) : Bool :=
  match (s.canS x).cur with
  | none => false
  | some u => decide (wireLen (arbBits u.frm) true 0 * s.bit2 x ≤ 2 * (s.now - u.sof))

/-- Take the EN and timing fields into effect (R458). -/
def State.canApply (s : State) (x : Nat) : State :=
  let en := s.canCfg x Fl.CAN_CFG_EN == 1 && !s.canStat x Fl.CAN_STAT_CFGERR
  let n := s.rd (Addr.CAN_NBT x)
  let d := s.rd (Addr.CAN_DBT x)
  let c := s.canS x
  if c.effEn = en ∧ c.effN = n ∧ c.effD = d then s
  else
    let s := s.modCan x (fun c => { c with effEn := en, effN := n, effD := d, tec := 0, rxe := 0, recov := false, slpRq := false })
    let s := s.wr (Addr.CAN_ERR x) 0
    let s := (s.setStat x Fl.CAN_STAT_INTEG en).setStat x Fl.CAN_STAT_ACTIVE false
    let s := (s.setStat x Fl.CAN_STAT_BOFF false).setStat x Fl.CAN_STAT_EPASS false
    (s.setStat x Fl.CAN_STAT_EWARN false).setStat x Fl.CAN_STAT_SLEEPING false

/-- ERR and the state bits follow TEC and REC (R480). -/
def State.errShow (s : State) (x : Nat) : State :=
  let c := s.canS x
  let st := if c.tec > 255 then 2 else if c.tec ≥ 128 ∨ c.rxe ≥ 128 then 1 else 0
  let was := s.rf (Addr.CAN_ERR x) Fl.CAN_ERR_CSTATE
  let s := s.wr (Addr.CAN_ERR x) (wN (st * 65536 + min 255 c.rxe * 256 + min 255 c.tec))
  let s := ((s.setStat x Fl.CAN_STAT_EPASS (st == 1)).setStat x Fl.CAN_STAT_BOFF (st == 2)).setStat x Fl.CAN_STAT_EWARN (decide (c.tec ≥ 96) || decide (c.rxe ≥ 96))
  let s := if st = was then s else s.irq (6 + x) 3
  let s := s.raiseIf (st == 1 && was == 0) 0xC1 x 0
  if st = 2 ∧ was ≠ 2 then
    let auto := s.canCfg x Fl.CAN_CFG_BOAUTO == 1
    ((((s.setStat x Fl.CAN_STAT_ACTIVE false).irq (6 + x) 4).raise 0xC2 x (if x = 0 then 2 else 1))).modCan x (fun c => { c with recov := auto })
  else s

/-- A frame ended that others acknowledged or sent (R482). -/
def State.heardOther (s : State) (x : Nat) : State := (s.modCan x (fun c => { c with aln := 0 })).setStat x Fl.CAN_STAT_ALONE false

/-- REC after a frame received without error. -/
def recGood (r : Nat) : Nat := if r > 127 then 127 else r - 1

/-- Objects in HELD or PENDING that satisfy a test on their frame. -/
def State.txWaiting (s : State) (x : Nat) (test : Nat → CanFrm → Bool) : List Nat :=
  ((s.canS x).tx.filter (fun p => (p.2.st == 1 || p.2.st == 2) && (match p.2.frm with | some f => test p.1 f | none => false))).map (·.1)

/-- Is an object a pool object? -/
def State.isPool (s : State) (x k : Nat) : Bool := match s.obj? x k with | some r => oTx r && oOwner r == 1 | none => false

/-- The group functions at the end of a frame sent or received without error (R474–R476, R608). -/
def State.grpEnd (s : State) (x : Nat) (f : CanFrm) (own : Bool) : State :=
  if !s.grpOn x then s
  else
    match gfrmOf f with
    | none =>
      if f.ide ∧ f.id / 2 ^ 26 % 8 = 6 then
        let same := s.txWaiting x (fun k g => k == 128 && g.id / 2 ^ 10 % 2 ^ 16 == f.id / 2 ^ 10 % 2 ^ 16)
        same.foldl (fun s k => s.txDone x k 5) s
      else s
    | some g =>
      let same (h : Grp) : Bool := h.seq == g.seq && h.round == g.round
      let s :=
        if g.pcl = 0 ∧ g.kind = 2 then
          (s.txWaiting x (fun k fr => s.isPool x k && ((s.canS x).txO k).th && ((s.canS x).txO k).st == 1 &&
            (match gfrmOf fr with | some h => h.pcl != 0 && same h | none => false))).foldl (fun s k => s.modTx x k (fun o => { o with st := 2 })) s
        else s
      let gone (k : Nat) (fr : CanFrm) : Bool :=
        s.isPool x k &&
          (match gfrmOf fr with
           | some h =>
             if g.pcl ≠ 0 then !g.rebid && h.pcl != 0 && !h.rebid && same h
             else !own && (g.kind == 1 || g.kind == 2) && h.pcl == 0 && h.kind == g.kind && same h
           | none => false)
      (s.txWaiting x gone).foldl (fun s k => s.txDone x k 5) s

/-- After the end of a frame on the bus: a waiting configuration takes effect (R458). -/
def State.canFrameEnd (s : State) (x : Nat) : State := s.canApply x

/-- Leave sleep (R484): integration starts where EN is in effect (R458). -/
def State.canWake (s : State) (x : Nat) : State :=
  if s.canStat x Fl.CAN_STAT_SLEEPING then
    ((s.modCan x (fun c => { c with slpRq := false })).setStat x Fl.CAN_STAT_SLEEPING false).setStat x Fl.CAN_STAT_INTEG (s.canS x).effEn
  else s.modCan x (fun c => { c with slpRq := false })

/-- A wake event (R483, R484). -/
def State.canWoken (s : State) (x : Nat) : State :=
  if s.canStat x Fl.CAN_STAT_SLEEPING then ((s.canWake x).setStat x Fl.CAN_STAT_WAKEUP true).irq (6 + x) 5 else s

/-- WAKE_EVENT: a dominant level of at least 1.0 µs wakes a sleeping controller with WAKEM = 0 (R483). -/
def State.wakeLevel (s : State) (x : Nat) : State := if s.canCfg x Fl.CAN_CFG_WAKEM = 0 then s.canWoken x else s

/-- The pad CANx_STB (R483, R484): high, transceiver standby, in sleep with WAKEM = 0. -/
def State.canStb (s : State) (x : Nat) : Bool := s.canStat x Fl.CAN_STAT_SLEEPING && s.canCfg x Fl.CAN_CFG_WAKEM == 0

/-- Does a frame wake a sleeping controller (R483)? -/
def State.wakeMatch (s : State) (x : Nat) (f : CanFrm) : Bool :=
  let i := (s.rd (Addr.CAN_WAKEID x)).toNat
  s.canCfg x Fl.CAN_CFG_WAKEM == 1 && idMatch (bitOf i 29) (i % 2 ^ 29) (s.rd (Addr.CAN_WAKEMASK x)).toNat f

/-- ARBITRATION_LOST (R468). -/
def State.arbLost (s : State) (x cyc : Nat) : State :=
  let s := s.at cyc
  match (s.canS x).cur with
  | none => s
  | some u =>
    if s.inBus x then s
    else
      let s := s.modCan x (fun c => { c with cur := none })
      if u.obj < 256 then
        if ((s.canS x).txO u.obj).cancel then s.txDone x u.obj 2 else s.modTx x u.obj (fun o => { o with st := 2 })
      else s

/-- The loop delay measured in an FD frame with bit-rate switch (R456). -/
def State.tdcSeen (s : State) (x : Nat) (f : CanFrm) (d : Nat) : State :=
  if f.fdf && f.brs && s.flag (Addr.CAN_TDC x) Fl.CAN_TDC_TDCEN then
    let s := s.wf (Addr.CAN_TDC x) Fl.CAN_TDC_TDCV (min 127 d)
    if d > 127 then s.setStat x Fl.CAN_STAT_TDCSAT true else s
  else s

/-- TRANSMIT_COMPLETE (R456, R468, R480, R482): `tdc` is the loop delay measured in an FD frame with bit-rate switch. Answers the
frame sent, but no report of the gleaner's own. -/
def State.txComplete (s : State) (x cyc tdc : Nat) : State × Option CanFrm :=
  let s := s.at cyc
  match (s.canS x).cur with
  | none => (s, none)
  | some u =>
    let k := u.obj
    let s := s.modCan x (fun c => { c with cur := none, tec := c.tec - 1 })
    let s := ((s.errShow x).heardOther x).tdcSeen x u.frm tdc
    let echo := match s.obj? x k with | some r => oEcho r | none => false
    let s := if k < 256 then
        let o := (s.canS x).txO k
        if o.st = 3 then
          if o.cancel then s.txDone x k 3
          else (s.modTx x k (fun o => { o with frm := o.frm.map (fun f => { f with ts := u.frm.ts }) })).txDone x k 1
        else s
      else s.modCan x (fun c => { c with svc := c.svc.drop 1 })
    let s := if echo then s.qPut x u.frm true else s
    ((s.grpEnd x u.frm true).canFrameEnd x, if k = 128 then none else some u.frm)

/-- Does BID take part (R315)? -/
def State.bidPart (s : State) : Bool :=
  s.hasUnit 0 && s.flag Addr.BID_CFG Fl.BID_CFG_EN &&
    (match s.sch.active with | some sh => sh.slots.any (fun x => x.unit == 0x0C) | none => false)

/-- May BID stage group frames? In WAIT and STANDBY it stages none (R580). -/
def State.bidSends (s : State) : Bool := s.bidPart && !s.standby

/-- ALONE (R482). -/
def State.canAlone (s : State) (x : Nat) : State :=
  if s.canStat x Fl.CAN_STAT_ALONE || decide ((s.canS x).aln < s.canCfg x Fl.CAN_CFG_ALN) then s
  else
    let s := (s.setStat x Fl.CAN_STAT_ALONE true).irq (6 + x) 6
    if x = 1 ∧ s.bidPart = true then s.raise 0x85 0 1 else s.raise 0xC5 x 0

/-- BUS_ERROR (R456, R468, R480, R482): a receiver counts 1 for the error and 8 for a dominant bit after its flag. An own transmission that ends in another error breaks the row of unacknowledged ones. -/
def State.busError (s : State) (x cyc : Nat) (e : BusErr) : State :=
  let s := s.at cyc
  if !s.canStat x Fl.CAN_STAT_ACTIVE then s
  else
    let c := s.canS x
    let pass := s.rf (Addr.CAN_ERR x) Fl.CAN_ERR_CSTATE == 1
    let s := s.wf (Addr.CAN_LEC x) (if e.dataPh then Fl.CAN_LEC_DLEC else Fl.CAN_LEC_LEC) e.code
    let s := match c.cur with
      | none => s.modCan x (fun c => { c with rxe := c.rxe + 1 + 8 * (b2n e.dom + e.more) })
      | some _ =>
        let skip := (e.code == 3 && pass && !e.dom) || e.exc
        s.modCan x (fun c => { c with tec := c.tec + (if skip then 0 else 8) + 8 * e.more, aln := if e.code = 3 then c.aln + 1 else 0 })
    let s := match c.cur with
      | none => s
      | some u =>
        let s := s.modCan x (fun c => { c with cur := none })
        let s := match e.tdc with | some d => s.tdcSeen x u.frm d | none => s
        if u.obj < 256 ∧ ((s.canS x).txO u.obj).st = 3 then
          if ((s.canS x).txO u.obj).cancel then s.txDone x u.obj 4 else s.modTx x u.obj (fun o => { o with st := 2 })
        else s
    ((s.errShow x).canAlone x).canFrameEnd x

/-- A frame received without error: counters, high-priority match, group functions; the timestamp is that of its SOF, `age`
fabric cycles before its completion. In classical format an FD frame is a form error (R453); a remote frame is acknowledged and
ignored (R452). A sleeping controller with WAKEM = 1 listens (R483): what it receives clears ALONE and acts on the group functions
and the high-priority match, but only the wake frame is delivered (DEDUCED, log 167). The frame, when it is to be delivered. -/
def State.canRx (s : State) (x cyc : Nat) (f : CanFrm) (age : Nat) : State × Option CanFrm :=
  let s := s.at cyc
  let f := { f with ts := (s.now - age) / 200 % 2 ^ 32 }
  if f.fdf && s.canCfg x Fl.CAN_CFG_FDEN == 0 then (s.busError x cyc ⟨2, false, false, false, 0, none⟩, none)
  else if s.canStat x Fl.CAN_STAT_SLEEPING then
    if s.canCfg x Fl.CAN_CFG_WAKEM = 0 then (s, none)
    else
      let hit := !f.rtr && s.wakeMatch x f
      let s := s.heardOther x
      let s := if f.rtr then s else (s.hpMatch x f).grpEnd x f false
      if hit then (s.canWoken x, some f) else (s, none)
  else if s.canStat x Fl.CAN_STAT_ACTIVE then
    let s := s.modCan x (fun c => { c with rxe := recGood c.rxe })
    let s := (s.errShow x).heardOther x
    if f.rtr then (s, none) else ((s.hpMatch x f).grpEnd x f false, some f)
  else (s, none)

/-- RELEASE_INSTANT_DUE (R468). -/
def State.releaseDue (s : State) (x k cyc : Nat) : State :=
  let s := s.at cyc
  let o := (s.canS x).txO k
  if o.st = 1 ∧ s.instDue o.inst = true then
    let s := s.modTx x k (fun o => { o with st := 2, notick := o.th })
    if o.th ∧ x = 1 ∧ s.isPool x k = true ∧ s.hasUnit 0 = true then
      let rise := !s.flag Addr.BID_STAT Fl.BID_STAT_NOTICK
      (s.wf Addr.BID_STAT Fl.BID_STAT_NOTICK 1).raiseIf rise 0x83 0 0
    else s
  else s

/-- BORQ (R481). -/
def State.canBorq (s : State) (x : Nat) : State := if s.canStat x Fl.CAN_STAT_BOFF then s.modCan x (fun c => { c with recov := true }) else s

/-- BUS_OFF_RECOVERY_DONE (R481). -/
def State.boDone (s : State) (x : Nat) : State :=
  if s.canStat x Fl.CAN_STAT_BOFF && (s.canS x).recov then
    ((s.modCan x (fun c => { c with tec := 0, rxe := 0, recov := false })).errShow x).setStat x Fl.CAN_STAT_ACTIVE true
  else s

/-- INTEGRATION_DONE (R458): a controller whose EN = 1 is in effect takes part in the bus (R479). -/
def State.integDone (s : State) (x : Nat) : State :=
  if s.canStat x Fl.CAN_STAT_INTEG then
    let s := s.setStat x Fl.CAN_STAT_INTEG false
    if s.canStat x Fl.CAN_STAT_BOFF || !(s.canS x).effEn then s else s.setStat x Fl.CAN_STAT_ACTIVE true
  else s

/-- SLEEP (R483): none when it is refused. -/
def State.canSleep (s : State) (x : Nat) : Option State :=
  if s.mode = .RUN ∨ s.canStat x Fl.CAN_STAT_BOFF = true then none else some (s.modCan x (fun c => { c with slpRq := true }))

/-- SLEEP_ENTRY (R483). -/
def State.sleepEntry (s : State) (x : Nat) : State :=
  if (s.canS x).slpRq && (s.canS x).cur.isNone && !s.canStat x Fl.CAN_STAT_SLEEPING then
    ((s.setStat x Fl.CAN_STAT_SLEEPING true).setStat x Fl.CAN_STAT_ACTIVE false).setStat x Fl.CAN_STAT_INTEG false
  else s

/-! ### Boundary, commit, bank switch -/

/-- Live frames of single data-path objects become visible to RX_TAKE (R31, R464). -/
def CRx.latch (o : CRx) : CRx :=
  if o.new then { o with lat := o.frm, lnew := true, lovr := o.lovr || o.ovr || o.lnew, new := false, ovr := false } else o

/-- The controller at a boundary, after staging: idle says that no frame is on the bus. -/
def State.canBoundary (s : State) (x : Nat) (idle : Bool) : State :=
  let dp (k : Nat) : Bool := match s.obj? x k with | some r => !oTx r && oOwner r == 0 | none => false
  let s := s.modCan x (fun c => { c with rx := c.rx.map (fun p => if dp p.1 then (p.1, p.2.latch) else p), stage := [] })
  let s := if idle && (s.canS x).cur.isNone then s.canApply x else s
  s.sayW (Addr.CAN_TSFE x) (wN s.tstamp)

/-- Payload of the AX0 set-point PDO (R513), byte 7 left to R514; after an immediate stop it carries (FB0_POS, 0, 0) (R364). -/
def State.setPoint (s : State) : List Nat :=
  let still := (s.axS 0).still && (s.axS 0).mot == .idle
  let p := if still then s.cs (Addr.FB_POS 0) else s.cs (Addr.AX_CPOS 0)
  let v := if still then 0 else satS 16 (divZ (s.cs (Addr.AX_CVEL 0)) 1000)
  let v := if v = -32768 then -32767 else v
  let a := if still then 0 else satS 8 (divZ (s.cs (Addr.AX_CACC 0)) 20000)
  let a := if a = -128 then -127 else a
  leBytes 4 (enc 32 p) ++ leBytes 2 (enc 16 v) ++ [enc 8 a, 0]

/-- The hand-off at the commit (R470, R513). -/
def State.canHandOff (s : State) (x : Nat) : State :=
  let s := (s.canS x).stage.foldl (fun s r => s.txHand x r.1 r.2) s
  let s := s.modCan x (fun c => { c with stage := [] })
  if x = 0 then
    (s.recsOf 0x0502).foldl (fun s r =>
      let k := r.b 1 6 0
      if r.b 1 9 8 = 1 then
        match s.obj? 0 k with
        | none => s
        | some o =>
          let f := { (objFrm o) with data := s.setPoint }
          match ((s.canS 0).txO k).st with
          | 0 => s.txPut 0 k f false false 0
          | 3 => s.txDrop 0 false
          | _ => s.modTx 0 k (fun t => { t with frm := some f, cnt := (t.cnt + 1) % 16 })
      else s) s
  else s

/-- The objects at a bank switch (R479), before the new MSGMAP is taken; the report buffer (R608) is none of them. DISCARDED is a
transmit result (R615). -/
def State.canSwitch (s : State) (x : Nat) : State :=
  let bus := s.inBus x
  let old := ((s.objs x).filter oTx).map oObj
  let keepCur := match (s.canS x).cur with | some u => decide (u.obj ≥ 128) || bus | none => true
  let s := s.modCan x (fun c =>
    let onBus (k : Nat) : Bool := bus && (match c.cur with | some u => k == u.obj | none => false)
    let keep := c.tx.filter (fun p => decide (p.1 ≥ 128) || onBus p.1)
    let rest := old.foldl (fun l k => if (aget l k).isNone then aput l k { CTx.init with res := 6 } else l) keep
    { c with rx := [], q := [], lossQ := false, lock := none, stage := [], bres := [], tx := rest, cur := if keepCur then c.cur else none })
  if old.any (fun k => ((s.canS x).txO k).res == 6 && ((s.canS x).txO k).st == 0) then s.irq (6 + x) 1 else s

/-! ### Checks of values and derived registers -/

/-- Is a value inside a range? -/
def within (lo v hi : Nat) : Bool := decide (lo ≤ v) && decide (v ≤ hi)

/-- Quanta of a nominal bit and of a data bit (R454). -/
def nomQuanta (n : Word) : Nat := 1 + getF n Fl.CAN_NBT_NTSEG1 + getF n Fl.CAN_NBT_NTSEG2
def datQuanta (d : Word) : Nat := 1 + getF d Fl.CAN_DBT_DTSEG1 + getF d Fl.CAN_DBT_DTSEG2

/-- The bit times in periods of the 80 MHz clock. -/
def nomBit (n : Word) : Nat := getF n Fl.CAN_NBT_NBRP * nomQuanta n
def datBit (d : Word) : Nat := getF d Fl.CAN_DBT_DBRP * datQuanta d

/-- What R455 asks of CANx_NBT alone. -/
def nomOk (n : Word) : Bool :=
  within 1 (getF n Fl.CAN_NBT_NBRP) 32 && within 2 (getF n Fl.CAN_NBT_NTSEG1) 256 && within 2 (getF n Fl.CAN_NBT_NTSEG2) 128 &&
  within 1 (getF n Fl.CAN_NBT_NSJW) 128 && decide (getF n Fl.CAN_NBT_NSJW ≤ getF n Fl.CAN_NBT_NTSEG2) &&
  within 80 (nomBit n) 640 && within 8 (nomQuanta n) 385

/-- What R455 asks of CANx_DBT alone. -/
def datOk (d : Word) : Bool :=
  within 1 (getF d Fl.CAN_DBT_DBRP) 32 && within 1 (getF d Fl.CAN_DBT_DTSEG1) 32 && within 1 (getF d Fl.CAN_DBT_DTSEG2) 16 &&
  within 1 (getF d Fl.CAN_DBT_DSJW) 16 && decide (getF d Fl.CAN_DBT_DSJW ≤ getF d Fl.CAN_DBT_DTSEG2) &&
  decide (10 ≤ datBit d) && decide (8 ≤ datQuanta d)

/-- A valid timing set (R455): the data bit rate is at least the nominal one. -/
def timingOk (n d : Word) : Bool := nomOk n && datOk d && decide (datBit d ≤ nomBit n)

/-- A register goes back to its reset value under a condition. -/
def State.resetIf (s : State) (b : Bool) (a : Nat) : State := if b then s.wr a (regReset s.id a) else s

/-- After ODDEF defaults (R457): a register with an invalid value goes back to its reset value; both timing registers do where each
is valid alone and the data bit rate lies below the nominal one (DESIGN CHOICE, log 168). -/
def State.canCheckDefaults (s : State) (x : Nat) : State :=
  let bad := !timingOk (s.rd (Addr.CAN_NBT x)) (s.rd (Addr.CAN_DBT x)) || s.canCfg x Fl.CAN_CFG_ALN == 0
  let was := s.canStat x Fl.CAN_STAT_CFGERR
  let s := s.setStat x Fl.CAN_STAT_CFGERR bad
  let s := (s.resetIf (!nomOk (s.rd (Addr.CAN_NBT x))) (Addr.CAN_NBT x)).resetIf (!datOk (s.rd (Addr.CAN_DBT x))) (Addr.CAN_DBT x)
  let slow := !timingOk (s.rd (Addr.CAN_NBT x)) (s.rd (Addr.CAN_DBT x))
  let s := (s.resetIf slow (Addr.CAN_NBT x)).resetIf slow (Addr.CAN_DBT x)
  let s := s.resetIf (s.canCfg x Fl.CAN_CFG_ALN == 0) (Addr.CAN_CFG x)
  s.raiseIf (bad && !was) 0xC6 x 1

/-- A map register over objects 32j to 32j + 31. -/
def objMap (j : Nat) (test : Nat → Bool) : Word := wN ((List.range 32).foldl (fun n i => if test (32 * j + i) then n + 2 ^ i else n) 0)

/-- A register of a controller page that is read from the controller's state; none for the others. -/
def State.canView (s : State) (x off : Nat) : Option Word :=
  let c := s.canS x
  if off = 0x024 then some (wN s.tstamp)
  else if off = 0x050 then
    let k := s.rf (Addr.CAN_TXSEL x) Fl.CAN_TXSEL_OBJ
    let o := c.txO k
    let st := if o.st = 3 ∧ s.inBus x = true then 4 else o.st
    some (wN (16 * o.res + 8 * b2n o.notick + st))
  else if off = 0x054 then
    let free := ((s.objs x).filter (fun r => oTx r && oOwner r == 1 && (c.txO (oObj r)).st == 0)).length
    some (wN (256 * free + c.q.length))
  else if 0x060 ≤ off ∧ off < 0x070 then some (objMap ((off - 0x060) / 4) (fun k => (c.txO k).st != 0))
  else if 0x070 ≤ off ∧ off < 0x080 then
    some (objMap ((off - 0x070) / 4) (fun k => (c.rxO k).new && (match s.obj? x k with | some r => oOwner r == 2 | none => false)))
  else if 0x080 ≤ off ∧ off < 0x080 + 76 then (s.rxWin x ((off - 0x080) / 4)).map (·.1)
  else if 0x100 ≤ off ∧ off < 0x100 + 76 then some (s.txWin x ((off - 0x100) / 4))
  else if 0x180 ≤ off ∧ off < 0x180 + 76 then some (match c.hp with | some f => frmWin f false ((off - 0x180) / 4) | none => 0)
  else if 0x400 ≤ off ∧ off < 0x800 then
    let k := (off - 0x400) / 8
    match s.obj? x k with
    | none => some 0
    | some r => some (if off % 8 = 0 then wN (r.w 1) else wN (oId r + 2 ^ 31))
  else none

end Sys2Proof.Machine
end

