-- ==== Sys2Proof/Machine/FieldIO.lean ====
section
/-! DEFINITION. Field inputs and outputs (chapter 10, R390–R422) and the claim comparator (R575, R576): winnow filters, edge
records, taps, outputs, safety output pairs, silent-logic safe state, FIELD_24. -/

namespace Sys2Proof.Machine

def State.modFio (s : State) (f : FioS → FioS) : State := { s with fio := f s.fio }
def State.fstat (s : State) (f : Fld) : Bool := s.flag Addr.FIO_STAT f
def State.setFstat (s : State) (f : Fld) (b : Bool) : State := s.wf Addr.FIO_STAT f (b2n b)

/-! ### Gates and driven levels (R402–R410, R576) -/

/-- A mask with one bit set or cleared. -/
def putBit (n k : Nat) (b : Bool) : Nat := if bitOf n k then (if b then n else n - 2 ^ k) else (if b then n + 2 ^ k else n)

/-- A number from its bits. -/
def ofBits (n : Nat) (f : Nat → Bool) : Nat := (List.range n).foldl (fun v k => if f k then v + 2 ^ k else v) 0

/-- The lowest output of the parallel group of output k (R402). -/
def lowOf (par k : Nat) : Nat :=
  match par / 4 ^ (k / 4) % 4 with
  | 1 => k / 2 * 2
  | 2 => k / 4 * 4
  | _ => k

/-- Every member takes the command of its group's lowest output (R403). -/
def parExpand (par w : Nat) : Nat := ofBits 18 (fun k => if k < 16 then bitOf w (lowOf par k) else bitOf w k)

/-- Is the guard's enable 1 (R357)? Both lanes hold the same value. -/
def State.guardEn (s : State) : Bool :=
  let slots := match s.sch.active with | some sh => sh.slots.any (fun x => x.unit == 0x0A) | none => false
  if s.hasUnit 1 && s.flag Addr.HDL_CFG Fl.HDL_CFG_EN && slots then s.hdl.gst == 2 || s.hdl.gst == 3 else true

/-- The pair role of the running sheaf: 0 NONE, 1 REDUNDANT, 2 SHAFT (R64). -/
def State.pairRole (s : State) : Nat := match s.sch.active with | some sh => sh.role | none => 0

/-- The silent-logic safe state or UVF is in force (R410, R411). -/
def State.fioDown (s : State) : Bool := s.fio.silent || s.fstat Fl.FIO_STAT_UVF

/-- The general outputs stand in safe state (R414, R416): after UVF until the next release. -/
def State.fioSafe (s : State) : Bool := s.fioDown || s.fio.uvH

/-- The level of each general output (R407, R576); in a redundant pair the safe level is 0 (R559). -/
def State.outLv (s : State) : Nat :=
  let f := s.fio
  let copy := if s.pairRole = 1 then 0 else f.copy
  let src := if s.fioSafe || (!f.allow && f.gapO) then copy else if !f.allow then f.held else f.rel
  if f.up then ofBits 16 (fun k => bitOf src k && !bitOf f.olock k) else 0

/-- Which safety channels conduct (R410): A1, A2, B1, B2 in bits 0 to 3. -/
def State.conducts (s : State) : Nat :=
  let f := s.fio
  let ok := s.guardEn && f.allow && !s.fioDown && !s.fstat Fl.FIO_STAT_FLOST && f.up
  ofBits 4 (fun i => ok && bitOf f.arm i && bitOf f.rel (16 + i / 2) && !bitOf f.fgate (i / 2))

/-- Readbacks: outputs in bits 15:0, A1, A2, B1, B2 above (R408). -/
def State.readback (s : State) : Nat := ofBits 20 (fun k => bitOf (s.outLv + 65536 * s.conducts) k != bitOf s.fio.mis k)

/-- FIO_OCMD: driven levels and released demands. -/
def State.ocmd (s : State) : Nat := s.outLv + 65536 * (s.fio.rel / 65536 % 4)

/-- The arm latches of a pair clear (R411). -/
def FioS.disarm (f : FioS) (p : Nat) : FioS := { f with arm := putBit (putBit f.arm (2 * p) false) (2 * p + 1) false }
def FioS.disarmAll (f : FioS) : FioS := { f with arm := 0 }

/-- Own claim against peer claim (R576). -/
def State.compare (s : State) : Bool :=
  let c := s.rf Addr.PAIR_CLAIM Fl.PAIR_CLAIM_CLAIM
  let p := s.fio.peer
  s.fio.up && !s.flag Addr.PAIR_STAT Fl.PAIR_STAT_YIELD && (decide (c > p) || (c == p && c != 0 && !s.id.sideB))

/-- The gates of the field island's switches, and the safe levels it holds. -/
def State.gateKey (s : State) : Nat :=
  b2n s.fioSafe + 2 * b2n s.fio.allow + 4 * b2n s.fio.gapO + 8 * b2n s.guardEn + 16 * b2n (s.fstat Fl.FIO_STAT_FLOST) +
    32 * s.fio.fgate + 256 * s.fio.arm + 4096 * s.fio.copy

/-- A change that the field island makes for safe state or gating stops the comparison of readbacks for ORBT (R408). -/
def State.gateWindow (s : State) : State :=
  let k := s.gateKey
  let d := s.outLv + 65536 * s.conducts
  let t := s.now + 2000 * s.rf Addr.FIO_OCFG Fl.FIO_OCFG_ORBT
  s.modFio (fun f => { f with gk := k, drv := d, cmpT := if f.gk ≠ k ∧ f.drv ≠ d then some t else f.cmpT })

/-- After a change of any gate: the comparator, its hold (R576), latches that a fall of the guard enable clears (R411),
channels that stopped conducting. -/
def State.fioEval (s : State) : State :=
  let ok := s.compare
  let s :=
    if ok = s.fio.allow then s
    else if ok then
      let t := s.now
      s.modFio (fun f => { f with allow := true, gapO := false, alwT := t })
    else
      let d := s.outLv
      let t := s.now
      let beyond := s.fio.silent || s.rf Addr.PAIR_CFG Fl.PAIR_CFG_GAPH == 0
      s.modFio (fun f => { f with allow := false, held := d, gapT := t, gapO := beyond })
  let g := s.guardEn
  let s := if s.fio.gPrev && !g then s.modFio (fun f => f.disarmAll) else s
  let s := if s.fioDown || s.fstat Fl.FIO_STAT_FLOST then s.modFio (fun f => f.disarmAll) else s
  let s := s.gateWindow
  let c := s.conducts
  let fell := (List.range 4).any (fun i => bitOf s.fio.cond i && !bitOf c i)
  let s := s.modFio (fun f => { f with gPrev := g, cond := c })
  let s := if fell then s.irq 9 6 else s
  let st := ofBits 4 (fun _ => s.fio.allow) * 4096 + ofBits 4 (fun _ => g) * 256 + c * 16 + s.fio.arm
  let s := s.wr Addr.FIO_SSTAT (wN st)
  let s := s.wf Addr.PAIR_STAT Fl.PAIR_STAT_ALLOW (b2n s.fio.allow)
  let s := s.wf Addr.PAIR_STAT Fl.PAIR_STAT_LINECL s.fio.peer
  s.setFstat Fl.FIO_STAT_SAFEACT (s.fioSafe || (!s.fio.allow && s.fio.gapO))

/-- GAP_HOLD_END (R576). -/
def State.gapEnd (s : State) (cyc : Nat) : State :=
  let s := s.at cyc
  if !s.fio.allow && !s.fio.gapO && decide (s.now ≥ s.fio.gapT + s.rf Addr.PAIR_CFG Fl.PAIR_CFG_GAPH * s.fio.per) then
    s.modFio (fun f => { f with gapO := true })
  else s

/-- CLAIM_WORD: sixteen bits of a word on CLAIM_IN (R575). -/
def State.claimWord (s : State) (w cyc : Nat) : State :=
  let s := s.at cyc
  let c := w / 256 % 16
  if w / 4096 % 16 = 0b1010 ∧ w % 16 = 0b0101 ∧ c + w / 16 % 16 = 15 then
    let t := s.now
    s.modFio (fun f => { f with peer := c, peerT := t })
  else s

/-- PEER_CLAIM_TIMEOUT: 12 µs without a valid word (R575). -/
def State.claimTimeout (s : State) (cyc : Nat) : State :=
  let s := s.at cyc
  if s.now ≥ s.fio.peerT + 2400 then s.modFio (fun f => { f with peer := 0 }) else s

/-! ### Inputs (R390–R401) -/

/-- The filter of an input's stage: B exists for the taps only (R400). -/
def filtIx (k : Nat) (b : Bool) : Nat := if b && decide (24 ≤ k) then 8 + k else k

def FioS.filt (f : FioS) (i : Nat) : WinF := f.flt.getD i WinF.init

/-- The accepted level of an input: a tap's is the AND of its stages (R400). -/
def FioS.level (f : FioS) (k : Nat) : Bool := (f.filt k).acc && (decide (k < 24) || (f.filt (8 + k)).acc)

/-- The unfiltered levels (R394); inputs read 0 under UVF and FLOST (R416, R418). -/
def State.inRaw (s : State) : Nat :=
  if s.fstat Fl.FIO_STAT_UVF || s.fstat Fl.FIO_STAT_FLOST then 0
  else ofBits 32 (fun k => (s.fio.filt k).raw && (decide (k < 24) || (s.fio.filt (8 + k)).raw))

/-- Are the filters judging (R711, R416, R418)? -/
def State.judging (s : State) : Bool :=
  decide (s.mode ≠ .RESET) && !s.fstat Fl.FIO_STAT_UVF && !s.fstat Fl.FIO_STAT_FLOST

/-- Filter time of an input in fabric cycles (R392). -/
def State.deb (s : State) (k : Nat) : Nat := 20000 * s.rf (Addr.FIO_DEB (k / 4)) ⟨8 * (k % 4), 8⟩

def State.modFilt (s : State) (i : Nat) (f : WinF → WinF) : State := s.modFio (fun x => { x with flt := setAt 40 WinF.init x.flt i f })

/-- A level change as the filter takes it (R392). -/
def State.filtChange (s : State) (i : Nat) : State :=
  let t := s.now
  let fr := s.frm
  let ofs := min 124 (s.cyc / 200)
  s.modFilt i (fun w =>
    if w.run then { w with merged := w.merged || (w.raw != w.acc), since := t }
    else if w.raw != w.acc then { w with run := true, merged := false, fr := fr, ofs := ofs, since := t }
    else w)

/-- INPUT_CHANGE (R392). -/
def State.inputChange (s : State) (k : Nat) (b v : Bool) (cyc : Nat) : State :=
  let s := s.at cyc
  let i := filtIx k b
  if k < 32 ∧ (s.fio.filt i).raw ≠ v then
    let s := s.modFilt i (fun w => { w with raw := v })
    if s.judging then s.filtChange i else s
  else s

/-- The data path reads a group of edge records (R396). -/
def State.dpGroup (s : State) (g : Nat) : Bool :=
  match s.sch.active with | some sh => sh.slots.any (fun x => x.unit == 0x02 && x.op == 0x02 && x.arg % 4 == g) | none => false

/-- One edge record is written, or lost (R395, R397). -/
def State.edgeRec (s : State) (k : Nat) (lvl : Bool) (w : WinF) : State :=
  let g := k / 8
  let q := s.fio.fifo.getD g []
  let lossy := s.fio.lossP.getD g false
  if q.length < 64 then
    let w0 := 2 ^ 31 + 2 ^ 30 * b2n w.merged + 2 ^ 29 * b2n lossy + 2 ^ 28 * b2n lvl + 2 ^ 24 * (k % 8) + 65536 * w.ofs
    let fr := s.frm
    let s := s.modFio (fun f =>
      { f with fifo := setAt 4 [] f.fifo g (fun q => q ++ [(w0, w.fr % 2 ^ 32, fr)]), lossP := setAt 4 false f.lossP g (fun _ => false) })
    if s.dpGroup g then s else s.irq 9 g
  else
    let s := s.bump (if g < 2 then Addr.FIO_EOVF01 else Addr.FIO_EOVF23) (if g % 2 = 0 then ⟨0, 16⟩ else ⟨16, 16⟩)
    let s := (s.setFstat Fl.FIO_STAT_EOVF true).irq 8 6
    (s.raiseIf (!lossy) 0xA1 g 0).modFio (fun f => { f with lossP := setAt 4 false f.lossP g (fun _ => true) })

/-- A tap's stages agree or differ after an acceptance (R401). -/
def State.tapCheck (s : State) (j : Nat) : State :=
  let t := s.now
  let dif := (s.fio.filt (24 + j)).acc != (s.fio.filt (32 + j)).acc
  let s := s.modFio (fun f =>
    { f with
      tapT := setAt 8 none f.tapT j (fun o => if dif then some (o.getD t) else none)
      tapL := if dif then f.tapL else putBit f.tapL j false })
  s.setFstat Fl.FIO_STAT_TAPD (s.fio.tapL != 0)

/-- EDGE_ACCEPTED: the level of a run has been held for the filter time (R392, R395, R400). -/
def State.edgeAccepted (s : State) (k : Nat) (b : Bool) (cyc : Nat) : State :=
  let s := s.at cyc
  let i := filtIx k b
  let w := s.fio.filt i
  if k < 32 ∧ w.run = true ∧ w.raw ≠ w.acc ∧ w.since + s.deb k ≤ s.now then
    let was := s.fio.level k
    let s := s.modFilt i (fun w => { w with acc := w.raw, run := false })
    let s := if k ≥ 24 then s.tapCheck (k - 24) else s
    let t := s.now
    let lv := s.fio.level k
    if lv = was then s else (s.modFio (fun f => { f with stl := setAt 32 0 f.stl k (fun _ => t) })).edgeRec k lv w
  else s

/-- RUN_ABANDONED (R392). -/
def State.runAbandoned (s : State) (k : Nat) (b : Bool) (cyc : Nat) : State :=
  let s := s.at cyc
  let i := filtIx k b
  let w := s.fio.filt i
  if k < 32 ∧ w.run = true ∧ w.raw = w.acc ∧ w.since + s.deb k ≤ s.now then s.modFilt i (fun w => { w with run := false }) else s

/-- Filters fall to 0 without records (R416, R418), or restart from accepted level 0 (R417, R711). -/
def State.filtersOff (s : State) : State :=
  let s := s.modFio (fun f =>
    { f with flt := f.flt.map (fun w => { w with acc := false, run := false }), tapT := List.replicate 8 none, tapL := 0 })
  s.setFstat Fl.FIO_STAT_TAPD false

def State.filtersStart (s : State) : State :=
  let s := s.filtersOff
  if s.judging then (List.range 40).foldl (fun s i => if (s.fio.filt i).raw then s.filtChange i else s) s else s

/-- A new DEB is applied (R393): runs restart under the new time. -/
def State.debApplied (s : State) (r : Nat) (old new : Word) : State :=
  let t := s.now
  (List.range 4).foldl (fun s j =>
    if getF old ⟨8 * j, 8⟩ = getF new ⟨8 * j, 8⟩ then s
    else
      let k := 4 * r + j
      let s := s.modFilt k (fun w => { w with since := if w.run then t else w.since })
      if k ≥ 24 then s.modFilt (8 + k) (fun w => { w with since := if w.run then t else w.since }) else s) s

/-- STALE_INPUT (R399). -/
def State.staleInput (s : State) (k cyc : Nat) : State :=
  let s := s.at cyc
  let en := bitOf (s.rd Addr.FIO_STLEN).toNat k
  let lim := 200000000 * s.rf Addr.FIO_STLT ⟨8 * (k / 8), 8⟩
  if k < 32 ∧ en = true ∧ s.fio.stl.getD k 0 + lim ≤ s.now then
    let rise := !bitOf (s.rd Addr.FIO_STALE).toNat k
    let s := s.wf Addr.FIO_STALE ⟨k, 1⟩ 1
    if rise then (((s.setFstat Fl.FIO_STAT_STALEANY true).raise 0xA2 k 0).irq 8 7) else s
  else s

/-- STALE_FLAG_CLEAR (R399): flags that stand and are named in a mask clear and their timers restart. -/
def State.staleClear (s : State) (m : Nat) : State :=
  let t := s.now
  let m := (s.rd Addr.FIO_STALE &&& wN m).toNat
  let s := s.wr Addr.FIO_STALE (s.rd Addr.FIO_STALE &&& ~~~ wN m)
  let s := s.modFio (fun f => { f with stl := (List.range 32).map (fun k => if bitOf m k then t else f.stl.getD k 0) })
  s.setFstat Fl.FIO_STAT_STALEANY (s.rd Addr.FIO_STALE != 0)

/-- A stale timer restarts at the write that enables it (R399). -/
def State.stlenApplied (s : State) (old new : Word) : State :=
  let t := s.now
  let on := (new &&& ~~~ old).toNat
  s.modFio (fun f => { f with stl := (List.range 32).map (fun k => if bitOf on k then t else f.stl.getD k 0) })

/-- TAP_DISCREPANCY (R401). -/
def State.tapDisc (s : State) (j cyc : Nat) : State :=
  let s := s.at cyc
  let lim := 200000 * s.rf Addr.FIO_TAPCFG ⟨0, 8⟩
  match s.fio.tapT.getD j none with
  | none => s
  | some t0 =>
    if j < 8 ∧ bitOf s.fio.tapL j = false ∧ t0 + lim ≤ s.now then
      let first := s.fio.tapL == 0
      let s := s.modFio (fun f => { f with tapL := putBit f.tapL j true })
      let s := (s.wf Addr.FIO_TAP ⟨24 + j, 1⟩ 1).setFstat Fl.FIO_STAT_TAPD true
      (if first then s.irq 8 5 else s).raise 0xA3 (24 + j) 2
    else s

/-- A read of a control-path group (R396): none for a data-path group; else words 0 and 1 of the oldest record. -/
def State.edgeRead (s : State) (g : Nat) : Option (Word × Word × State) :=
  if s.dpGroup g then none
  else
    match s.fio.fifo.getD g [] with
    | [] => some (0, 0, s.wr (Addr.FIO_EFH g) 0)
    | (w0, fr, _) :: t =>
      some (wN w0, wN fr, (s.modFio (fun f => { f with fifo := setAt 4 [] f.fifo g (fun _ => t) })).wr (Addr.FIO_EFH g) (wN fr))

/-- FIO_EOCC (R421). -/
def State.eocc (s : State) : Word := wN ((List.range 4).foldl (fun n g => n + (s.fio.fifo.getD g []).length * 2 ^ (8 * g)) 0)

/-! ### Slots (R394, R396, R405) -/

/-- IN_LATCH. -/
def State.inLatch (s : State) (sl : Slot) : State := s.push sl.hout [wN s.fio.lat]

/-- Records accepted before cycle 0 are popped; empty records fill. -/
def edgeTake (frm : Nat) : Nat → List (Nat × Nat × Nat) → List Word × List (Nat × Nat × Nat)
  | 0, q => ([], q)
  | n + 1, q =>
    match q with
    | (w0, fr, f) :: t =>
      if f < frm then let r := edgeTake frm n t; (wN w0 :: wN fr :: r.1, r.2) else (List.replicate (2 * (n + 1)) 0, q)
    | [] => (List.replicate (2 * (n + 1)) 0, [])

/-- EDGE_POP. -/
def State.edgePop (s : State) (sl : Slot) : State :=
  let g := sl.arg % 4
  let r := edgeTake s.frm sl.n (s.fio.fifo.getD g [])
  (s.modFio (fun f => { f with fifo := setAt 4 [] f.fifo g (fun _ => r.2) })).push sl.hout r.1

/-- OUT_STAGE. -/
def State.outStage (s : State) (sl : Slot) : State :=
  let (ws, s) := s.pop sl.hin 1
  s.modFio (fun f => { f with shadow := (ws.getD 0 0).toNat % 2 ^ 18 })

/-- The sheaf's ownership mask (R404). -/
def State.fioOwn (s : State) : Nat := s.rf Addr.FIO_OWN Fl.FIO_OWN_OWN

/-- Host command bits that software may set (R406). -/
def State.hostMask (s : State) : Nat :=
  let par := (s.rd Addr.FIO_PAR).toNat
  ofBits 18 (fun k => !bitOf s.fioOwn k && (decide (k ≥ 16) || lowOf par k == k))

/-- FIO_HCMD is applied: sheaf-owned bits and bits of non-lowest members are ignored (R406). -/
def State.hostApplied (s : State) (old new : Word) : State :=
  let m := wN s.hostMask
  s.wr Addr.FIO_HCMD ((old &&& ~~~ m) ||| (new &&& m))

/-! ### Readback (R408, R409, R413) -/

/-- FAULT is set; its rise raises 0xA7 for a general output. -/
def State.faultSet (s : State) (general : Bool) : State :=
  if s.fstat Fl.FIO_STAT_FAULT then s
  else ((s.setFstat Fl.FIO_STAT_FAULT true).irq 8 0).raiseIf general 0xA7 0 1

/-- Can a disagreement have lasted ORBT in the field island's comparison (R408)? Not under UVF or FLOST, nor until ORBT after it
starts afresh. -/
def State.compares (s : State) : Bool :=
  !s.fstat Fl.FIO_STAT_UVF && !s.fstat Fl.FIO_STAT_FLOST &&
    (match s.fio.cmpT with | none => true | some t => decide (s.now ≥ t + 2000 * s.rf Addr.FIO_OCFG Fl.FIO_OCFG_ORBT))

/-- The comparison starts afresh (R408). -/
def State.compareAfresh (s : State) : State := let t := s.now; s.modFio (fun f => { f with cmpT := some t })

/-- READBACK_DISAGREEMENT. -/
def State.readbackDis (s : State) (k : Nat) : State :=
  if k < 16 ∧ s.compares = true then (s.modFio (fun f => { f with dis := true, mis := putBit f.mis k true })).faultSet true else s

/-- A channel's readback failed: latches of its pair clear, penalty until armed again (R413, R574). -/
def State.chanFail (s : State) (i : Nat) : State :=
  (s.faultSet false).modFio (fun f =>
    { f.disarm (i / 2) with rbf := putBit f.rbf (i / 2) true, mis := putBit f.mis (16 + i) true, disC := putBit f.disC i true })

/-- SAFETY_CHANNEL_STUCK: channel i reads 1 and does not conduct. -/
def State.chanStuck (s : State) (i : Nat) : State :=
  if i < 4 ∧ s.compares = true ∧ bitOf s.conducts i = false then
    ((s.chanFail i).modFio (fun f => { f with a9 := putBit f.a9 i true })).raise 0xA9 (i + 1) 3
  else s

/-- SAFETY_CHANNEL_FAILED: channel i reads 0 while it conducts; once the latches are clear it reads as it should. -/
def State.chanFailed (s : State) (i : Nat) : State :=
  if i < 4 ∧ s.compares = true ∧ bitOf s.conducts i = true then
    ((s.chanFail i).modFio (fun f => { f with mis := putBit f.mis (16 + i) false, disC := putBit f.disC i false })).raise 0xAA (i + 1) 2
  else s

/-- OUTPUT_OVERLOAD (R407). -/
def State.overload (s : State) (k : Nat) : State := if k < 16 then s.modFio (fun f => { f with olock := putBit f.olock k true }) else s

/-! ### Silent logic, FIELD_24, field island (R414–R418) -/

/-- SILENT_LOGIC: SILN frame periods without a heartbeat on an oscillator up to 2 % fast (R414). -/
def State.silentLogic (s : State) (cyc : Nat) : State :=
  let s := s.at cyc
  let lim := s.rf Addr.FIO_OCFG Fl.FIO_OCFG_SILN * s.fio.per
  if s.fio.up && !s.fio.silent && decide (s.fio.hb * 100 + 98 * lim ≤ s.now * 100) then
    s.modFio (fun f => { f.disarmAll with silent := true, silLat := true, gapO := f.gapO || !f.allow })
  else s

/-- FIELD_24 is below 10 V, or reversed: the field island has no supply, every output is off and CLAIM_OUT low (R693, R696; log entry
180). -/
def State.fieldDown (s : State) : State := s.modFio (fun f => { f.disarmAll with up := false, silLat := false })

/-- FIELD_START: FIELD_24 comes up and the field island starts (R415, R416, R693). -/
def State.fieldStart (s : State) : State :=
  let s := (s.setFstat Fl.FIO_STAT_UVW true).setFstat Fl.FIO_STAT_UVF true
  let s := s.modFio (fun f => { f.disarmAll with up := true, silent := true, silLat := false, copy := 0, olock := 0, gapO := true, uvH := true, zero := true })
  s.filtersOff

/-- FIELD_24_WARNING. -/
def State.f24Warn (s : State) : State :=
  if s.fstat Fl.FIO_STAT_UVW then s else ((s.setFstat Fl.FIO_STAT_UVW true).irq 8 1).raise 0xA4 0 0

/-- FIELD_24_FAULT. -/
def State.f24Fault (s : State) : State :=
  if s.fstat Fl.FIO_STAT_UVF then s
  else
    let s := ((s.setFstat Fl.FIO_STAT_UVF true).irq 8 2).faultSet false
    ((s.modFio (fun f => { f.disarmAll with uvH := true })).filtersOff).raise 0xA5 0 2

/-- FIELD_24_RECOVERED (R416, R417). -/
def State.f24Rec (s : State) (cyc : Nat) : State :=
  let s := s.at cyc
  let was := s.fstat Fl.FIO_STAT_UVF
  let s := (s.setFstat Fl.FIO_STAT_UVW false).setFstat Fl.FIO_STAT_UVF false
  if was then s.compareAfresh.filtersStart else s

/-- FIELD_LOST (R418). -/
def State.fieldLost (s : State) : State :=
  if s.fstat Fl.FIO_STAT_FLOST then s
  else
    let s := ((s.setFstat Fl.FIO_STAT_FLOST true).irq 8 3).faultSet false
    ((s.modFio (fun f => f.disarmAll)).filtersOff).raise 0xA6 0 2

/-- The frame period and FIO_SAFE pass to the field island (R414, R418); before a sheaf was started nothing passes. -/
def State.passSafe (s : State) : State :=
  if s.fio.started && s.fio.up then
    let c := s.rf Addr.FIO_SAFE ⟨0, 16⟩
    let n := s.ncyc
    s.modFio (fun f => { f with copy := c, per := n })
  else s

/-- FIELD_PULSES_RESUMED (R418). -/
def State.fieldBack (s : State) (cyc : Nat) : State :=
  let s := s.at cyc
  if s.fstat Fl.FIO_STAT_FLOST then ((s.setFstat Fl.FIO_STAT_FLOST false).passSafe).compareAfresh.filtersStart else s

/-! ### Arming (R412) -/

/-- Do the conditions to arm pair p hold (0 SAFE_A, 1 SAFE_B)? A standby is judged as if in HOLD with both demands 0 (R581). -/
def State.armOk (s : State) (p : Nat) : Bool :=
  let sb := s.rf Addr.PAIR_STAT Fl.PAIR_STAT_ROLE == 2
  (sb || s.mode == .READY || s.mode == .HOLD) && !s.fstat Fl.FIO_STAT_UVF && !s.fstat Fl.FIO_STAT_FLOST && !s.fstat Fl.FIO_STAT_UVW &&
    !s.fio.silent && s.guardEn && (sb || !bitOf s.fio.rel (16 + p)) && !bitOf s.readback (16 + 2 * p) && !bitOf s.readback (17 + 2 * p)

/-- An arm command of a pair in the frame that applies it. -/
def State.armPair (s : State) (p : Nat) : State :=
  if s.armOk p then
    (s.modFio (fun f =>
      { f with
        arm := putBit (putBit f.arm (2 * p) true) (2 * p + 1) true, rbf := putBit f.rbf p false
        a9 := putBit (putBit f.a9 (2 * p) false) (2 * p + 1) false })).irq 9 5
  else (s.setFstat Fl.FIO_STAT_ARMREF true).irq 9 4

/-! ### Frame (R394, R406, R414) -/

/-- FIO_IN, FIO_TAP, FIO_OCMD, FIO_ORB and FIO_VF24 take values latched or present. -/
def State.fioPublish (s : State) (ocmd orb : Nat) : State :=
  let f := s.fio
  let s := if s.rd Addr.FIO_IN = wN f.lat then s else (s.wr Addr.FIO_IN (wN f.lat)).irq 9 7
  let s := (s.wf Addr.FIO_TAP Fl.FIO_TAP_TA (f.latT % 256)).wf Addr.FIO_TAP Fl.FIO_TAP_TB (f.latT / 256)
  ((s.wr Addr.FIO_OCMD (wN ocmd)).wr Addr.FIO_ORB (wN orb)).wr Addr.FIO_VF24 (wN f.latV)

/-- INGEST: readbacks that disagree and FIELD_24 in 10 mV, which below 10 V is no supply; levels latch. `idle` says that the ending
frame ran no schedule. -/
def State.fioBoundary (s : State) (idle : Bool) (mis vf : Nat) : State :=
  let s := if idle then s.fioPublish s.fio.latO s.fio.latR else s
  let s := s.modFio (fun f =>
    { f with mis := mis % 2 ^ 20, vf := vf % 65536, dis := f.dis && mis % 65536 != 0, disC := ofBits 4 (fun i => bitOf f.disC i && bitOf mis (16 + i)) })
  let s := if s.compares then s else s.modFio (fun f => { f with dis := false, disC := 0 })
  let s := if s.fio.up && decide (vf < 1000) then s.fieldDown else s
  let lv := ofBits 32 (fun k => s.fio.level k)
  let tp := ofBits 8 (fun j => (s.fio.filt (24 + j)).acc) + 256 * ofBits 8 (fun j => (s.fio.filt (32 + j)).acc)
  let o := s.ocmd
  let r := s.readback
  let s := s.modFio (fun f => { f with lat := lv, latT := tp, latO := o, latR := r, latV := f.vf })
  if s.fio.dis || s.fio.disC != 0 || s.fstat Fl.FIO_STAT_UVF || s.fstat Fl.FIO_STAT_FLOST then s.faultSet s.fio.dis else s

/-- The outputs that a release brings (R406): staged ones where the sheaf owns them, the host's elsewhere. -/
def State.outWord (s : State) : Nat :=
  let own := s.fioOwn
  let host := (s.rd Addr.FIO_HCMD).toNat
  let w := ofBits 18 (fun k => if bitOf own k then bitOf s.fio.shadow k else bitOf host k)
  parExpand (s.rd Addr.FIO_PAR).toNat w

/-- The release at T_EMT (R57, R407, R414) of a word of outputs. -/
def State.fioRelease (s : State) (w : Nat) : State :=
  let s := s.modFio (fun f => { f with rel := w, olock := ofBits 16 (fun k => bitOf f.olock k && bitOf w k) })
  if s.fstat Fl.FIO_STAT_FLOST || !s.fio.up then s
  else
    let t := s.now
    let uv := s.fstat Fl.FIO_STAT_UVF
    let s := s.modFio (fun f => { f with hb := t, uvH := f.uvH && uv, zero := false })
    if s.fio.silent then
      let told := s.fio.silLat
      let s := s.modFio (fun f => { f with silent := false, silLat := false })
      if told then ((s.setFstat Fl.FIO_STAT_SILENT true).irq 8 4).raise 0xA8 0 2 else s
    else s

/-- The commit. -/
def State.fioCommit (s : State) : State := s.fioPublish s.ocmd s.readback

/-- A sheaf becomes active (R398, R404, R414). -/
def State.fioTake (s : State) : State :=
  let own := match (s.recsOf 0x0201).head? with | some r => r.w 1 % 2 ^ 18 | none => 0
  ((s.wr Addr.FIO_OWN (wN own)).modFio (fun f => { f with started := true })).passSafe

end Sys2Proof.Machine
end

