-- ==== Sys2Proof/Machine/Recorder.lean ====
section
/-! DEFINITION. The event recorder (R630–R656): record words, the ring, flushing, the loft's record region, reading, the
wall clock, the scan after a reset. -/

namespace Sys2Proof.Machine

def State.modRec (s : State) (f : RecS → RecS) : State := { s with rcd := f s.rcd }
def State.modLoft (s : State) (f : LoftS → LoftS) : State := { s with loft := f s.loft }

def State.rstat (s : State) (f : Fld) : Bool := s.flag Addr.REC_STAT f
def State.setRstat (s : State) (f : Fld) (b : Bool) : State := s.wf Addr.REC_STAT f (b2n b)

/-! ### Words of a record (R630) and the CRC unit's algorithm (R620) -/

/-- Bits of a value in reverse order. -/
def revBits (w n : Nat) : Nat := (List.range w).foldl (fun v k => v * 2 + (n >>> k) % 2) 0

/-- One byte through the CRC register (R620). -/
def crcByte (w poly : Nat) (refin : Bool) (reg b : Nat) : Nat :=
  let b := if refin then revBits 8 b else b % 256
  (List.range 8).foldl (fun r k =>
    let top := ((r >>> (w - 1)) + (b >>> (7 - k))) % 2
    let r' := r * 2 % 2 ^ w
    if top = 1 then r' ^^^ poly else r') reg

/-- The end of a CRC (R620). -/
def crcEnd (w : Nat) (refout : Bool) (xor reg : Nat) : Nat := (if refout then revBits w reg else reg) ^^^ xor

/-- CRC-32C of bytes (R68). -/
def crc32c (bs : List Nat) : Nat := crcEnd 32 true 0xFFFFFFFF (bs.foldl (crcByte 32 0x1EDC6F41 true) 0xFFFFFFFF)

/-- CRC-32 of IEEE 802.3 (R535). -/
def crc32 (bs : List Nat) : Nat := crcEnd 32 true 0xFFFFFFFF (bs.foldl (crcByte 32 0x04C11DB7 true) 0xFFFFFFFF)

/-- CRC-16/CCITT, preset 2 of R621. -/
def crc16 (bs : List Nat) : Nat := crcEnd 16 false 0 (bs.foldl (crcByte 16 0x1021 false) 0xFFFF)

/-- The eight words of a record. -/
def RecR.words (r : RecR) : List Nat :=
  let w2 := r.frm / 2 ^ 32 % 65536 + 65536 * (r.wall % 65536)
  let w4 := r.kind % 256 * 2 ^ 24 + r.code % 256 * 65536 + r.src % 256 * 256 + r.cls % 4 * 64 + b2n r.wtv * 32 + b2n r.pf * 16 + b2n r.stby * 8
  let ws := [r.seq % 2 ^ 32, r.frm % 2 ^ 32, w2, r.wall / 65536 % 2 ^ 32, w4, r.d0, r.d1]
  let bs := ws.flatMap (leBytes 4) ++ leBytes 2 r.d2
  ws ++ [r.d2 + 65536 * crc16 bs]

/-! ### Producing records (R632, R637, R641, R650) -/

/-- Unflushed records (R637); those that wait in the ring for the scan (R646) are among them. -/
def RecS.unfl (r : RecS) : Nat := (r.ring.filter (fun e => !e.flushed && !e.lost)).length + r.wait.length

/-- Start a flush, or have one follow the flush that runs (R638) or the loft scan (R646); none in volatile-only mode (R650). -/
def State.startFlush (s : State) : State :=
  if s.loft.volonly then s
  else if s.rstat Fl.REC_STAT_FLUSHING || !s.rstat Fl.REC_STAT_READY then s.modRec (fun r => { r with again := true })
  else
    let t := s.now
    (s.setRstat Fl.REC_STAT_FLUSHING true).modRec (fun r => { r with flushE := t })

/-- Count a record that is not kept (R641, R642). -/
def State.dropRec (s : State) : State :=
  let s := (s.bump Addr.REC_DROPCNT ⟨0, 32⟩).setRstat Fl.REC_STAT_DROP true
  if s.rcd.dropRun then s.modRec (fun r => { r with dropN := r.dropN + 1 })
  else
    let f := s.frm
    (s.modRec (fun r => { r with dropRun := true, dropN := 1, dropFrm := f })).raise 0xE4 0 0

/-- A run of drops ends when the unflushed count falls below 63: its LOSS record (R641). -/
def State.lossEnd (s : State) : State :=
  let r := s.rcd
  if r.dropRun && decide (r.unfl < 63) then
    (s.modRec (fun r => { r with dropRun := false, dropN := 0 })).record 8 0 0 0 r.dropN r.dropFrm 0
  else s

/-- A flush asked for while none could start begins (R638); one that finds every record flushed ends as it starts. -/
def State.flushAgain (s : State) : State :=
  if s.rcd.again then
    let s := s.modRec (fun r => { r with again := false })
    if s.rcd.unfl = 0 then s else s.startFlush
  else s

/-- Keep a record under the next number, or drop it (R632, R637, R641); in volatile-only mode the ring overwrites its oldest
(R650). A POWER warning record has a place of its own. A count that reaches FLTH starts a flush (R638). -/
def State.keepRec (s : State) (r : RecR) : State :=
  let own := r.kind == 7 && r.code == 0
  let full := decide (s.rcd.unfl ≥ (if own then 64 else 63))
  if full && !s.loft.volonly then s.dropRec
  else
    let vol := s.loft.volonly
    let n := s.rcd.seq
    let beyond := vol && decide (s.rcd.ring.length ≥ 4096)
    let s := s.modRec (fun x =>
      let l := x.ring ++ [⟨{ r with seq := n }, vol, false⟩]
      { x with ring := l.drop (l.length - 4096), seq := (n + 1) % 2 ^ 32 })
    let s := if beyond then s.wf Addr.REC_GEN Fl.REC_GEN_GEN (s.rf Addr.REC_GEN Fl.REC_GEN_GEN + 1) else s
    if s.rcd.unfl == s.rf Addr.REC_CFG Fl.REC_CFG_FLTH || s.rcd.pfmode then s.startFlush else s

/-- The order of records produced in one command (R632): TSTEP, FAULT in capture order, others by kind. -/
def recOrder (l : List RecR) : List RecR :=
  let of (k : Nat) := l.filter (fun r => r.kind == k)
  of 5 ++ of 1 ++ [2, 3, 4, 6, 7, 8, 9].flatMap of

/-- A record produced before the scan waits in the ring, or is dropped like any other (R637, R641, R646). -/
def State.waitRec (s : State) (r : RecR) : State :=
  if decide (s.rcd.unfl ≥ (if r.kind == 7 && r.code == 0 then 64 else 63)) then s.dropRec
  else s.modRec (fun x => { x with wait := x.wait ++ [r] })

/-- Number the command's records; before the scan they wait, and they take their numbers after the restart record (R646). -/
def State.numberRecs (s : State) : State :=
  let l := recOrder s.rcd.queue
  let s := s.modRec (fun r => { r with queue := [] })
  if s.rstat Fl.REC_STAT_READY then
    let s := l.foldl State.keepRec s
    s.rcd.wait.foldl State.keepRec (s.modRec (fun r => { r with wait := [] }))
  else l.foldl State.waitRec s

/-! ### The loft (R639, R647–R650) -/

/-- Record blocks of the region (R647). -/
def LoftS.nblk (l : LoftS) : Nat := l.blocks.length + l.erased.length

/-- The remap table (R647), as both copies in the checkpoint region hold it: physical blocks of the sheaf, checkpoint and record regions
and the spares. -/
def LoftS.remapTable (l : LoftS) : List (List Nat) := [l.sheaf, l.ckReg, l.blocks.map (·.phys) ++ l.erased.map (·.1), l.spares]

/-- The header of a record block: magic, place in the cyclic order, first SEQ, erase count, and a CHK, here in this order as words with
the CRC of R630 (R648; the manual gives no layout, log 172). -/
def LoftBlk.header (b : LoftBlk) : List Nat :=
  let ws := [0x43524730, b.place, match b.recs with | r :: _ => r.seq | [] => 0, b.wear]
  ws ++ [crc16 (ws.flatMap (leBytes 4))]

/-- Change the block being written. -/
def LoftS.last (l : LoftS) (f : LoftBlk → LoftBlk) : LoftS := { l with blocks := l.blocks.modify (l.blocks.length - 1) f }

/-- Has the block being written a free slot (R648)? -/
def LoftS.room (l : LoftS) : Bool :=
  match l.blocks.getLast? with | some b => !b.failing && decide (b.recs.length < 1023) | none => false

/-- A program or erase that failed its verification (R649). -/
def State.loftError (s : State) : State :=
  ((s.setRstat Fl.REC_STAT_LOFTERR true).irq 3 5).bump Addr.REC_BADCNT Fl.REC_BADCNT_FAIL

/-- Program a record, with the header of the next erased block before it where the write point needs one (R648). The programs of a
flush count from `k` on, headers among them; `bad` names those that fail: the block is marked, and the record goes to the next block
(R649). None when no erased block is left; else the state and the next count. -/
def State.programRec (s : State) (bad : List Nat) (r : RecR) : Nat → Nat → Option (State × Nat)
  | 0, _ => none
  | n + 1, k =>
    let fails := bad.contains k
    if s.loft.room then
      if fails then (s.modLoft (fun l => l.last (fun b => { b with failing := true }))).loftError.programRec bad r n (k + 1)
      else some (s.modLoft (fun l => l.last (fun b => { b with recs := b.recs ++ [r] })), k + 1)
    else
      match s.loft.erased with
      | [] => none
      | (p, w) :: t =>
        let s := s.modLoft (fun l => { l with blocks := l.blocks ++ [⟨p, fails, l.place, w, []⟩], erased := t, place := l.place + 1 })
        (if fails then s.loftError else s).programRec bad r n (k + 1)

/-- A LOFT record (R631): code, region and the physical block it tells of, the one replaced or lost (DEDUCED, log 172). -/
def State.loftRec (s : State) (code region blk : Nat) : State :=
  s.record 9 code region 0 blk (s.loft.nblk % 65536 + 65536 * (s.loft.spares.length % 256)) 0

/-- The record region has shrunk by a block (R649); below 128 blocks volatile-only mode begins, in which no record is unflushed (R641,
R650). -/
def State.shrink (s : State) (region blk : Nat) : State :=
  let s := ((s.setRstat Fl.REC_STAT_SHRINK true).loftRec 2 region blk).irq 3 2
  let s := s.raise 0xE2 0 0
  if decide (s.loft.nblk < 128) && !s.loft.volonly then
    let s := (s.modLoft (fun l => { l with volonly := true })).setRstat Fl.REC_STAT_VOLONLY true
    let s := (s.modRec (fun r => { r with ring := r.ring.map (fun e => { e with flushed := true }) })).setRstat Fl.REC_STAT_FLUSHING false
    (((s.loftRec 3 region blk).irq 3 3).raise 0xE3 0 1).lossEnd
  else s

/-- A spare takes the place of a failing block `blk`; without one the region shrinks (R649). -/
def State.remap (s : State) (region blk : Nat) (spare : Nat → LoftS → LoftS) (none_ : LoftS → LoftS) : State :=
  match s.loft.spares with
  | p :: t => (((s.modLoft (fun l => { spare p l with spares := t })).loftRec 1 region blk).irq 3 1).raise 0xE1 0 0
  | [] => (s.modLoft none_).shrink region blk

/-- Records of the loft and the ring become unreachable (R652). -/
def State.genUp (s : State) : State := s.wf Addr.REC_GEN Fl.REC_GEN_GEN (s.rf Addr.REC_GEN Fl.REC_GEN_GEN + 1)

/-- The logical record block of a failing one is reused: a spare takes its place (R649). -/
def State.reuseFailing (s : State) (blk : Nat) : State :=
  s.remap 2 blk (fun p l => { l with erased := l.erased ++ [(p, 0)] }) (fun l => l)

/-- ERASE_DONE: the background erase of the oldest record block (R639, R648, R649); `bad`: it failed. After a power-fail warning no
erase goes on (R679). -/
def State.eraseDone (s : State) (bad : Bool) : State :=
  if s.loft.volonly || s.rcd.pfmode || decide (s.loft.erased.length ≥ 2) || decide (s.loft.blocks.length < 2) then s
  else
    match s.loft.blocks with
    | [] => s
    | b :: _ =>
      let s := s.modLoft (fun l => { l with blocks := l.blocks.drop 1 })
      let s := if b.recs = [] then s else s.genUp
      let s := if bad then s.loftError else s
      if bad || b.failing then s.reuseFailing b.phys
      else s.modLoft (fun l => { l with erased := l.erased ++ [(b.phys, b.wear + 1)] })

/-- The oldest record block leaves the record region (R649): its physical block, and the loft without it. -/
def LoftS.takeOldest (l : LoftS) : Option Nat × LoftS :=
  match l.blocks, l.erased with
  | b :: t, _ => (some b.phys, { l with blocks := t })
  | [], e :: t => (some e.1, { l with erased := t })
  | [], [] => (none, l)

/-- A failing block of the sheaf or checkpoint region, at place `i` of it, is copied to a spare at once; without a spare to the oldest
record block, whose records become unreachable; without one the region loses the block (R649, R650, R652). -/
def State.regionRemap (s : State) (region i : Nat) : State :=
  let ck := region == 1
  let blk := (if ck then s.loft.ckReg else s.loft.sheaf).getD i 0
  let put (p : Nat) (l : LoftS) : LoftS := if ck then { l with ckReg := l.ckReg.set i p } else { l with sheaf := l.sheaf.set i p }
  let lost := decide (s.loft.spares = []) && (match s.loft.blocks with | b :: _ => !b.recs.isEmpty | [] => false)
  let s := s.loftError.remap region blk put (fun l =>
    match l.takeOldest with
    | (some p, l) => put p l
    | (none, l) => if ck then { l with ckReg := l.ckReg.eraseIdx i } else l)
  if lost then s.genUp else s

/-- Failing blocks of the sheaf region met by a store into a slot (R649, R678); which of its eight logical blocks fail is open. -/
def State.sheafRemaps (s : State) (slot : Nat) : Nat → State
  | 0 => s
  | n + 1 =>
    let (k, s) := s.freeVal
    (s.regionRemap 0 (8 * (slot % 2) + k % 8)).sheafRemaps slot n

/-- The block a checkpoint is programmed into may fail (R649): whether, and which of the region, is open. -/
def State.ckptBlock (s : State) : State :=
  let (n, s) := s.fresh
  let (k, s) := s.freeVal
  if Config.blockFails n && !s.loft.ckReg.isEmpty then s.regionRemap 1 (k % s.loft.ckReg.length) else s

/-- Ring places of the unflushed records, in order. -/
def RecS.due (r : RecS) : List (RingE × Nat) := r.ring.zipIdx.filter (fun p => !p.1.flushed && !p.1.lost)

/-- Program records of the ring in order (R638); each is flushed once it is verified (R637). The second answer is none when no erased
block was left. -/
def State.programAll (s : State) (bad : List Nat) : List (RingE × Nat) → Nat → State × Bool
  | [], _ => (s, true)
  | e :: t, k =>
    match s.programRec bad e.1.r (2 * s.loft.erased.length + 2) k with
    | none => (s, false)
    | some (s, k) => (s.modRec (fun r => { r with ring := r.ring.modify e.2 (fun x => { x with flushed := true }) })).programAll bad t k

/-- A running flush goes on to a frame boundary: it has programmed an open number of the records due (R637, R639). -/
def State.flushStep (s : State) : State :=
  if s.rstat Fl.REC_STAT_FLUSHING then
    let (n, s) := s.fresh
    let l := s.rcd.due
    (s.programAll [] (l.take (Config.flushed n % (l.length + 1))) 0).1.lossEnd
  else s

/-- FLUSH_END (R638, R639, R641): every unflushed record has been programmed; the flush waits when no erased block is
left. A run of drops ends with its LOSS record. -/
def State.flushEnd (s : State) (bad : List Nat) : State :=
  if !s.rstat Fl.REC_STAT_FLUSHING then s
  else
    let (s, whole) := s.programAll bad s.rcd.due 0
    if whole then (((s.setRstat Fl.REC_STAT_FLUSHING false).wr Addr.REC_FLFRM (wN s.frm)).irq 3 0).lossEnd.flushAgain
    else s.lossEnd

/-- FLUSH_TIMER (R638). -/
def State.flushTimer (s : State) (cyc : Nat) : State :=
  let s := s.at cyc
  if decide (s.now ≥ s.rcd.flushE + 200000000) && decide (s.rcd.unfl > 0) then s.startFlush else s

/-- CLEAR (R654): accepted outside RUN only; failing blocks are replaced when they are erased (R649), and records that wait for the scan
stand in the ring, which is emptied. -/
def State.recClear (s : State) : State :=
  let had := !s.rcd.ring.isEmpty || !s.rcd.wait.isEmpty || s.loft.blocks.any (fun b => !b.recs.isEmpty)
  let bad := s.loft.blocks.filter (fun b => b.failing)
  let s := s.modLoft (fun l =>
    { l with erased := l.erased ++ (l.blocks.filter (fun b => !b.failing)).map (fun b => (b.phys, b.wear + 1)), blocks := [] })
  let s := s.modRec (fun r => { r with ring := [], wait := [] })
  let s := bad.foldl (fun s b => s.reuseFailing b.phys) s
  (if had then s.genUp else s).lossEnd

/-! ### Reading (R651–R653) -/

/-- Is number a at or after number b (R633)? -/
def seqGe (a b : Nat) : Bool := decide ((a + 2 ^ 32 - b % 2 ^ 32) % 2 ^ 32 < 2 ^ 31)

/-- Put a retained record in its place by number (R633). -/
def insSeq (p : RecR × Bool) : List (RecR × Bool) → List (RecR × Bool)
  | [] => [p]
  | q :: t => if seqGe q.1.seq p.1.seq then p :: q :: t else q :: insSeq p t

/-- Retained records in order, with the mark of a ring slot lost to an error (R651, R642); those of the loft are known from the scan
on. -/
def State.retained (s : State) : List (RecR × Bool) :=
  let l := if s.rstat Fl.REC_STAT_READY then s.loft.blocks.flatMap (fun b => b.recs) else []
  let ring := s.rcd.ring.filter (fun e => !e.flushed || (s.loft.volonly && !l.any (fun r => r.seq == e.r.seq)))
  let base := l.map (fun r => (r, false))
  let kept := ring.map (fun e => (e.r, e.lost))
  if ring.any (·.lost) then kept.foldl (fun b p => insSeq p b) base else base ++ kept

/-- The retained record with the lowest number at or after n. -/
def State.recAt (s : State) (n : Nat) : Option (RecR × Bool) := s.retained.find? (fun p => seqGe p.1.seq n)

def State.recCur (s : State) : Nat := (s.rd Addr.REC_CUR).toNat

/-- A window word (R651): 0 with no record or a lost one. -/
def State.recWin (s : State) (w : Nat) : Word :=
  match s.recAt s.recCur with
  | some (r, false) => wN (r.words.getD w 0)
  | _ => 0

/-- REC_WSTAT. -/
def State.recWstat (s : State) : Word :=
  match s.recAt s.recCur with
  | none => 1
  | some (r, lost) => wN (b2n (r.seq != s.recCur) * 2 + b2n lost * 4)

/-- What a read of a window word does: RINGERR at a lost slot (R642), the advance with AINC at word 7 (R651). -/
def State.recWinRead (s : State) (w : Nat) (ainc : Bool) : State :=
  match s.recAt s.recCur with
  | none => s
  | some (r, lost) =>
    let s := if lost then s.setRstat Fl.REC_STAT_RINGERR true else s
    if w = 7 ∧ ainc = true then s.wr Addr.REC_CUR (wN (r.seq + 1)) else s

/-- REC_OLD. -/
def State.recOld (s : State) : Nat := match s.retained with | p :: _ => p.1.seq | [] => s.rcd.seq

/-- REC_WEAR (R648). -/
def LoftS.wear (l : LoftS) : Nat := max (l.blocks.foldl (fun m b => max m b.wear) 0) (l.erased.foldl (fun m e => max m e.2) 0)

/-- Records for REC_READ (R550): up to n of number `from_` or later; lost ones (R642) are none. -/
def State.recList (s : State) (from_ n : Nat) : List RecR := ((s.retained.filter (fun p => seqGe p.1.seq from_ && !p.2)).map (·.1)).take n

/-! ### Wall clock (R634, R635) -/

/-- A set of the wall clock with value w; source 0 EPOCH, 1 control path. -/
def State.wallSet (s : State) (w src : Nat) : State :=
  let c := s.wall
  let first := !s.rstat Fl.REC_STAT_WTV
  let tol := s.rf Addr.REC_CFG Fl.REC_CFG_TSTOL
  let t := s.now
  let set (s : State) (c : Nat) : State := s.modRec (fun r => { r with clkW := w, clkC := c, clkE := t })
  if first then ((set s w).setRstat Fl.REC_STAT_WTV true).irq 3 7
  else if c ≤ w ∧ w ≤ c + tol then set s w
  else if w < c ∧ c ≤ w + tol then set s c
  else
    let s := ((set s w).setRstat Fl.REC_STAT_TSTEP true).irq 3 4
    s.record 5 0 src 0 c (c / 2 ^ 32 % 65536) 0

/-! ### The scan after a reset (R633, R645, R646) -/

/-- LOFT_SCAN_DONE; `bad`: the newest record fails its CHK and is discarded. -/
def State.scanDone (s : State) (bad : Bool) : State :=
  if s.rstat Fl.REC_STAT_READY || s.mode == .RESET then s
  else
    let news := (s.loft.blocks.flatMap (fun b => b.recs)).getLast?
    let s := (s.setRstat Fl.REC_STAT_READY true).modRec (fun r =>
      { r with seq := match news with | some x => (x.seq + 1) % 2 ^ 32 | none => 0 })
    let s := (s.setRstat Fl.REC_STAT_VOLONLY s.loft.volonly).setRstat Fl.REC_STAT_SHRINK (decide (s.loft.nblk < 940))
    let s := if bad then
        (((s.setRstat Fl.REC_STAT_SCANBAD true).bump Addr.REC_BADCNT Fl.REC_BADCNT_BAD).irq 3 5).raise 0xE5 0 0
      else s
    let pfok := match news with | some x => (x.kind == 7 && x.code == 0) || x.pf | none => false
    let src := s.rf Addr.PWR_RSTSRC Fl.PWR_RSTSRC_SRC
    let s := if src = 0 ∧ pfok = false then (s.setRstat Fl.REC_STAT_PFINC true).raise 0xE6 0 0 else s
    (s.record 7 1 src 0 (match news with | some x => x.seq | none => 0xFFFFFFFF) (b2n pfok) 0).flushAgain

end Sys2Proof.Machine
end

