-- ==== Sys2Proof/Machine/Claim.lean ====
section
/-! DEFINITION. The module's own claim (R572–R574), YIELD (R579) and the BEACON (R562). -/

namespace Sys2Proof.Machine

def State.modPair (s : State) (f : PairS → PairS) : State := { s with pair := f s.pair }

def State.pst (s : State) (f : Fld) : Bool := s.flag Addr.PAIR_STAT f
def State.setPst (s : State) (f : Fld) (b : Bool) : State := s.wf Addr.PAIR_STAT f (b2n b)

/-- PAIR_STAT.ROLE: 0 OFF, 1 WAIT, 2 STANDBY, 3 TAKING, 4 DUTY (R592). -/
def State.role (s : State) : Nat := s.rf Addr.PAIR_STAT Fl.PAIR_STAT_ROLE

/-- The channels that axes use: those of feedback axes (R158, R574). -/
def State.usedFb (s : State) : List Nat := (List.range 6).filter (fun n => s.hasAx n && s.axFeedback n)

/-- The penalty P (R574). -/
def State.penalty (s : State) : Nat :=
  let p (b : Bool) (n : Nat) : Nat := if b then n else 0
  let bad := s.usedFb.any (fun n => !s.flag (Addr.FB_STAT n) Fl.FB_STAT_VALID)
  min 15 (p (s.fstat Fl.FIO_STAT_FLOST || s.fstat Fl.FIO_STAT_UVF) 4 + p (s.fio.rbf != 0) 4 +
    p (s.flag (Addr.CAN_STAT 0) Fl.CAN_STAT_BOFF) 4 + p (s.mode == .RUN && bad) 2 + p s.fio.dis 2)

/-- The claim number (R572, R586); a TAKING module takes the duty's number with the release of its repeat frame (R585). -/
def State.claimNow (s : State) : Nat :=
  let cn := s.rf Addr.PAIR_CFG Fl.PAIR_CFG_CN
  let v := max 1 (cn - s.penalty)
  if s.pair.drop ≠ 0 ∨ s.running = false then 0
  else if s.role = 1 ∨ s.pst Fl.PAIR_STAT_SIDEERR = true then 0
  else if s.role = 2 then
    if s.pst Fl.PAIR_STAT_SYNC && decide ((s.rd Addr.PAIR_SYNCCNT).toNat ≥ s.rf Addr.PAIR_SYNCCFG Fl.PAIR_SYNCCFG_SYNCMIN) then v else 0
  else if s.role = 3 ∧ s.pst Fl.PAIR_STAT_YIELD = true then v
  else if s.pair.hand then 1
  else min 15 (v + 1)

/-- The cause of a claim of 0 (R592). -/
def State.zCause (s : State) (c : Nat) : Nat :=
  if s.pair.drop ≠ 0 then s.pair.drop
  else if c ≠ 0 then 0
  else if !s.running then 9
  else if s.pst Fl.PAIR_STAT_SIDEERR then 6
  else if s.role = 1 then 8
  else 7

/-- YIELD (R579); a TAKING module clears it at the release of the repeat frame. -/
def State.yieldNow (s : State) : Bool :=
  if !s.running then true
  else match s.role with
    | 1 => true
    | 2 => true
    | 3 => s.pst Fl.PAIR_STAT_YIELD
    | _ => false

/-- The BEACON as it would be sent now (R562). -/
def State.beacon (s : State) : Beacon :=
  ⟨s.rf Addr.PAIR_CLAIM Fl.PAIR_CLAIM_CLAIM, s.mode.code, s.role, s.id.sideB, s.pst Fl.PAIR_STAT_SYNC, s.pst Fl.PAIR_STAT_LOCK, s.frm % 2 ^ 32,
   if s.role = 2 then (match s.pair.last with | some f => f % 2 ^ 32 | none => 0) else 0⟩

/-- BEACON_SEND: from the end of RESET on (R562). -/
def State.sendBeacon (s : State) : State :=
  if s.mode == .RESET then s
  else
    let b := s.beacon
    s.modPair (fun p => { p with tx := p.tx ++ [.beacon b] })

/-- Recompute the claim, its cause, the penalty and YIELD; a change of the claim is told by a BEACON. -/
def State.claimUpd (s : State) : State :=
  let c := s.claimNow
  let old := s.rf Addr.PAIR_CLAIM Fl.PAIR_CLAIM_CLAIM
  let s := s.wr Addr.PAIR_CLAIM (wN (c * 4096 + s.penalty * 256 + s.zCause c))
  let y := s.yieldNow
  let s := s.setPst Fl.PAIR_STAT_YIELD y
  if c = old then s else s.sendBeacon

end Sys2Proof.Machine
end

