-- ==== Sys2Proof/Machine/Engine.lean ====
section
/-! DEFINITION. The control engine (chapter 05, R201–R241): FMA programs, loops with anti-windup, coefficient banks,
mode hand-over and blending, plausibility supervision, lockstep mismatch. -/

namespace Sys2Proof.Machine

/-- Binary32 constants. -/
def one32 : Word := 0x3F800000

def State.modThr (s : State) (f : ThrS → ThrS) : State := { s with thr := f s.thr }

/-- Addresses of the thresher state area (R206). -/
def thrP (k : Nat) : Nat := 0x200BE000 + 4 * k
def thrL (lid o : Nat) : Nat := 0x200BF000 + 0x40 * lid + o
def thrB (bp o : Nat) : Nat := 0x200BF600 + 0x10 * bp + o
def thrC (c : Nat) : Nat := 0x200BF6C0 + 4 * c

/-- Frame period of a rate code in half nanosecond steps of 31.25 µs: Ts = 31.25 µs · 2^(2−rate) as a quotient (R204). -/
def tsOf (rate : Nat) : Fv := match rate with | 0 => quot32 1 8000 | 1 => quot32 1 16000 | _ => quot32 1 32000
def invTsOf (rate : Nat) : Fv := match rate with | 0 => int32 8000 | 1 => int32 16000 | _ => int32 32000

/-! ### FMA programs (R205, R208–R210) -/

/-- The parts of a program record. -/
structure FmaProg where
  nin  : Nat
  outs : List Nat
  ks   : List Nat
  ins  : List (Nat × Nat)
deriving DecidableEq, Repr

/-- Words two by two. -/
def pairsOf : List Nat → List (Nat × Nat)
  | a :: b :: t => (a, b) :: pairsOf t
  | _ => []

/-- A record of type 0x0101 (R208). -/
def SRec.fma (r : SRec) : FmaProg :=
  let nout := r.b 1 23 16
  let nins := r.b 2 15 0
  let nk := r.b 2 31 16
  ⟨r.b 1 15 8, (r.ws.drop 2).take nout, (r.ws.drop (2 + nout)).take nk,
   pairsOf ((r.ws.drop (2 + nout + nk)).take (2 * nins))⟩

/-- The value at an operand address; reserved addresses never stand in a sheaf (R214). -/
def State.opnd (s : State) (w : List (Nat × Word)) (ks : List Nat) (a : Nat) : Word :=
  if a < 0x400 then (aget w a).getD 0
  else if a < 0x800 then wN (ks.getD (a - 0x400) 0)
  else if a < 0xC00 then (aget w a).getD (s.sw (thrP (a - 0x800)))
  else if a = 0xC01 then one32 else 0

/-- One instruction on a file of written W and P words: destination and value (R208). -/
def State.fmaOne (s : State) (w : List (Nat × Word)) (ks : List Nat) (i : Nat × Nat) : Nat × Word :=
  ((i.2 >>> 12) % 4096,
   fma32 (bitOf i.2 24) (s.opnd w ks (i.1 % 4096)) (s.opnd w ks ((i.1 >>> 12) % 4096)) (s.opnd w ks (i.2 % 4096)))

/-- The groups of a program: `vis` is what a group reads, the file as the group before it began; `cur` the file as this
group begins (R210). -/
def State.fmaRun (s : State) (ks : List Nat) : Nat → List (Nat × Nat) → List (Nat × Word) → List (Nat × Word) → List (Nat × Word)
  | 0, _, _, cur => cur
  | k + 1, ins, vis, cur =>
    match ins with
    | [] => cur
    | _ =>
      let nxt := (ins.take 4).foldl (fun f i => let r := s.fmaOne vis ks i; aput f r.1 r.2) cur
      s.fmaRun ks k (ins.drop 4) cur nxt

/-- The words popped stand in W[0..NIN−1]. -/
def putW (w : List (Nat × Word)) (k : Nat) : List Word → List (Nat × Word)
  | [] => w
  | x :: xs => putW (aput w k x) (k + 1) xs

/-- FMA_BLK (R209). -/
def State.fmaBlk (s : State) (sl : Slot) : State :=
  match (s.recsOf 0x0101).find? (fun r => r.b 1 7 0 == sl.arg % 256) with
  | none => s
  | some r =>
    let p := r.fma
    let (ws, s) := s.pop sl.hin p.nin
    let w0 := putW s.thr.w 0 ws
    let w := s.fmaRun p.ks (p.ins.length + 1) p.ins w0 w0
    let outs := p.outs.map (fun a => s.opnd w p.ks (a % 4096))
    let s := w.foldl (fun s x => if x.1 < 0x800 then s else s.sput (thrP (x.1 - 0x800)) x.2) s
    let s := s.modThr (fun t => { t with w := w.filter (fun x => decide (x.1 < 0x400)) })
    s.push sl.hout outs

/-! ### Blend points (R212, R227–R231) -/

/-- The blend-point records: BPID, axis, sources of the modes 0 to 3. -/
def State.blends (s : State) : List (Nat × Nat × List Nat) :=
  (s.recsOf 0x0103).map (fun r => (r.b 1 3 0, r.b 1 6 4, leBytes 4 (r.w 2)))

/-- Is a blend point BLEND, and its fields MODE, PREV, j, from its state word (R206). -/
def bMode (v : Word) : Nat := v.toNat % 4
def bPrev (v : Word) : Nat := v.toNat / 4 % 4
def bBlend (v : Word) : Bool := bitOf v.toNat 4
def bJ (v : Word) : Nat := v.toNat / 256 % 256
def bWord (mode prev : Nat) (blend : Bool) (j : Nat) : Word := wN (mode % 4 + 4 * (prev % 4) + 16 * b2n blend + 256 * (j % 256))

/-- The mode of an axis in effect. -/
def State.thrMode (s : State) (n : Nat) : Nat := s.rf (Addr.THR_MCFG n) Fl.THR_MCFG_MODE

/-- Does an immediate stop reset this loop or blend point now (R221)? -/
def State.thrStop (s : State) (n id : Nat) : Bool :=
  ((s.axS n).stopped || s.thr.istop.contains id) && !s.thr.done.contains id && !(s.thr.okd.contains id)

/-- R206: in the first frame after STATEINIT each blend point stands STEADY in its axis's mode. -/
def State.thrAfterInit (s : State) : State :=
  s.blends.foldl (fun s b => s.setBytes (thrB b.1 8) (leBytes 4 (bWord (s.thrMode b.2.1) (s.thrMode b.2.1) false 0).toNat)) s

/-- The loops (0–23) and blend points (24–35) the running sheaf declares, each with its axis. -/
def State.thrIds (s : State) : List (Nat × Nat) :=
  (s.recsOf 0x0102).map (fun r => (r.b 1 4 0, r.b 1 4 0 / 4)) ++ s.blends.map (fun b => (24 + b.1, b.2.1))

/-- A frame has ended: declared loops and blend points that an immediate stop in it has not reached keep its reset waiting, also over
frames in which no schedule runs (R221). -/
def State.thrWait (s : State) : State :=
  let wait := (s.thrIds.filter (fun x => ((s.axS x.2).stopped || s.thr.istop.contains x.1) && !s.thr.okd.contains x.1)).map (·.1)
  let s := { s with ax := s.ax.map (fun (x : AxS) => { x with stopped := false }) }
  s.modThr (fun t => { t with w := [], hand := [], istop := wait, done := [], okd := [] })

/-- A mirrored blend point whose MODE has changed since `old` took its axis's NB at the hand-over (R229, R565). -/
def State.nbTake (s old : State) : State :=
  s.blends.foldl (fun s b =>
    if bMode (s.mw (thrB b.1 8)) = bMode (old.mw (thrB b.1 8)) then s
    else let nb := s.rf (Addr.THR_MCFG b.2.1) Fl.THR_MCFG_NB; s.modThr (fun t => { t with nb := t.nb.set b.1 nb })) s

/-- The blend points at the boundary of a frame that runs: the mode in effect that differs from the committed one starts the hand-over
(R229), except in the first frame after STATEINIT (R206). -/
def State.thrBoundary (s : State) : State :=
  let s := if s.thr.fresh then s.thrAfterInit.modThr (fun t => { t with fresh := false }) else s
  s.blends.foldl (fun s b =>
    let v := s.mw (thrB b.1 8)
    let m := s.thrMode b.2.1
    if bMode v = m then s
    else
      let nb := s.rf (Addr.THR_MCFG b.2.1) Fl.THR_MCFG_NB
      let s := s.sput (thrB b.1 0) (s.mw (thrB b.1 4))
      let s := s.sput (thrB b.1 8) (bWord m (bMode v) (decide (nb > 0)) 0)
      s.modThr (fun t => { t with hand := t.hand ++ [b.1], nb := t.nb.set b.1 nb })) s

/-- BLEND (R228–R231). The source loop's output is the u_prev word it has written in this frame. -/
def State.blend (s : State) (sl : Slot) : State :=
  let (ws, s) := s.pop sl.hin 1
  let bp := sl.arg % 16
  match s.blends.find? (fun b => b.1 == bp) with
  | none => s
  | some b =>
    let v := s.sw (thrB bp 8)
    let st := s.thrStop b.2.1 (24 + bp)
    let v := if st then bWord (s.thrMode b.2.1) (bPrev v) false 0 else v
    let s := if st then s.modThr (fun t => { t with done := t.done ++ [24 + bp] }) else s
    let src := b.2.2.getD (bMode v) 0xFE
    let x := if src = 0xFE then f32 (ws.headD 0) else f32 (s.sw (thrL src 0x0C))
    let nb := s.thr.nb.getD bp 0
    let j := bJ v
    let uh := f32 (s.sw (thrB bp 0))
    let raw := if src = 0xFE then ws.headD 0 else s.sw (thrL src 0x0C)
    let out :=
      if bBlend v then
        let wgt := quot32 (j + 1) (nb + 1)
        let r := add32 uh (mul32 (sub32 x uh) wgt)
        toF32 (nan32 raw (s.sw (thrB bp 0)) 0) r
      else raw
    let v' := if bBlend v then (if j + 1 < nb then bWord (bMode v) (bPrev v) true (j + 1) else bWord (bMode v) (bPrev v) false 0) else v
    let s := ((s.sput (thrB bp 8) v').sput (thrB bp 4) out).sput (thrB bp 0xC) 0
    s.push sl.hout [out]

/-! ### Loops (R211, R215–R221) -/

/-- The smaller and the larger of two numbers, as R216 uses them. -/
def minF (a b : Fv) : Fv := if fvLt b a then b else a
def maxF (a b : Fv) : Fv := if fvLt a b then b else a

/-- r − y or y − y_prev (R215): saturating integers converted, or binary32. -/
def loopDiff (int : Bool) (a b : Word) : Fv :=
  if int then int32 (satS 32 (sW a - sW b)) else sub32 (f32 a) (f32 b)

/-- Is a loop ACTIVE (R220)? -/
def State.loopActive (s : State) (lid : Nat) : Bool :=
  let bs := s.blends.filter (fun b => b.2.1 == lid / 4 && b.2.2.contains lid)
  bs.isEmpty || bs.any (fun b => b.2.2.getD (s.thrMode b.2.1) 0xFF == lid)

/-- What a loop keeps (R206): I, D, y_prev, u_prev and its flags. -/
structure LoopS where
  i : Word
  d : Word
  y : Word
  u : Word
  dvalid : Bool
  holdi : Bool
  ihold : Bool
  sat : Bool
deriving DecidableEq, Repr

def State.loopGet (s : State) (lid : Nat) : LoopS :=
  let f := (s.sw (thrL lid 0x10)).toNat
  ⟨s.sw (thrL lid 0), s.sw (thrL lid 4), s.sw (thrL lid 8), s.sw (thrL lid 0xC), bitOf f 0, bitOf f 1, bitOf f 2, bitOf f 3⟩

/-- Write a loop's state words; reserved words are written 0 (R206). -/
def State.loopPut (s : State) (lid : Nat) (l : LoopS) : State :=
  let s := (((s.sput (thrL lid 0) l.i).sput (thrL lid 4) l.d).sput (thrL lid 8) l.y).sput (thrL lid 0xC) l.u
  let s := s.sput (thrL lid 0x10) (wN (b2n l.dvalid + 2 * b2n l.holdi + 4 * b2n l.ihold + 8 * b2n l.sat))
  (List.range 11).foldl (fun s k => s.sput (thrL lid (0x14 + 4 * k)) 0) s

/-- The arithmetic of one loop step (R216, R219, R230): result, whether everything was finite, whether the preset was
clamped. Each written operation rounds once, left to right. -/
def loopStep (pid int active : Bool) (c : List Word) (ts its : Fv) (preset : Option Word) (l : LoopS) (r y f : Word) :
    LoopS × Bool × Bool :=
  let k (j : Nat) : Fv := f32 (c.getD j 0)
  let e := loopDiff int r y
  let p := mul32 (k 0) e
  let d :=
    if pid && l.dvalid then
      add32 (mul32 (k 3) (f32 l.d)) (mul32 (sub32 (f32 one32) (k 3)) (mul32 (mul32 (k 2).neg (loopDiff int y l.y)) its))
    else Fv.zero
  let ff := mul32 (k 4) (f32 f)
  let sum (i : Fv) : Fv := add32 (add32 (add32 p i) d) ff
  let i0 := f32 l.i
  let iTry := match preset with
    | some uh => sub32 (f32 uh) (add32 (add32 p d) ff)
    | none => add32 i0 (mul32 (mul32 (k 1) ts) e)
  let t := sum iTry
  let take := preset.isSome || (active && !l.holdi && fvLe (k 5) t && fvLe t (k 6))
  let i1 := if take then iTry else i0
  let i2 := minF (maxF i1 (k 7)) (k 8)
  let clamped := preset.isSome && (fvLt i1 i2 || fvLt i2 i1)
  let v := sum i2
  let u := minF (maxF v (k 5)) (k 6)
  let sat := fvLt u v || fvLt v u
  let fine := e.isFin && p.isFin && d.isFin && ff.isFin && iTry.isFin && u.isFin
  if fine then
    let hold := if preset.isSome then false else l.holdi
    (⟨toF32 0 i2, toF32 0 d, y, toF32 0 u, pid || l.dvalid, hold && sat, !take, sat⟩, true, clamped)
  else (l, false, false)

/-- PI_LOOP and PID_LOOP (R215–R221, R225, R226, R230). When blend points hand over to one loop in one frame, the u_hold of the one
declared first presets it (DESIGN CHOICE, log 144). -/
def State.loop (s : State) (sl : Slot) : State :=
  let lid := sl.arg % 32
  let n := lid / 4
  let (ws, s) := s.pop sl.hin 3
  match (s.recsOf 0x0102).find? (fun r => r.b 1 4 0 == lid) with
  | none => s
  | some rec =>
    let l := s.loopGet lid
    let st := s.thrStop n lid
    let l := if st then { l with i := 0, d := 0, dvalid := false, holdi := false } else l
    let s := if st then s.modThr (fun t => { t with done := t.done ++ [lid] }) else s
    let inc := s.blends.filter (fun b => s.thr.hand.contains b.1 && b.2.1 == n && !s.thrStop n (24 + b.1) &&
      b.2.2.getD (s.thrMode n) 0xFF == lid)
    let preset := (inc.head?).map (fun b => s.sw (thrB b.1 0))
    let c := ((s.thr.coefA.getD n coefReset).drop (9 * (lid % 4))).take 9
    let (l', fine, clamped) := loopStep (rec.b 1 8 8 == 1) (rec.b 1 9 9 == 1) (s.loopActive lid) c
      (tsOf s.sch.frate) (invTsOf s.sch.frate) preset l (ws.getD 0 0) (ws.getD 1 0) (ws.getD 2 0)
    let s := s.loopPut lid l'
    let s :=
      if fine then s.modThr (fun t => { t with nf := t.nf.filter (· != lid) })
      else
        let rise := !s.thr.nf.contains lid
        let s := (s.modThr (fun t => { t with nf := if rise then t.nf ++ [lid] else t.nf })).pubF (Addr.THR_LSTAT lid) Fl.THR_LSTAT_NONFIN 1
        ((s.pubF Addr.THR_STAT Fl.THR_STAT_NONFIN 1).irqC 11 7).raiseIf rise 0x53 lid 2
    let s := inc.foldl (fun s b =>
      let s := s.pubF (Addr.THR_BSTAT b.1) Fl.THR_BSTAT_HOCLP (b2n clamped)
      if clamped then ((s.pubF Addr.THR_STAT Fl.THR_STAT_HOCLP 1).irqC 11 7).raise 0x54 b.1 0 else s) s
    s.push sl.hout [l'.u]

/-! ### Plausibility (R213, R232, R233) -/

/-- PLAUS. -/
def State.plaus (s : State) (sl : Slot) : State :=
  let (ws, s) := s.pop sl.hin 2
  let c := sl.arg % 16
  match (s.recsOf 0x0104).find? (fun r => r.b 1 3 0 == c) with
  | none => s
  | some rec =>
    let m := ws.getD 0 0
    let q := ws.getD 1 0
    let res := (sub32 (f32 m) (f32 q)).abs
    let v := (s.sw (thrC c)).toNat
    let beyond := !res.isFin || fvLt (f32 (s.rd (Addr.THR_PTH c))) res
    let cnt := if beyond then min (v % 256 + 1) 255 else 0
    let was := bitOf v 8
    let flt := decide (cnt ≥ s.rf (Addr.THR_PCFG c) Fl.THR_PCFG_PNF) || (was && decide (cnt > 0))
    let s := (s.sput (thrC c) (wN (cnt + 256 * b2n flt))).pub (Addr.THR_PRES c) (toF32 (nan32 m q 0 &&& 0x7FFFFFFF) res)
    s.raiseIf (flt && !was) 0x52 c (rec.b 1 9 8)

/-! ### Commit, sheaf start and banks -/

/-- The registers that report the engine's committed state (R206, R237, R238). -/
def State.thrShow (s : State) : State :=
  let s := (s.recsOf 0x0102).foldl (fun s r =>
    let lid := r.b 1 4 0
    let f := (s.mw (thrL lid 0x10)).toNat
    let a := Addr.THR_LSTAT lid
    let s := (s.wf a Fl.THR_LSTAT_DVALID (b2n (bitOf f 0))).wf a Fl.THR_LSTAT_HOLDI (b2n (bitOf f 1))
    let s := (s.wf a Fl.THR_LSTAT_IHOLD (b2n (bitOf f 2))).wf a Fl.THR_LSTAT_SAT (b2n (bitOf f 3))
    let s := s.wf a Fl.THR_LSTAT_ACTIVE (b2n (s.loopActive lid))
    (s.wr (Addr.THR_LINT lid) (s.mw (thrL lid 0))).wr (Addr.THR_LOUT lid) (s.mw (thrL lid 0xC))) s
  let s := s.blends.foldl (fun s b =>
    let v := s.mw (thrB b.1 8)
    let a := Addr.THR_BSTAT b.1
    let s := (s.wf a Fl.THR_BSTAT_MODE (bMode v)).wf a Fl.THR_BSTAT_PREV (bPrev v)
    let s := s.wf a Fl.THR_BSTAT_BLEND (b2n (bBlend v))
    s.wf a Fl.THR_BSTAT_REM (if bBlend v then s.thr.nb.getD b.1 0 - bJ v else 0)) s
  let s := (s.recsOf 0x0104).foldl (fun s r =>
    let c := r.b 1 3 0
    s.wf (Addr.THR_PCFG c) Fl.THR_PCFG_PCNT ((s.mw (thrC c)).toNat % 256)) s
  let any := (s.recsOf 0x0104).any (fun r => bitOf (s.mw (thrC (r.b 1 3 0))).toNat 8)
  let s := if any && !s.flag Addr.THR_STAT Fl.THR_STAT_PLF then s.irq 11 7 else s
  s.wf Addr.THR_STAT Fl.THR_STAT_PLF (b2n any)

/-- The commit for the engine: resets served stay served. -/
def State.thrCommit (s : State) : State := (s.modThr (fun t => { t with okd := t.done })).thrShow

/-- Does the sheaf declare an axis to the engine: by a loop or a blend point of it (R237; log 143)? -/
def State.thrAxis (s : State) (n : Nat) : Bool :=
  s.hasAx n && ((s.recsOf 0x0102).any (fun r => r.b 1 4 2 == n) || s.blends.any (fun b => b.2.1 == n))

/-- The engine takes a sheaf's records (R82): registers of the loops, blend points and channels that the sheaf does not declare read 0
(R237), those of the others stand; the classes of the channels come from their records. -/
def State.thrTake (s : State) : State :=
  let loops := (s.recsOf 0x0102).map (fun r => r.b 1 4 0)
  let bps := s.blends.map (fun b => b.1)
  let chs := (s.recsOf 0x0104).map (fun r => r.b 1 3 0)
  let s := ((List.range 24).filter (fun l => !loops.contains l)).foldl (fun s l =>
    ((s.wr (Addr.THR_LSTAT l) 0).wr (Addr.THR_LOUT l) 0).wr (Addr.THR_LINT l) 0) s
  let s := ((List.range 12).filter (fun b => !bps.contains b)).foldl (fun s b => s.wr (Addr.THR_BSTAT b) 0) s
  let s := ((List.range 16).filter (fun c => !chs.contains c)).foldl (fun s c =>
    ((s.wr (Addr.THR_PRES c) 0).wf (Addr.THR_PCFG c) Fl.THR_PCFG_CLASS 0).wf (Addr.THR_PCFG c) Fl.THR_PCFG_PCNT 0) s
  let s := (s.recsOf 0x0104).foldl (fun s r => s.wf (Addr.THR_PCFG (r.b 1 3 0)) Fl.THR_PCFG_CLASS (r.b 1 9 8)) s
  let ids := s.thrIds.map (·.1)
  s.modThr (fun t => { t with w := [], hand := [], nf := [], istop := t.istop.filter (fun i => ids.contains i) })

/-- STATEINIT has been loaded: its values stand, no reset of an earlier stop waits, and the registers show them (R206). -/
def State.thrInit (s : State) : State := (s.thrAfterInit.modThr (fun t => { t with fresh := true, istop := [] })).thrShow

/-- A coefficient word fails R224's first check: not a number, infinite or subnormal. -/
def coefBad (w : Word) : Bool :=
  let n := w.toNat
  n / 2 ^ 23 % 256 == 255 || (n / 2 ^ 23 % 256 == 0 && n % 2 ^ 23 != 0)

/-- THR_CCHK for a shadow set (R224): causes in order over all 36 words, the lowest level and word of the first that
fails. -/
def coefCheck (c : List Word) : Word :=
  let f (k : Nat) : Fv := f32 (c.getD k 0)
  let at_ (cause k : Nat) : Word := wN (cause + 256 * (k % 9) + 4096 * (k / 9))
  let z := Fv.zero
  match (List.range 36).find? (fun k => coefBad (c.getD k 0)) with
  | some k => at_ 1 k
  | none =>
    match (List.range 4).find? (fun l => !fvLt (f (9 * l + 5)) (f (9 * l + 6))) with
    | some l => at_ 2 (9 * l + 5)
    | none =>
      match (List.range 4).find? (fun l => fvLt (f (9 * l + 8)) (f (9 * l + 7))) with
      | some l => at_ 3 (9 * l + 7)
      | none =>
        match (List.range 4).find? (fun l => !(fvLe z (f (9 * l + 3)) && fvLt (f (9 * l + 3)) (f32 one32))) with
        | some l => at_ 4 (9 * l + 3)
        | none =>
          match (List.range 36).find? (fun k => decide (k % 9 < 3) && fvLt (f k) z) with
          | some k => at_ 5 k
          | none => 0

/-- The check of a swap request on an axis's coefficient bank (R224). -/
def State.coefChk (s : State) (n : Nat) : State × Bool :=
  let r := coefCheck (s.thr.coefS.getD n coefReset)
  let s := (s.wr Addr.THR_CCHK r).modThr (fun t => { t with chk := t.chk.set n r })
  (s, r = 0)

/-- The swap of an axis's coefficients (R94, R225): loops with SAT = 1 hold their integrator. -/
def State.coefSwap (s : State) (n : Nat) : State :=
  let s := s.modThr (fun t => { t with coefA := t.coefA.set n (t.coefS.getD n coefReset), coefS := t.coefS.set n (t.coefA.getD n coefReset) })
  (s.recsOf 0x0102).foldl (fun s r =>
    let lid := r.b 1 4 0
    if lid / 4 = n ∧ bitOf (s.mw (thrL lid 0x10)).toNat 3 = true then
      s.sput (thrL lid 0x10) (wN (setF (s.mw (thrL lid 0x10)) ⟨1, 1⟩ 1).toNat)
    else s) s

/-- Set one shadow word (R92), or both banks for a default (R223). -/
def State.coefPut (s : State) (n k : Nat) (v : Word) (both : Bool) : State :=
  s.modThr (fun t =>
    { t with
      coefS := setAt 6 coefReset t.coefS n (fun c => c.set k v),
      coefA := if both then setAt 6 coefReset t.coefA n (fun c => c.set k v) else t.coefA })

/-- R227: does any blend point of an axis lack a source for a mode? -/
def State.modeUnused (s : State) (n m : Nat) : Bool :=
  s.blends.any (fun b => b.2.1 == n && b.2.2.getD m 0xFF == 0xFF)

/-! ### State memory slots (R207) -/

/-- SMEM LOAD: n words of committed state memory go to HOUT. -/
def State.smemLoad (s : State) (sl : Slot) : State :=
  s.push sl.hout ((List.range sl.n).map (fun k => s.mw (sl.arg + 4 * k)))

/-- SMEM STORE: n words from HIN become state memory at the commit. -/
def State.smemStore (s : State) (sl : Slot) : State :=
  let (ws, s) := s.pop sl.hin sl.n
  (ws.zipIdx).foldl (fun s x => s.sput (sl.arg + 4 * x.2) x.1) s

end Sys2Proof.Machine
end

