-- ==== Sys2Proof/Machine/Stops.lean ====
section
/-! DEFINITION. Stop scheduling and levelling (chapter 07, R286–R313): landings, call table, selection, stop state,
serving a stop. -/

namespace Sys2Proof.Machine

def State.modStp (s : State) (f : StpS → StpS) : State := { s with stp := f s.stp }

/-- Change the working copy; while no schedule runs the committed copy changes with it. -/
def State.modW (s : State) (f : StpC → StpC) : State :=
  let run := s.running
  s.modStp (fun p => { p with w := f p.w, c := if run then p.c else f p.c })

def State.stpCfg (s : State) (f : Fld) : Nat := s.rf Addr.STP_CFG f
def State.cmode (s : State) : Nat := s.stpCfg Fl.STP_CFG_CMODE
def State.ctol (s : State) : Int := s.rf Addr.STP_LTOL Fl.STP_LTOL_CTOL

/-! ### Landings and stops (R286–R289, R300, R301) -/

def LandT.lvl (t : LandT) (k : Nat) : Int := (aget t.lv k).getD 0
def LandT.nib (t : LandT) (k : Nat) : Nat := (aget t.acc k).getD 0

/-- May a (landing, deck, side) be served? -/
def LandT.open_ (t : LandT) (e : Nat) : Bool := e / 4 < t.n && bitOf (t.nib (e / 4)) (e % 4)

/-- Stop position of a deck at a landing (R287). -/
def LandT.sp (t : LandT) (deckh : Int) (deck k : Nat) : Int := t.lvl k - deck * deckh

def State.deckh (s : State) : Int := (s.rd Addr.STP_DECKH).toNat

/-- Does a landing open on a deck? -/
def LandT.deck (t : LandT) (d k : Nat) : Bool := t.open_ (4 * k + 2 * d) || t.open_ (4 * k + 2 * d + 1)

/-- The stop that holds a deck at a landing (R300). -/
def State.stopOf (s : State) (deck k : Nat) : StopId :=
  let t := s.stp.la
  let dd := s.stpCfg Fl.STP_CFG_DD == 1
  let near (j : Nat) : Bool :=
    if deck = 0 then t.deck 1 j && decide ((t.sp s.deckh 0 k - t.sp s.deckh 1 j).natAbs ≤ s.ctol.natAbs)
    else t.deck 0 j && decide ((t.sp s.deckh 0 j - t.sp s.deckh 1 k).natAbs ≤ s.ctol.natAbs)
  let other := if dd then (List.range t.n).find? near else none
  if deck = 0 then ⟨some k, other⟩ else ⟨other, some k⟩

/-- The entries of a stop that may be served. -/
def State.stopEntries (s : State) (p : StopId) : List Nat :=
  let f (deck : Nat) : Option Nat → List Nat
    | some k => [4 * k + 2 * deck, 4 * k + 2 * deck + 1].filter (fun e => s.stp.la.open_ e)
    | none => []
  f 0 p.lo ++ f 1 p.up

def StpC.flags (c : StpC) (e : Nat) : Nat := (aget c.tab e).getD 0

/-- A call table with one entry set. -/
def StpC.setE (c : StpC) (e v : Nat) : StpC := { c with tab := if v = 0 then adel c.tab e else aput c.tab e v }

/-- The level position of a stop (R301). -/
def State.levelOf (s : State) (p : StopId) : Int :=
  let pri := s.stpCfg Fl.STP_CFG_DDPRI
  let t := s.stp.la
  let sp (deck : Nat) : Option Nat → Option Int := fun o => o.map (t.sp s.deckh deck)
  let lo := sp 0 p.lo
  let up := sp 1 p.up
  let dem (deck : Nat) : Bool := (s.stopEntries p).any (fun e => decide (e / 2 % 2 = deck) && s.stp.w.flags e != 0)
  let (own, oth) := if pri = 0 then (lo, up) else (up, lo)
  match (if dem pri then own else none) with
  | some v => v
  | none => (oth.getD (own.getD 0))

/-- The stops that hold an entry satisfying a test, without repeats. -/
def State.stopsWith (s : State) (test : Nat → Nat → Bool) : List StopId :=
  (s.stp.w.tab.filter (fun x => s.stp.la.open_ x.1 && test x.1 x.2)).foldl (fun l x =>
    let p := s.stopOf (x.1 / 2 % 2) (x.1 / 4)
    if l.contains p then l else l ++ [p]) []

/-- All stops. -/
def State.allStops (s : State) : List StopId :=
  (List.range s.stp.la.n).foldl (fun l k =>
    let add (l : List StopId) (deck : Nat) : List StopId :=
      if s.stp.la.deck deck k && (deck == 0 || s.stpCfg Fl.STP_CFG_DD == 1) then
        let p := s.stopOf deck k
        if l.contains p then l else l ++ [p]
      else l
    add (add l 0) 1) []

/-- Does a stop position of an accessible deck at landing k lie outside AX0's virtual limits (cause 0x03 of R288)? -/
def State.landOut (s : State) (t : LandT) (k : Nat) : Bool :=
  (List.range 2).any (fun d => (bitOf (t.nib k) (2 * d) || bitOf (t.nib k) (2 * d + 1)) &&
    (decide (t.sp s.deckh d k < s.rs (Addr.AX_VLO 0)) || decide (t.sp s.deckh d k > s.rs (Addr.AX_VHI 0))))

/-- The check of a landing table (R288): cause and landing. -/
def State.landCheck (s : State) (t : LandT) : Nat × Nat :=
  let nScan := match s.sch.active with
    | some sh => ((sh.slots.find? (fun x => x.unit == 0x0B && x.op == 1)).map (·.n)).getD 0
    | none => 0
  let dd := s.stpCfg Fl.STP_CFG_DD
  if t.n < 2 ∨ t.n > 256 ∨ 4 * t.n > nScan then (1, 0)
  else
    match (List.range (t.n - 1)).find? (fun k => decide (t.lvl (k + 1) - t.lvl k ≤ 2 * s.ctol)) with
    | some k => (2, k)
    | none =>
      match (List.range t.n).find? (s.landOut t) with
      | some k => (3, k)
      | none =>
        match (List.range t.n).find? (fun k => decide (t.nib k / 4 % 4 ≠ 0) && (dd == 0 || s.deckh == 0)) with
        | some k => (4, k)
        | none => (0, 0)

/-- The check of a swap request (R288). -/
def State.landChk (s : State) : State × Bool :=
  let r := s.landCheck s.stp.ls
  let c := s.rf Addr.STP_STAT Fl.STP_STAT_CSTATE
  let r := if r.1 = 0 ∧ c ≠ 0 ∧ c ≠ 1 ∧ c ≠ 7 then (5, 0) else r
  (s.wr Addr.STP_LCHK (wN (r.1 + 256 * r.2)), r.1 == 0)

/-- DST and DDROP follow the records (R292, R299). -/
def StpC.flagRecs (c : StpC) : StpC :=
  let es0 : List Nat := c.tab.map (·.1) ++ c.recs.map (fun r => r.2.2 % 1024)
  let ends (w : Nat) : Nat := 4 * (w / 2 ^ 14 % 256) + 2 * (w / 2 % 2) + w / 2 ^ 13 % 2
  let es1 : List Nat := es0 ++ c.recs.map (fun r => ends r.2.2)
  let es := es1.eraseDups
  es.foldl (fun c e =>
    let dst := c.recs.any (fun r => r.2.1 == 1 && r.2.2 % 1024 == e)
    let dd := c.recs.any (fun r => r.2.1 == 2 && ends r.2.2 == e)
    c.setE e (c.flags e % 8 + 8 * b2n dst + 16 * b2n dd)) c

/-- A record's destination entry: DLAND, origin deck, DSIDE (R299). -/
def recEnd (w : Nat) : Nat := 4 * (w / 2 ^ 14 % 256) + 2 * (w / 2 % 2) + w / 2 ^ 13 % 2

/-- Is a record upward? -/
def recUp (w : Nat) : Bool := decide (w / 2 ^ 14 % 256 > w % 1024 / 4)

/-- R289: after a swap entries that no longer exist are cleared and records that name them are freed. -/
def State.callsTrim (s : State) : State :=
  let t := s.stp.la
  s.modStp (fun p =>
    let f (c : StpC) : StpC := StpC.flagRecs
      { c with tab := c.tab.filter (fun x => t.open_ x.1), recs := c.recs.filter (fun r => t.open_ (r.2.2 % 1024) && t.open_ (recEnd r.2.2)) }
    { p with w := f p.w, c := f p.c })

/-- The swap of the landing table. -/
def State.landSwap (s : State) : State :=
  let s := s.modStp (fun p => { p with la := p.ls, ls := p.la })
  (s.callsTrim).wf Addr.STP_STAT Fl.STP_STAT_TBLBAD 0

/-- R291: the limits of AX0 have changed; the active table is judged again under cause 0x03 alone. -/
def State.landRecheck (s : State) : State :=
  let t := s.stp.la
  if t.n < 2 then s
  else
    let bad := (List.range t.n).any (s.landOut t)
    let was := s.flag Addr.STP_STAT Fl.STP_STAT_TBLBAD
    (s.wf Addr.STP_STAT Fl.STP_STAT_TBLBAD (b2n bad)).raiseIf (bad && !was) 0x74 0 1

/-- The landing table of the sheaf's record 0x0B01 goes into both banks (R290). -/
def State.stpTake (s : State) : State :=
  match (s.recsOf 0x0B01).getLast? with
  | none => s
  | some r =>
    let n := r.b 1 8 0
    let lv := (List.range n).foldl (fun l k => let v := sext 32 (r.w (2 + k)); if v = 0 then l else aput l k v) []
    let ac := (List.range n).foldl (fun l k => let v := r.w (2 + n + k / 8) / 16 ^ (k % 8) % 16; if v = 0 then l else aput l k v) []
    let t : LandT := ⟨n, lv, ac⟩
    let bad := (s.landCheck t).1 ≠ 0
    let t := if bad then { t with n := 0 } else t
    (s.modStp (fun p => { p with la := t, ls := t })).wf Addr.STP_STAT Fl.STP_STAT_TBLBAD (b2n bad)

/-! ### Call operations (R294–R299) -/

/-- An operation is ignored (R296): CALLBAD, advisory fault 0x73 on its rise, once a frame. -/
def State.callBad (s : State) : State :=
  let rise := !s.flag Addr.STP_STAT Fl.STP_STAT_CALLBAD && !s.stp.badF
  let s := (s.say Addr.STP_STAT Fl.STP_STAT_CALLBAD 1).sayI 13 5
  if rise then (s.raise 0x73 0 0).modStp (fun p => { p with badF := true }) else s

/-- The entries of the committed stop. -/
def State.committedEntries (s : State) : List Nat :=
  if s.stp.w.commit then match s.stp.w.next with | some (p, _) => s.stopEntries p | none => [] else []

/-- A call operation word acts on the call table (R294–R299). -/
def State.callOp (s : State) (w : Nat) : State :=
  let w := w % 2 ^ 32
  let op := w / 2 ^ 28
  let pax := w / 2 ^ 22 % 64
  let dl := w / 2 ^ 14 % 256
  let ds := w / 2 ^ 13 % 2
  let e := w % 1024
  let m := s.cmode
  let t := s.stp.la
  let resOk := w / 2 ^ 10 % 8 == 0 && (op == 8 || (pax == 0 && dl == 0 && ds == 0))
  let setF (b : Nat) (v : Nat) : State := s.modW (fun c => c.setE e (c.flags e % 2 ^ b + v * 2 ^ b + c.flags e / 2 ^ (b + 1) * 2 ^ (b + 1)))
  let withdraw (b : Nat) : State :=
    if s.committedEntries.contains e && bitOf (s.stp.w.flags e) b then
      ((s.say Addr.STP_STAT Fl.STP_STAT_WDREF 1).bump Addr.STP_WDREF Fl.STP_WDREF_COUNT).sayI 13 7
    else setF b 0
  if op > 8 ∨ resOk = false then s.callBad
  else if op = 0 then s
  else if op = 7 then s.modW (fun c => { c with tab := (c.tab.map (fun x => (x.1, x.2 / 2 * 2))).filter (fun x => x.2 != 0) })
  else if !t.open_ e then s.callBad
  else
    match op with
    | 1 => setF 0 1
    | 2 => setF 0 0
    | 3 => if m = 1 ∨ m = 2 then s.callBad else setF 1 1
    | 4 => if m = 2 then s.callBad else setF 2 1
    | 5 => if m = 1 ∨ m = 2 then s.callBad else withdraw 1
    | 6 => if m = 2 then s.callBad else withdraw 2
    | _ =>
      if m ≠ 2 ∨ pax = 0 ∨ dl = e / 4 ∨ t.open_ (recEnd w) = false then s.callBad
      else
        match (List.range 64).find? (fun k => (aget s.stp.w.recs k).isNone) with
        | none => s.callBad
        | some k => s.modW (fun c => StpC.flagRecs { c with recs := aput c.recs k (1, w % 2 ^ 28) })

/-- The word of a call operation on an entry. -/
def opWord (op e : Nat) : Nat := op * 2 ^ 28 + e % 1024

/-! ### Selection (R303, R304) -/

/-- Does an entry demand a stop for a direction (R298)? -/
def State.demandsDir (s : State) (dir e f : Nat) : Bool :=
  let rec1 : Bool := s.stp.w.recs.any (fun r => r.2.1 == 1 && r.2.2 % 1024 == e && (recUp r.2.2 == (dir == 1)))
  match s.cmode with
  | 0 => bitOf f 0 || bitOf f 4 || bitOf f (if dir = 1 then 1 else 2)
  | 1 => bitOf f 0 || (decide (dir = 2) && bitOf f 2)
  | _ => bitOf f 0 || bitOf f 4 || rec1

/-- The commanded point of the last committed frame (R303). -/
def State.stpP (s : State) : Int := s.rs (Addr.AX_CPOS 0)

/-- The stopping distance of R303, scaled. -/
def State.stpDs (s : State) : Int :=
  let (_, A, J) := s.runLim 0
  ((stopDist (s.axU 0) (s.rs (Addr.AX_CVEL 0) * sc) (s.rs (Addr.AX_CACC 0) * sc) A J).natAbs : Int)

/-- The way to a level position in the present direction, and the threshold R_T, scaled. -/
def State.stpR (s : State) (lvl : Int) : Int := (lvl - s.stpP) * sc * (if s.stp.w.dir = 2 then -1 else 1)
def State.stpRT (s : State) : Int := s.stpDs + sc * (s.rd Addr.STP_CMARG).toNat

/-- The element of least value of a list. -/
def leastBy {α : Type} (f : α → Int) : List α → Option α
  | [] => none
  | a :: t => some (t.foldl (fun b x => if f x < f b then x else b) a)

/-- COMMIT is set: the stop becomes the present one (R304, R307). -/
def State.stpCommitSet (s : State) : State :=
  (s.modW (fun c => { c with commit := true, pres := c.next, adv := false, srvd := false })).irqC 13 1

/-- The selection of R304 after the call words. -/
def State.stpSelect (s : State) : State :=
  let rt := s.stpRT
  let c := s.stp.w
  let s :=
    match c.next with
    | some (_, l) => if !c.commit && decide (s.stpR l ≤ rt) then s.stpCommitSet else s
    | none => s
  if s.stp.w.commit ∨ s.stp.w.cst ≠ 3 then s
  else
    let ahead (p : StopId) : Bool := decide (s.stpR (s.levelOf p) ≥ rt)
    let held := match c.tgt with | some p => if ahead p then [p] else [] | none => []
    let C := (s.stopsWith (fun e f => s.demandsDir s.stp.w.dir e f)).filter ahead
    let C := if C.isEmpty && s.cmode != 2 then
        match leastBy (fun p => - s.stpR (s.levelOf p)) ((s.stopsWith (fun _ f => f != 0)).filter ahead) with
        | some p => [p] | none => []
      else C
    match leastBy (fun p => s.stpR (s.levelOf p)) (C ++ held) with
    | none => s
    | some p =>
      let l := s.levelOf p
      let s :=
        if (s.stp.w.next.map (·.1)) = some p then s
        else (s.modW (fun c => { c with next := some (p, l) })).modStp (fun q => { q with axc := some l })
      if s.stpR ((s.stp.w.next.map (·.2)).getD l) ≤ rt then s.stpCommitSet else s

/-! ### Stop state (R307, R308) -/

/-- The car doors: enabled, ROLE 0. -/
def State.carDoors (s : State) : List Nat := [1, 2, 3, 4].filter (fun d => s.dorEn d && s.dorRole d == 0)

/-- Doors ready (R307); not while the shaft start inhibit holds (R374). -/
def State.doorsReady (s : State) : Bool :=
  !s.flag Addr.HDL_STAT Fl.HDL_STAT_INHIBIT &&
  s.carDoors.all (fun d => (s.dorS d).st == (if s.flag (Addr.DOR_CFG d) Fl.DOR_CFG_LOCKEN then 6 else 0))

/-- The car doors that are CLOSED or LOCKED. -/
def State.doorsShut (s : State) : List Nat := s.carDoors.filter (fun d => (s.dorS d).st == 0 || (s.dorS d).st == 6)

/-- AX0 is IDLE and no command of the stop table waits for it. -/
def State.ax0Idle (s : State) : Bool := (s.axS 0).mot == .idle && s.stp.axc.isNone

/-- FB0_POS − level position of the present stop (R307). -/
def State.stpErr (s : State) : Nat :=
  match s.stp.w.pres with | some (_, l) => (s.cs (Addr.FB_POS 0) - l).natAbs | none => 0

/-- A change of CSTATE. -/
def State.cstTo (s : State) (k : Nat) : State :=
  let t := s.now
  let was := s.stp.w.cst
  let s := s.modW (fun c =>
    { c with
      cst := k, tSt := if k = 2 then t else c.tSt, stTo := if k = 2 then false else c.stTo, tRl := if k = 6 ∧ was ≠ 6 then t else c.tRl,
      rlc := if was = k then c.rlc else 0 })
  if was = k then s else s.sayI 13 2

/-- Demand at entries outside a list: beyond a level position in a direction, or anywhere. -/
def State.demandAt (s : State) (skip : List Nat) (test : Int → Bool) : Bool :=
  s.stp.w.tab.any (fun x => s.stp.la.open_ x.1 && !skip.contains x.1 && x.2 != 0 && test (s.stp.la.sp s.deckh (x.1 / 2 % 2) (x.1 / 4)))

/-- The departure direction at a stop (R308); the demand that remains is that of the other stops (DEDUCED, log 68). -/
def State.departDir (s : State) (es : List Nat) (lvl : Int) : Nat :=
  let d := s.stp.w.dir
  let up := s.demandAt es (fun p => decide (p > lvl))
  let dn := s.demandAt es (fun p => decide (p < lvl))
  if (d = 1 ∧ up = true) ∨ (d = 2 ∧ dn = true) then d
  else if up || dn then (if d = 1 then 2 else if d = 2 then 1 else 0) else 0

/-- The doors that serve an entry. -/
def State.entryDoors (s : State) (e : Nat) : List Nat :=
  s.carDoors.filter (fun d => s.rf (Addr.DOR_CFG d) Fl.DOR_CFG_DECK == e / 2 % 2 && s.rf (Addr.DOR_CFG d) Fl.DOR_CFG_SIDE == e % 2)

/-- Does a record that waits at one of some entries board there for a departure direction: a door of its origin is to open (R299)? -/
def State.boards (s : State) (es : List Nat) (dep : Nat) (r : Nat × (Nat × Nat)) : Bool :=
  r.2.1 == 1 && es.contains (r.2.2 % 1024) && ((dep == 1 && recUp r.2.2) || (dep == 2 && !recUp r.2.2)) &&
    !(s.entryDoors (r.2.2 % 1024)).isEmpty

/-- The entry that names a stop's deck: the lowest entry with demand, else the lowest. -/
def State.deckEntry (s : State) (p : StopId) (deck : Nat) : Option Nat :=
  let es := (s.stopEntries p).filter (fun e => e / 2 % 2 == deck)
  match es.find? (fun e => s.stp.w.flags e != 0) with
  | some e => some e
  | none => es.head?

/-- The levelling deck of a stop (R301). -/
def State.levelDeck (s : State) (p : StopId) : Nat :=
  let pri := s.stpCfg Fl.STP_CFG_DDPRI
  let has := if pri = 0 then p.lo.isSome else p.up.isSome
  let dem := (s.stopEntries p).any (fun e => decide (e / 2 % 2 = pri) && s.stp.w.flags e != 0)
  let oth := if pri = 0 then p.up.isSome else p.lo.isSome
  if has && (dem || !oth) then pri else 1 - pri

/-- Change BID's working copy; while no schedule runs the committed copy changes with it. -/
def State.modBid (s : State) (f : BidC → BidC) : State :=
  let run := s.running
  { s with bid := { s.bid with w := f s.bid.w, c := if run then s.bid.c else f s.bid.c } }

/-- Fields of an identity word (R294, R335). -/
def idType (w : Nat) : Nat := w / 2 ^ 28 % 16
def idEntry (w : Nat) : Nat := w % 1024

/-- The stop table has served the calls whose identity words satisfy a test: BID's held entries of them are closed (R339). -/
def State.bidServed (s : State) (p : Nat → Bool) : State :=
  s.modBid (fun c => { c with tab := c.tab.map (fun x => (x.1, if x.2.mine && p x.2.idw then { x.2 with srv := true } else x.2)) })

/-- Serve a stop at some of its entries (R308): calls cleared, records ended and boarded; the doors to open. -/
def State.serve (s : State) (es : List Nat) : State × List Nat :=
  match s.stp.w.pres with
  | none => (s, [])
  | some (p, lvl) =>
    let name := (s.deckEntry p (s.levelDeck p)).getD 0
    let dep := s.departDir (s.stopEntries p) lvl
    let old := s.stp.w
    let c := old
    let hall (f : Nat) : Nat := (if dep ≠ 2 then f / 2 % 2 * 2 else 0) + (if dep ≠ 1 then f / 4 % 2 * 4 else 0)
    let car := es.filter (fun e => bitOf (c.flags e) 0)
    let hal := es.filter (fun e => hall (c.flags e) != 0)
    let fin := c.recs.filter (fun r => r.2.1 == 2 && es.contains (recEnd r.2.2) && !(s.entryDoors (recEnd r.2.2)).isEmpty)
    let brd := c.recs.filter (s.boards es dep)
    let pax (r : Nat × (Nat × Nat)) : Nat := r.2.2 / 2 ^ 22 % 64
    let load := c.load - fin.foldl (fun n r => n + pax r) 0
    let load := min 65535 (load + brd.foldl (fun n r => n + pax r) 0)
    let c := es.foldl (fun c e => let f := c.flags e; c.setE e (f - f % 2 - hall f)) c
    let c := fin.foldl (fun c r => { c with recs := adel c.recs r.1 }) c
    let c := brd.foldl (fun c r => { c with recs := aput c.recs r.1 (2, r.2.2) }) c
    let c := if c.recs = [] ∧ fin = [] then c else c.flagRecs
    let touched : List Nat := car ++ hal ++ fin.map (fun r => recEnd r.2.2) ++ brd.map (fun r => r.2.2 % 1024)
    let opened : List Nat := touched.flatMap (fun e => s.entryDoors e)
    let doors := opened.eraseDups
    let dest := !fin.isEmpty || !brd.isEmpty
    let word := name + 8192 * b2n (!car.isEmpty) + 16384 * b2n (!hal.isEmpty) + 32768 * b2n dest + 65536 * (s.frm % 65536)
    let s := s.modW (fun _ => { c with dir := dep, commit := false, next := none, load := load, served := word, srvd := true, tgt := none })
    let s := s.bidServed (fun w => match idType w with
      | 1 => es.contains (idEntry w) && hall (old.flags (idEntry w)) / 2 % 2 == 1
      | 2 => es.contains (idEntry w) && hall (old.flags (idEntry w)) / 4 == 1
      | _ => brd.any (fun r => r.2.2 % 2 ^ 28 == w % 2 ^ 28))
    let s := s.irqC 13 0
    let s := if es.all (fun e => old.flags e == 0) then s.pubF Addr.STP_STAT Fl.STP_STAT_EMPTY 1 else s
    (s, doors)

/-- Serve the whole present stop. -/
def State.serveAll (s : State) : State × List Nat :=
  match s.stp.w.pres with | some (p, _) => s.serve (s.stopEntries p) | none => (s, [])

/-- MOVE to the level position of the present stop. -/
def State.stpLevelMove (s : State) : State :=
  match s.stp.w.pres with | some (_, l) => s.modStp (fun q => { q with axc := some l }) | none => s

/-- RLFAIL (R307). -/
def State.rlFail (s : State) : State :=
  let rise := !s.flag Addr.STP_STAT Fl.STP_STAT_RLFAIL
  let s := (s.cstTo 7).modW (fun c => { c with commit := false, next := none })
  ((s.say Addr.STP_STAT Fl.STP_STAT_RLFAIL 1).sayI 13 3).raiseIf rise 0x72 0 2

/-- Is RLFAIL in effect? -/
def State.rlFailed (s : State) : Bool := s.cf Addr.STP_STAT Fl.STP_STAT_RLFAIL == 1

def State.lvTol (s : State) : Nat := s.rf Addr.STP_LTOL Fl.STP_LTOL_LVTOL
def State.rlMax (s : State) : Nat := s.rf Addr.STP_RLV2 Fl.STP_RLV2_RLMAX

/-- Start re-levelling. -/
def State.relevel (s : State) : State := (s.cstTo 6).stpLevelMove

/-- Arrival by the windows of R307, as from COMMITTED. -/
def State.arrive (s : State) : State × List Nat :=
  if s.stpErr ≤ s.lvTol then
    let s := s.cstTo 5
    if s.stp.w.adv then (s, []) else s.serveAll
  else if s.stpErr ≤ s.rlMax then (s.relevel, [])
  else (s.rlFail, [])

/-- Go to START: toward the nearest stop with demand, up on a tie. -/
def State.stpStart (s : State) : State :=
  let here := match s.stp.w.pres with | some (p, _) => s.stopEntries p | none => []
  let q := s.cs (Addr.FB_POS 0)
  let ps := (s.stopsWith (fun e f => f != 0 && !here.contains e)).map s.levelOf
  match leastBy (fun l => 2 * ((l - q).natAbs : Int) + (if l ≥ q then 0 else 1)) ps with
  | some l => (s.cstTo 2).modW (fun c => { c with dir := if l ≥ q then 1 else 2 })
  | none => s.cstTo 2

/-- TSTART has passed in START with the doors not ready. -/
def State.tstartOver (s : State) : Bool :=
  s.stp.w.cst == 2 && !s.stp.w.stTo && !s.doorsReady && decide (s.now ≥ s.stp.w.tSt + 20000000 * s.rf Addr.STP_TSTART Fl.STP_TSTART_TSTART)

def State.doTstart (s : State) : State :=
  (((s.modW (fun c => { c with stTo := true })).say Addr.STP_STAT Fl.STP_STAT_STARTTO 1)).raise 0x71 0 0

/-- The re-levelling trigger has held RLNF frames. -/
def State.relevelDue (s : State) : Bool :=
  (s.stp.w.cst == 1 || s.stp.w.cst == 2 || s.stp.w.cst == 5) && s.ax0Idle && s.stp.w.pres.isSome &&
    decide (s.stp.w.rlc ≥ s.rf Addr.STP_RLV2 Fl.STP_RLV2_RLNF)

/-- RELEVEL has lasted 5.0 s. -/
def State.relevelOver (s : State) : Bool := s.stp.w.cst == 6 && decide (s.now > s.stp.w.tRl + 1000000000)

/-- AX0 was stopped by a cause other than the stop table. -/
def State.ax0Foreign (s : State) : Bool :=
  (s.axS 0).mot == .limstop || s.stp.ext

/-- One frame of the stop state (R307): the new state and the doors to open. -/
def State.stpStep (s : State) : State × List Nat :=
  let c := s.stp.w
  let e := s.stpErr
  let idle := s.ax0Idle
  let here := match c.pres with | some (p, _) => s.stopEntries p | none => []
  let elsewhere := s.demandAt here (fun _ => true)
  let trig := decide (s.rf Addr.STP_RLV Fl.STP_RLV_RLTRIG < e) && decide (e ≤ s.rlMax) && idle && c.pres.isSome
  let s := s.modW (fun c => { c with rlc := if trig && (c.cst == 1 || c.cst == 2 || c.cst == 5) then c.rlc + 1 else 0 })
  if (c.cst = 3 ∨ c.cst = 4 ∨ c.cst = 6) ∧ s.ax0Foreign = true then
    ((s.cstTo 7).modW (fun c => { c with commit := false, next := none }), [])
  else
    match c.cst with
    | 0 =>
      if s.mode = .RUN ∧ s.stpCfg Fl.STP_CFG_EN = 1 ∧ s.flag Addr.STP_STAT Fl.STP_STAT_TBLBAD = false then (s.cstTo 7, []) else (s, [])
    | 1 =>
      if here.any (fun e => c.flags e != 0) then (s.cstTo 5).serveAll
      else if s.relevelDue then (s.relevel, [])
      else if elsewhere && !s.flag Addr.STP_STAT Fl.STP_STAT_TBLBAD then (s.stpStart, [])
      else (s, [])
    | 2 =>
      if s.carDoors.any (fun d => s.stp.drs.contains d && !s.doorsShut.contains d) then (s.cstTo 5, [])
      else if s.relevelDue then (s.relevel, [])
      else if s.tstartOver then (s.doTstart, [])
      else (s, [])
    | 3 => if c.commit then (s.cstTo 4, []) else (s, [])
    | 4 =>
      if idle && decide (e > s.rlMax) then (s.rlFail, [])
      else if idle then s.arrive
      else if s.stpCfg Fl.STP_CFG_ADVEN == 1 && !c.adv && decide (e ≤ 100 * s.rf Addr.STP_ADV Fl.STP_ADV_ADVZ) &&
          decide ((s.cs (Addr.FB_VEL 0)).natAbs ≤ 1000 * s.rf Addr.STP_ADV Fl.STP_ADV_ADVV) then
        let (t, ds) := s.serveAll
        (t.modW (fun c => { c with adv := true }), ds)
      else (s, [])
    | 5 =>
      if idle && decide (e > s.rlMax) && c.pres.isSome then (s.rlFail, [])
      else
        let d := c.dir
        let due := here.filter (fun e =>
          let f := c.flags e
          bitOf f 0 || (bitOf f 1 && d != 2) || (bitOf f 2 && d != 1) || c.recs.any (s.boards [e] d))
        if due ≠ [] then s.serve due
        else if s.relevelDue then (s.relevel, [])
        else if s.doorsReady && elsewhere && !s.flag Addr.STP_STAT Fl.STP_STAT_TBLBAD then (if d = 0 then s.stpStart else s.cstTo 2, [])
        else if s.doorsReady && !elsewhere && here.all (fun e => c.flags e == 0) then ((s.cstTo 1).modW (fun c => { c with dir := 0 }), [])
        else (s, [])
    | 6 =>
      if s.relevelOver then (s.rlFail, [])
      else if !idle then (s, [])
      else if e ≤ s.rf Addr.STP_RLV Fl.STP_RLV_RLEND then
        let s := s.cstTo 5
        if c.srvd then (s, []) else s.serveAll
      else if e ≤ s.rlMax then (s.stpLevelMove, [])
      else (s.rlFail, [])
    | 7 =>
      if s.rlFailed || !(s.axS 0).mot == .idle then (s, [])
      else
        let q := s.cs (Addr.FB_POS 0)
        let near := s.allStops.filter (fun p => decide ((q - s.levelOf p).natAbs ≤ s.rlMax))
        match leastBy (fun p => ((q - s.levelOf p).natAbs : Int)) near with
        | some p => (s.modW (fun c => { c with pres := some (p, s.levelOf p), adv := false, srvd := false })).arrive
        | none =>
          if s.flag Addr.STP_STAT Fl.STP_STAT_TBLBAD then (s, [])
          else
            match leastBy (fun p => 2 * ((q - s.levelOf p).natAbs : Int) + (if s.levelOf p > q then 1 else 0)) s.allStops with
            | some p => ((s.cstTo 2).modW (fun c => { c with tgt := some p, pres := none, dir := if s.levelOf p ≥ q then 1 else 2 }), [])
            | none => (s, [])
    | _ => (s, [])

/-- Call words in order, then START with the doors ready becomes RUN, unless the table is bad (R291, R295, R304, R307). -/
def State.scanWords (s : State) (ws : List Word) : State :=
  let s := ws.foldl (fun s w => s.callOp w.toNat) s
  if s.stp.w.cst = 2 ∧ s.doorsReady = true ∧ s.ax0Idle = true ∧ s.relevelDue = false ∧ s.flag Addr.STP_STAT Fl.STP_STAT_TBLBAD = false then
    s.cstTo 3
  else s

/-- STOP_SCAN (R295, R304): call words, START with the doors ready becomes RUN, selection. -/
def State.stopScan (s : State) (sl : Slot) : State :=
  let r := s.popOpt sl.hin (sl.arg % 256)
  let u := r.2.scanWords r.1
  let (ds, s) := u.stpSelect.freeRound u.stpDs sc
  let (dw, s) := s.fitU 32 ds
  s.pub Addr.STP_DIST (wN dw)

/-- COMMIT (R305, R307, R308): the stop state's step, the door commands pushed. -/
def State.stpCommitSlot (s : State) (sl : Slot) : State :=
  let (s, doors) := s.stpStep
  let shut := s.doorsShut
  let s := s.modStp (fun p => { p with drs := shut, ext := false })
  s.push sl.hout ([1, 2, 3, 4].map (fun d => if doors.contains d then 1 else 0))

/-! ### Boundary, events, commit -/

/-- The registers of the stop table (R312, R313). -/
def State.stpShow (s : State) : State :=
  let c := s.stp.c
  let a := Addr.STP_STAT
  let s := (s.wf a Fl.STP_STAT_CSTATE c.cst).wf a Fl.STP_STAT_DIR c.dir
  let s := (s.wf a Fl.STP_STAT_COMMIT (b2n c.commit)).wf a Fl.STP_STAT_ADVOPEN (b2n c.adv)
  let nx : Nat × Int := match c.next with
    | none => (0, 0)
    | some (p, l) =>
      let d := s.levelDeck p
      let e1 := (s.deckEntry p d).getD 0
      let e2 := (s.deckEntry p (1 - d)).getD 0
      (e1 + 65536 * e2 + 2 ^ 30 * b2n (p.lo.isSome && p.up.isSome) + 2 ^ 31, l)
  let s := (s.wr Addr.STP_NEXT (wN nx.1)).wr Addr.STP_LEVEL (wI nx.2)
  (s.wr Addr.STP_LOAD (wN c.load)).wr Addr.STP_SERVED (wN c.served)

/-- The stop table at a boundary, after staging (R305, R307, R309): the working copy starts from the committed one, leaving
RUN or EN = 0 gives OFF, the AX0 command acts. -/
def State.stpBoundary (s : State) : State :=
  if !s.hasUnit 4 then s
  else
    if s.stp.w.cst ≠ 0 ∧ (s.mode ≠ .RUN ∨ s.stpCfg Fl.STP_CFG_EN = 0) then
      let s := (s.cstTo 0).modW (fun c => { c with commit := false, next := none })
      let s := s.modStp (fun p => { p with axc := none })
      let s := s.modAx 0 (fun x => { x with vcap := none })
      if s.running then s.doHalt 0 else s.stpShow
    else
      let cap := if s.stp.w.cst = 6 then some (s.rd Addr.STP_RLVEL).toNat else none
      let s := s.modAx 0 (fun x => { x with vcap := cap })
      match s.stp.axc with
      | none => s
      | some t =>
        -- a guard stop at this boundary comes before the stop table's MOVE, and brings it to HELD (R360)
        let s := s.modStp (fun p => { p with axc := none, ext := p.ext || s.guardHolds 0 })
        if s.guardHolds 0 then s else (s.wr (Addr.AX_TGT 0) (wI t)).cmdMove 0

/-- STP_CMD.RESUME (R307, R313). -/
def State.stpResume (s : State) : State := if s.hasUnit 4 then s.wf Addr.STP_STAT Fl.STP_STAT_RLFAIL 0 else s

/-- TSTART_EXPIRY. -/
def State.tstartExpiry (s : State) (cyc : Nat) : State :=
  let s := s.at cyc
  if s.hasUnit 4 && s.running && s.tstartOver then s.doTstart else s

/-- RELEVEL_TRIGGER. -/
def State.relevelTrigger (s : State) : State := if s.hasUnit 4 && s.running && s.relevelDue then s.relevel else s

/-- RELEVEL_TIMEOUT. -/
def State.relevelTimeout (s : State) (cyc : Nat) : State :=
  let s := s.at cyc
  if s.hasUnit 4 && s.running && s.relevelOver then s.rlFail else s

/-- A call operation row: on a module with a stop table (R294). -/
def State.callRow (s : State) (w : Nat) : State := if s.hasUnit 4 then s.callOp w else s

/-- The commit of the stop table (R293). -/
def State.stpCommit (s : State) : State := if s.hasUnit 4 then (s.modStp (fun p => { p with c := p.w })).stpShow else s

/-- A frame without commit leaves the committed copy (R58). -/
def State.stpDiscard (s : State) : State := s.modStp (fun p => { p with w := p.c })

/-- State memory starts afresh (R82): the call table is empty, the stop state OFF. -/
def State.stpClear (s : State) : State :=
  s.modStp (fun p => { p with c := StpC.init, w := StpC.init, axc := none })

end Sys2Proof.Machine
end

