-- ==== Sys2Proof/Machine/Guard.lean ====
section
/-! DEFINITION. The headland guard (chapter 09, R351–R389): envelopes, terminals, overspeed, shared shaft, door zone,
unintended car movement, trip latch. -/

namespace Sys2Proof.Machine

def State.modHdl (s : State) (f : HdlS → HdlS) : State := { s with hdl := f s.hdl }

/-- Values of the guard's configuration. -/
def State.hN (s : State) (a : Nat) : Int := (s.rd a).toNat
def State.termHi (s : State) : Int := s.rs Addr.HDL_TERMHI
def State.termLo (s : State) : Int := s.rs Addr.HDL_TERMLO
def State.hTime (s : State) (f : Fld) : Int := s.rf Addr.HDL_TIME f

/-- Quotient rounded up, for a positive divisor. -/
def divUp (a b : Int) : Int := - (-a / b)

/-- Saturation of a distance at 0xFFFF_FFFF (R352). -/
def satEnv (x : Int) : Nat := min x.toNat 0xFFFFFFFF

/-- The two envelopes (R352). -/
def State.envStop (s : State) (v : Int) : Nat :=
  satEnv (divUp (v * v) (2 * s.hN Addr.HDL_AGRD) + divUp (v.natAbs * s.hTime Fl.HDL_TIME_TRCT) 1000 + s.hN Addr.HDL_MARGIN)
def State.envEmg (s : State) (v : Int) : Nat :=
  satEnv (divUp (v * v) (2 * s.hN Addr.HDL_AEMG) + divUp (v.natAbs * s.hTime Fl.HDL_TIME_TEMG) 1000)

/-- The guard's state changes. -/
def State.gstTo (s : State) (g : Nat) : State :=
  if s.hdl.gst = g then s
  else (s.modHdl (fun h => { h with gst := g, stopRq := if g = 0 then none else h.stopRq })).sayI 15 2

/-- The landing table and DECKH that the slots use: those of the last committed frame, in the first frame of a schedule those
in force (R359). -/
def State.hdlLand (s : State) : LandT × Int := s.hdl.land.getD (s.stp.la, s.deckh)

/-- The accessible stop positions for each (deck, side) bit. -/
def State.hdlStops (s : State) (b : Nat) : List Int :=
  let (t, h) := s.hdlLand
  ((List.range t.n).filter (fun k => bitOf (t.nib k) b)).map (fun k => t.sp h (b / 2) k)

/-- Frames of the reaction time (R361). -/
def State.nrf (s : State) : Nat := (divUp (s.hTime Fl.HDL_TIME_TRCT * 200000) s.ncyc).toNat

/-- A condition of the guard is met (R360, R362, R363): its bit of HDL_STAT, its fault on the rise, which each source has its own, a
guard stop or a trip. -/
def State.hdlCause (s : State) (bit code src cls : Nat) (trip : Bool) : State :=
  if !s.hdl.act then s
  else
    let key := bit + 32 * src
    let rise := !bitOf s.hdl.cb key && !bitOf s.hdl.cbN key
    let s := (s.pubF Addr.HDL_STAT ⟨bit, 1⟩ 1).raiseIf rise code src cls
    let s := s.modHdl (fun h => { h with cbN := putBit h.cbN key true })
    if trip then
      if s.hdl.gst = 2 ∨ s.hdl.gst = 3 then ((s.gstTo 4).modHdl (fun h => { h with trip := true })).irqC 15 1 else s
    else if s.hdl.gst = 2 then
      let h := s.hdl
      let f := s.frm
      (((s.gstTo 3).modHdl (fun x => { x with nH := 0, esc := true, stopRq := some f, et := ⟨h.gterm, 0⟩, es := ⟨h.gshaft, 0⟩ })).irqC 15 0)
    else s

/-! ### Configuration check (R383) -/

def State.hdlCheck (s : State) : Nat × Nat :=
  let inr (lo v hi : Int) : Bool := decide (lo ≤ v) && decide (v ≤ hi)
  let n := s.rf Addr.HDL_OVCFG Fl.HDL_OVCFG_NOVS
  let t := s.stp.la
  let stopOut (k : Nat) : Bool := (List.range 4).any (fun b => bitOf (t.nib k) b &&
    !inr s.termLo (t.sp s.deckh (b / 2) k) s.termHi)
  let ovBad (k : Nat) : Bool := (k != 0 && decide (s.rs (Addr.HDL_OVP k) ≤ s.rs (Addr.HDL_OVP (k - 1)))) ||
    s.rf (Addr.HDL_OVV k) Fl.HDL_OVV_VUP == 0 || s.rf (Addr.HDL_OVV k) Fl.HDL_OVV_VDN == 0
  let agrd := s.hN Addr.HDL_AGRD
  let aemg := s.hN Addr.HDL_AEMG
  let sh := s.pairRole == 2
  if !(inr 100000 agrd 1500000 && inr 500000 aemg 20000000 && inr 0 (s.hTime Fl.HDL_TIME_TRCT) 2000 &&
      inr 0 (s.hTime Fl.HDL_TIME_TEMG) 1000 && inr 0 (s.hN Addr.HDL_MARGIN) 10000000) then (1, 0)
  else if agrd > s.hN (Addr.AX_ALIM 0) ∨ aemg ≤ agrd then (2, 0)
  else if s.termLo ≥ s.termHi ∨ s.rs (Addr.AX_VLO 0) < s.termLo ∨ s.rs (Addr.AX_VHI 0) > s.termHi then (3, 0)
  else
    match (List.range t.n).find? stopOut with
    | some k => (3, k % 256)
    | none =>
      if n < 1 ∨ n > 16 then (4, 0)
      else
        match (List.range n).find? ovBad with
        | some k => (4, k)
        | none =>
          if s.rd Addr.HDL_DLMASK = 0 then (5, 0)
          else if !(inr 10000 (s.hN Addr.HDL_ZWIN) 350000 && inr 10000 (s.hN Addr.HDL_RLV) 800000 &&
              inr 1 (s.rf Addr.HDL_ESCCFG Fl.HDL_ESCCFG_SHN) 255 && inr 1 (s.rf Addr.HDL_OVCFG Fl.HDL_OVCFG_OVN) 16) then (6, 0)
          else if sh && (s.rd Addr.HDL_TOP == 0 || s.rd Addr.HDL_BOT == 0 || !inr 100000 (s.hN Addr.HDL_SEP) 50000000 ||
              decide (s.rf Addr.HDL_SHCFG Fl.HDL_SHCFG_IMGTRIP < s.rf Addr.HDL_SHCFG Fl.HDL_SHCFG_IMGMISS)) then (7, 0)
          else (0, 0)

/-! ### Slots -/

/-- The doors are locked (R376). -/
def State.hdlLocked (s : State) : Bool :=
  let m := (s.rd Addr.HDL_DLMASK).toNat
  let pol := (s.rd Addr.HDL_DLPOL).toNat
  (List.range 32).all (fun k => !bitOf m k || (bitOf s.fio.lat k != bitOf pol k)) &&
    s.carDoors.all (fun d => let st := s.rf (Addr.DOR_STAT d) Fl.DOR_STAT_STATE; st == 0 || st == 6)

/-- FB0 is valid and the position inside the terminals (R356). -/
def State.hdlInside (s : State) : Bool := decide (s.termLo ≤ s.hdl.p) && decide (s.hdl.p ≤ s.termHi)

/-- GUARD_ARMED: sixteen valid frames inside the terminals (R356). -/
def State.hdlArmed (s : State) : State :=
  if s.hdl.gst = 1 ∧ s.hdl.armN ≥ 16 then (s.gstTo 2).modHdl (fun h => { h with pref := none, wasLk := true }) else s

/-- ENVELOPE (R351, R352, R356, R370, R376, R382). VALID is FB0's of this frame: the channel as latched in cycle 0, the POSSAT that
FB_SPEED has formed (R359). -/
def State.envelope (s : State) : State :=
  let valid := (s.fbS 0).l.ok && s.cf (Addr.FB_STAT 0) Fl.FB_STAT_POSSAT == 0
  let p := s.cs (Addr.FB_POS 0)
  let low := s.cf (Addr.FB_SPD 0) Fl.FB_SPD_LOWCONF == 1
  let bnd : Int := (s.cur (Addr.FB_VBND 0)).toNat
  let v := if low then (if s.cf (Addr.FB_SPD 0) Fl.FB_SPD_DIR = 1 then -bnd else bnd) else s.cs (Addr.FB_VEL 0)
  let ds := s.envStop v
  let de := s.envEmg v
  let s := s.modHdl (fun h =>
    { h with p := p, v := v, dstop := ds, demg := de, nH := if h.gst = 3 then h.nH + 1 else h.nH, cb := h.cbN, cbN := 0 })
  let ins := s.hdlInside
  let en := s.flag Addr.HDL_CFG Fl.HDL_CFG_EN
  let still := s.cf (Addr.FB_SPD 0) Fl.FB_SPD_EST == 0
  let s :=
    if !en then s.gstTo 0
    else
      match s.hdl.gst with
      | 0 =>
        if s.hdl.judged then s
        else
          let r := s.hdlCheck
          let s := (s.pub Addr.HDL_CCHK (wN (r.1 + 256 * r.2))).pubF Addr.HDL_STAT Fl.HDL_STAT_CFGBAD (b2n (r.1 != 0))
          let s := s.modHdl (fun h => { h with judged := true })
          if r.1 ≠ 0 then s
          else if s.hdl.trip then s.gstTo 4
          else (s.gstTo 1).modHdl (fun h => { h with armN := 0 })
      | 1 => (s.modHdl (fun h => { h with armN := if valid && ins then h.armN + 1 else 0 })).hdlArmed
      | 3 => if still && (s.axS 0).mot == .idle then (s.gstTo 2).modHdl (fun h => { h with et := ⟨0, 0⟩, es := ⟨0, 0⟩, pref := none, wasLk := true }) else s
      | _ => s
  let s := s.modHdl (fun h => { h with act := h.gst == 2 || h.gst == 3, esc := h.gst == 3 })
  let lk := s.hdlLocked
  let s := (s.pubF Addr.HDL_STAT Fl.HDL_STAT_OUTSIDE (b2n (!ins))).pubF Addr.HDL_STAT Fl.HDL_STAT_LOCKED (b2n lk)
  let s := ((s.pub Addr.HDL_VG (wI v)).pub Addr.HDL_DSTOP (wN ds)).pub Addr.HDL_DEMG (wN de)
  let s := if valid then s else s.hdlCause 20 0x9D 0 3 true
  let fl := s.rf Addr.HDL_SHCFG Fl.HDL_SHCFG_SPOS + 2 * b2n (s.hdl.gst == 2 || s.hdl.gst == 3) + 4 * b2n (s.hdl.gst == 4) + 8 * b2n (!lk) + 16 * b2n valid
  let ws : List Word := [wN (2 ^ 24 + fl * 65536 + s.frm % 65536), wI p, wI v, wN ds, wN de, s.rd Addr.HDL_TOP, s.rd Addr.HDL_BOT]
  let x := ws.foldl (fun a b => a ^^^ b) 0
  s.modHdl (fun h => { h with own := ws ++ [~~~ x] })

/-- The escalation rule of a gap (R361), in a frame that began in STOPPING, a trip of an earlier slot of it notwithstanding (R362): the new reference and count, and whether it trips. -/
def State.escStep (s : State) (e : EscS) (g : Int) : EscS × Bool :=
  if s.hdl.esc = false ∨ s.hdl.nH < s.nrf then (e, false)
  else if s.hdl.nH = s.nrf then (⟨g, 0⟩, false)
  else
    let n := if g < e.ref - s.rf Addr.HDL_ESCCFG Fl.HDL_ESCCFG_SHRTOL then e.cnt + 1 else 0
    (⟨max e.ref g, n⟩, decide (n ≥ s.rf Addr.HDL_ESCCFG Fl.HDL_ESCCFG_SHN))

/-- ESCALATION_TRIP (R361): a gap has kept shrinking for SHN frames. -/
def State.escTrip (s : State) (src : Nat) : State :=
  let e := if src = 1 then s.hdl.et else s.hdl.es
  if s.hdl.esc = true ∧ s.hdl.nH > s.nrf ∧ e.cnt ≥ s.rf Addr.HDL_ESCCFG Fl.HDL_ESCCFG_SHN then s.hdlCause 15 0x97 src 3 true else s

/-- HDL_ESC shows the higher count. -/
def State.escShow (s : State) : State :=
  let a := s.hdl.et.cnt
  let b := s.hdl.es.cnt
  let src := if a = 0 ∧ b = 0 then 0 else if a ≥ b then 1 else 2
  s.pub Addr.HDL_ESC (wN (256 * min 255 (max a b) + src))

/-- TERM_CHK (R366). -/
def State.termChk (s : State) : State :=
  let h := s.hdl
  let up := s.termHi - h.p
  let dn := h.p - s.termLo
  let g := if h.v > 0 then up - h.dstop else if h.v < 0 then dn - h.dstop else min up dn - s.hN Addr.HDL_MARGIN
  let d := if h.v > 0 then up else dn
  let src := if h.v > 0 then 1 else 2
  let s := (s.modHdl (fun h => { h with gterm := g })).pub Addr.HDL_GTERM (wI (satS 32 g))
  let s := if h.v ≠ 0 ∧ g ≤ 0 then s.hdlCause 8 0x91 src 1 false else s
  let s := if h.v ≠ 0 ∧ (h.demg : Int) ≥ d then s.hdlCause 12 0x92 src 3 true else s
  let s := if h.p > s.termHi then s.hdlCause 12 0x92 1 3 true else if h.p < s.termLo then s.hdlCause 12 0x92 2 3 true else s
  let r := s.escStep s.hdl.et g
  let s := s.modHdl (fun h => { h with et := r.1 })
  (if r.2 then s.escTrip 1 else s).escShow

/-- The limit at a position for a direction, in µm/s (R367). -/
def State.ovLimit (s : State) (p : Int) (f : Fld) : Int :=
  let n := s.rf Addr.HDL_OVCFG Fl.HDL_OVCFG_NOVS
  let w (k : Nat) : Int := s.rf (Addr.HDL_OVV k) f
  let q (k : Nat) : Int := s.rs (Addr.HDL_OVP k)
  if p ≤ q 0 then 1000 * w 0
  else if p ≥ q (n - 1) then 1000 * w (n - 1)
  else
    match (List.range (n - 1)).find? (fun k => decide (q k ≤ p) && decide (p < q (k + 1))) with
    | some k => 1000 * w k + 1000 * (w (k + 1) - w k) * (p - q k) / (q (k + 1) - q k)
    | none => 1000 * w (n - 1)

/-- OVERSPEED (R368): counts that have reached OVN stop or trip. -/
def State.overspeed (s : State) : State :=
  let n := s.rf Addr.HDL_OVCFG Fl.HDL_OVCFG_OVN
  let s := if s.hdl.ovS ≥ n ∧ s.hdl.ovS ≠ 0 then s.hdlCause 9 0x93 0 1 false else s
  if s.hdl.ovT ≥ n ∧ s.hdl.ovT ≠ 0 then s.hdlCause 13 0x94 0 3 true else s

/-- OVS_CHK (R368). -/
def State.ovsChk (s : State) : State :=
  let v := s.hdl.v
  if v = 0 then s.modHdl (fun h => { h with ovS := 0, ovT := 0, ovSg := 0 })
  else
    let lim := s.ovLimit s.hdl.p (if v > 0 then Fl.HDL_OVV_VUP else Fl.HDL_OVV_VDN)
    let sg : Int := if v > 0 then 1 else -1
    let tl := lim * (100 + s.rf Addr.HDL_OVCFG Fl.HDL_OVCFG_OVT) / 100
    let s := s.pub Addr.HDL_VLIM (wI lim)
    let s := s.modHdl (fun h =>
      let same := h.ovSg == sg
      { h with
        ovSg := sg
        ovS := if (v.natAbs : Int) > lim then (if same then h.ovS else 0) + 1 else 0
        ovT := if (v.natAbs : Int) > tl then (if same then h.ovT else 0) + 1 else 0 })
    s.overspeed

/-- ZONE_DISAGREEMENT (R378). -/
def State.zoneDis (s : State) : State :=
  let n := s.rf Addr.HDL_ZIN Fl.HDL_ZIN_ZDN
  if s.flag Addr.HDL_ZIN Fl.HDL_ZIN_EN && decide (s.hdl.zdN ≥ n) && s.hdl.zdN != 0 then
    let rise := !s.hdl.zdOn
    ((s.modHdl (fun h => { h with zdOn := true })).say Addr.HDL_STAT Fl.HDL_STAT_ZDIS 1).raiseIf rise 0x9E 0 1
  else s

/-- ZONE_CHK (R377, R378). -/
def State.zoneChk (s : State) : State :=
  let zw := s.hN Addr.HDL_ZWIN
  let zpos := ofBits 4 (fun b => (s.hdlStops b).any (fun q => decide (((s.hdl.p - q).natAbs : Int) ≤ zw)))
  let z := s.rd Addr.HDL_ZIN
  let used := bitOf z.toNat 7
  let inst := used && (bitOf s.fio.lat (z.toNat % 32) != bitOf z.toNat 5)
  let ok := decide ((s.hdl.v.natAbs : Int) ≤ s.hN Addr.HDL_RLV) && s.hdl.gst == 2 && (!used || inst)
  let s := s.pub Addr.HDL_PERM (wN (256 * b2n inst + 16 * zpos + (if ok then zpos else 0)))
  let dis := used && (decide (zpos ≠ 0) != inst)
  let n := s.rf Addr.HDL_ZIN Fl.HDL_ZIN_ZDN
  let s := s.modHdl (fun h => { h with zdN := if dis then h.zdN + 1 else 0, zdOn := h.zdOn && dis })
  if s.hdl.zdN = n ∧ n ≠ 0 then s.zoneDis else s

/-- UCM_CHK (R379, R380). Of two stop positions equally near, the one that comes first by (deck, side), then landing (log 149). -/
def State.ucmChk (s : State) : State :=
  let zw := s.hN Addr.HDL_ZWIN
  let p := s.hdl.p
  if s.hdlLocked then (s.modHdl (fun h => { h with wasLk := true, pref := none })).pub Addr.HDL_PREF 0
  else if !s.hdl.act then s
  else
    let sps := (List.range 4).flatMap (fun b => s.hdlStops b)
    let first := s.hdl.wasLk
    let s :=
      if first then
        let r := leastBy (fun q => ((p - q).natAbs : Int)) sps
        let s := s.modHdl (fun h => { h with wasLk := false, pref := r })
        if !r.any (fun q => decide (((p - q).natAbs : Int) ≤ zw)) then s.hdlCause 17 0x9A 0 3 true else s
      else s
    let s := s.pub Addr.HDL_PREF (wI (s.hdl.pref.getD 0))
    let s := match s.hdl.pref with
      | some q => if ((p - q).natAbs : Int) > zw then s.hdlCause 18 0x9B 0 3 true else s
      | none => s
    if (s.hdl.v.natAbs : Int) > s.hN Addr.HDL_RLV then s.hdlCause 19 0x9C 0 3 true else s

/-! ### Shared shaft (R369–R375) -/

/-- Does the own car move toward the neighbour? -/
def State.shToward (s : State) : Bool :=
  if s.rf Addr.HDL_SHCFG Fl.HDL_SHCFG_SPOS = 0 then decide (s.hdl.v > 0) else decide (s.hdl.v < 0)

/-- The record that came at INGEST is judged (R371). -/
def State.shRecord (s : State) : State :=
  let own := s.rf Addr.HDL_SHCFG Fl.HDL_SHCFG_SPOS
  let okW (ws : List Word) : Bool :=
    let w (k : Nat) : Word := ws.getD k 0
    decide (ws.length ≥ 8) && getF (w 0) ⟨24, 8⟩ == 1 && w 7 == ~~~ ((ws.take 7).foldl (fun a b => a ^^^ b) 0)
  let fld (ws : List Word) : Nat := getF (ws.getD 0 0) ⟨0, 16⟩
  let flags (ws : List Word) : Nat := getF (ws.getD 0 0) ⟨16, 8⟩
  let fresh (ws : List Word) : Bool := match s.hdl.nrec with | some r => fld r != fld ws | none => true
  let got := match s.hdl.rxImg with
    | some ws => if okW ws && bitOf (flags ws) 4 && fresh ws && flags ws % 2 != own then some (ws.take 8) else none
    | none => none
  let same := match s.hdl.rxImg with | some ws => okW ws && flags ws % 2 == own | none => false
  let claims := match s.hdl.rxImg with | some ws => if okW ws then same else s.hdl.spos | none => s.hdl.spos
  let s := if same then
      let rise := !s.hdl.spos
      (s.pubF Addr.HDL_STAT Fl.HDL_STAT_SPOSERR 1).raiseIf rise 0x9F 0 1
    else s
  s.modHdl (fun h =>
    { h with
      rxImg := none, spos := claims, nval := got.isSome, nrec := match got with | some r => some r | none => h.nrec
      miss := if got.isSome then 0 else min 65535 (h.miss + 1) })

/-- NEIGHBOUR_RECORD_MISSING (R375). -/
def State.shMissing (s : State) : State :=
  let k := s.hdl.miss
  let t := s.shToward
  let s := if t && decide (k ≥ s.rf Addr.HDL_SHCFG Fl.HDL_SHCFG_IMGMISS) then s.hdlCause 11 0x98 0 1 false else s
  if t && decide (k ≥ s.rf Addr.HDL_SHCFG Fl.HDL_SHCFG_IMGTRIP) then s.hdlCause 16 0x99 0 3 true else s

/-- INHIBIT, reported at the commit. -/
def State.inhibitTo (s : State) (b : Bool) : State :=
  let was := s.cf Addr.HDL_STAT Fl.HDL_STAT_INHIBIT == 1
  let s := s.pubF Addr.HDL_STAT Fl.HDL_STAT_INHIBIT (b2n b)
  if was = b then s else s.irqC 15 3

/-- SHAFT_CHK (R371–R375). -/
def State.shaftChk (s : State) : State :=
  let s := s.shRecord
  let h := s.hdl
  let lower := s.rf Addr.HDL_SHCFG Fl.HDL_SHCFG_SPOS == 0
  let nm := s.rf Addr.HDL_SHCFG Fl.HDL_SHCFG_IMGMISS
  let st := 65536 * h.miss + (match h.nrec with | some r => 256 * getF (r.getD 0 0) ⟨16, 8⟩ | none => 0) + b2n h.nval
  let s := (s.pub Addr.HDL_NSTAT (wN st)).pubF Addr.HDL_STAT Fl.HDL_STAT_NMISS (b2n (!h.nval))
  let s := match h.nrec with
    | none => s.inhibitTo (decide (h.miss ≥ nm))
    | some r =>
      let w (k : Nat) : Word := r.getD k 0
      let nat (k : Nat) : Int := (w k).toNat
      let np := sW (w 1) + s.rs Addr.HDL_SOFS
      let nv := sW (w 2)
      let gap0 := if lower then (np - nat 6) - (h.p + s.hN Addr.HDL_TOP) else (h.p - s.hN Addr.HDL_BOT) - (np + nat 5)
      let nTow := if lower then decide (nv < 0) else decide (nv > 0)
      let an := if nTow then divUp (nv.natAbs * (h.miss + 2) * s.ncyc) 200000000 else 0
      let own := s.shToward
      let eo : Int := if own then h.dstop else 0
      let en : Int := (if nTow then nat 3 else 0) + an
      let gs := gap0 - eo - en
      let gt := gap0 - (if own then (h.demg : Int) else 0) - ((if nTow then nat 4 else 0) + an)
      let sep := s.hN Addr.HDL_SEP
      let s := s.modHdl (fun x => { x with gshaft := gs })
      let s := ((s.pub Addr.HDL_NPOS (wI np)).pub Addr.HDL_NVG (wI nv)).pub Addr.HDL_NDSTOP (w 3)
      let s := (s.pub Addr.HDL_GSHAFT (wI (satS 32 gs))).pub Addr.HDL_GTRIP (wI (satS 32 gt))
      let s := if own && decide (gs ≤ sep) then s.hdlCause 10 0x95 0 1 false else s
      let s := if (own && decide (gt ≤ 0)) || decide (gap0 ≤ 0) then s.hdlCause 14 0x96 0 3 true else s
      let e := s.escStep s.hdl.es gs
      let s := s.modHdl (fun x => { x with es := e.1 })
      let s := (if e.2 then s.escTrip 2 else s).escShow
      s.inhibitTo (decide (gap0 - s.hN Addr.HDL_MARGIN - en ≤ sep + s.hN Addr.HDL_SGAP) || decide (h.miss ≥ nm))
  s.shMissing

/-! ### Trip clear, boundary, commit -/

/-- Do the conditions of TRIPCLR hold (R384)? -/
def State.tripClrOk (s : State) : Bool :=
  s.hdl.gst == 4 && s.rf (Addr.FB_SPD 0) Fl.FB_SPD_EST == 0 && s.mode != .RUN

/-- TRIPCLR at its boundary. -/
def State.tripClr (s : State) : State :=
  if s.tripClrOk then (s.gstTo 1).modHdl (fun h => { h with trip := false, armN := 0 }) else s

/-- The guard reports its state. -/
def State.hdlShow (s : State) : State := if s.hasUnit 1 then s.wf Addr.HDL_STAT Fl.HDL_STAT_GSTATE s.hdl.gst else s

/-- No SHAFT_CHK runs: no start inhibit holds and no neighbour record is judged (R374, R388; log entry 179). -/
def State.shaftNone (s : State) : State :=
  let a := Addr.HDL_STAT
  let s := if s.flag a Fl.HDL_STAT_INHIBIT then (s.wf a Fl.HDL_STAT_INHIBIT 0).irq 15 3 else s
  (s.wf a Fl.HDL_STAT_NMISS 0).wf Addr.HDL_NSTAT Fl.HDL_NSTAT_NVALID 0

/-- At a boundary: without a running schedule that holds guard slots the guard is OFF (R356, R385). -/
def State.hdlBoundary (s : State) : State :=
  let has (p : Slot → Bool) : Bool := match s.sch.active with | some sh => sh.slots.any (fun x => x.unit == 0x0A && p x) | none => false
  let slots := has (fun _ => true)
  let s := if s.hasUnit 1 && !(s.running && has (fun x => x.op == 4)) then s.shaftNone else s
  if s.hasUnit 1 && !(s.running && slots) then ((s.gstTo 0).modHdl (fun h => { h with judged := false, land := none })).hdlShow else s

/-- At a commit: the landing table and DECKH of this frame serve the next (R359). -/
def State.hdlCommit (s : State) : State :=
  if s.hasUnit 1 then let l := (s.stp.la, s.deckh); (s.modHdl (fun h => { h with land := some l })).hdlShow else s

end Sys2Proof.Machine
end

