-- ==== Sys2Proof/Machine/Faults.lean ====
section
/-! DEFINITION. Faults (R594–R611): capture, active list, emergency messages, coalescing, responses, handling; and `settle`,
which answers at the end of every command what the command raised. -/

namespace Sys2Proof.Machine

def State.modFlt (s : State) (f : FltS → FltS) : State := { s with flt := f s.flt }
def State.modCia (s : State) (f : CiaS → CiaS) : State := { s with cia := f s.cia }

/-- Higher class first, then lower code, then lower source (R599). -/
def FaultEv.before (a b : FaultEv) : Bool :=
  decide (a.cls > b.cls) || (a.cls == b.cls && (decide (a.code < b.code) || (a.code == b.code && decide (a.src ≤ b.src))))

/-- A fault put in its place in a list in the order of R599. -/
def insFault (f : FaultEv) : List FaultEv → List FaultEv
  | [] => [f]
  | g :: t => if f.before g then f :: g :: t else g :: insFault f t

/-- Faults in the order of R599. -/
def sortFaults (l : List FaultEv) : List FaultEv := l.foldr insFault []

/-! ### Conditions and the active list (R604) -/

/-- Does the condition of a listed fault hold: is it shown in an RO status bit (R604)? -/
def State.holds (s : State) (f : FaultEv) : Bool :=
  let n := f.src
  match f.code with
  | 0x11 => s.flag Addr.SCH_STAT Fl.SCH_STAT_OVR
  | 0x37 => s.flag (Addr.FB_STAT n) Fl.FB_STAT_TOUT
  | 0x38 => s.flag (Addr.FB_STAT n) Fl.FB_STAT_ZFLT
  | 0x39 => s.flag (Addr.FB_STAT n) Fl.FB_STAT_POSSAT
  | 0x43 => s.flag (Addr.AX_STAT n) Fl.AX_STAT_POSLOST
  | 0x46 => s.rf (Addr.AX_HSTAT n) Fl.AX_HSTAT_CHNEG != 0
  | 0x51 => s.flag Addr.THR_STAT Fl.THR_STAT_LSMM
  | 0x52 => bitOf (s.mw (thrC n)).toNat 8 && s.flag Addr.THR_STAT Fl.THR_STAT_PLF
  | 0x61 => s.flag (Addr.AX_DSTAT n) Fl.AX_DSTAT_BRGOFF
  | 0x74 => s.flag Addr.STP_STAT Fl.STP_STAT_TBLBAD
  | 0x81 => s.flag Addr.BID_STAT Fl.BID_STAT_DUPCAR
  | 0x85 => s.flag Addr.BID_STAT Fl.BID_STAT_ALONE
  | 0xA3 => s.fstat Fl.FIO_STAT_TAPD && bitOf s.fio.tapL (n - 24)
  | 0xA4 => s.fstat Fl.FIO_STAT_UVW
  | 0xA5 => s.fstat Fl.FIO_STAT_UVF
  | 0xA6 => s.fstat Fl.FIO_STAT_FLOST
  | 0xB1 => bitOf (s.rf Addr.NRG_STAT Fl.NRG_STAT_STK) n
  | 0xC2 => s.flag (Addr.CAN_STAT n) Fl.CAN_STAT_BOFF
  | 0xC6 => s.flag (Addr.CAN_STAT n) Fl.CAN_STAT_CFGERR
  | 0xD1 => !s.pst Fl.PAIR_STAT_LINKOK
  | 0xD2 => s.role == 2 && !s.pst Fl.PAIR_STAT_SYNC
  | 0xD3 => s.pst Fl.PAIR_STAT_DISCORD
  | 0xD6 => s.pst Fl.PAIR_STAT_SHEAFDIF
  | 0xD8 => s.pst Fl.PAIR_STAT_POSDIF
  | 0xD9 => s.pst Fl.PAIR_STAT_SIDEERR
  | 0xE3 => s.rstat Fl.REC_STAT_VOLONLY
  | 0xF1 => s.flag Addr.PWR_SUP Fl.PWR_SUP_PFW
  | 0xF2 => !bitOf (s.rf Addr.PWR_SUP Fl.PWR_SUP_OK) n
  | 0xF5 => s.flag Addr.PWR_BOOT Fl.PWR_BOOT_NONE
  | _ => false

/-- Is some fault active (R604)? -/
def State.faultActive (s : State) : Bool := !s.flt.act.isEmpty || s.flag Addr.FLT_STAT Fl.FLT_STAT_ACTOVF

/-- Does a listed fault of stop or trip class hold (R672, R673)? -/
def State.stopHolds (s : State) : Bool := s.flt.act.any (fun f => decide (f.cls ≥ 2) && s.holds f)

/-- List a fault of degraded class or higher. -/
def State.listFault (s : State) (f : FaultEv) : State :=
  if f.cls = 0 ∨ s.flt.act.any (fun g => g.code == f.code && g.src == f.src) then s
  else if s.flt.act.length < 16 then s.modFlt (fun x => { x with act := x.act ++ [f] })
  else if s.flag Addr.FLT_STAT Fl.FLT_STAT_ACTOVF then s
  else (s.wf Addr.FLT_STAT Fl.FLT_STAT_ACTOVF 1).irq 0 6

/-- ACK (R604). -/
def State.faultAck (s : State) : State :=
  let had := !s.flt.act.isEmpty
  let l := s.flt.act.filter s.holds
  let s := (s.modFlt (fun x => { x with act := l })).wf Addr.FLT_STAT Fl.FLT_STAT_ACTOVF 0
  if had && l.isEmpty then s.irq 0 7 else s

/-! ### Capture (R598–R600) -/

/-- Capture a raise. -/
def State.capture (s : State) (f : FaultEv) : State :=
  let w := wN (f.code * 2 ^ 24 + f.src % 256 * 65536 + f.cls)
  let frm := s.frm
  let s :=
    if s.flag Addr.FLT_STAT Fl.FLT_STAT_FVALID then
      if s.flag Addr.FLT_STAT Fl.FLT_STAT_MULTI then s else (s.wf Addr.FLT_STAT Fl.FLT_STAT_MULTI 1).irq 0 5
    else
      let s := ((s.wf Addr.FLT_STAT Fl.FLT_STAT_FVALID 1).wr Addr.FLT_FIRST w).irq 0 0
      s.modFlt (fun x => { x with ffrm := frm })
  let s := (s.wr Addr.FLT_LAST w).modFlt (fun x => { x with lfrm := frm })
  (s.bump Addr.FLT_COUNT ⟨0, 32⟩).irq 0 (1 + f.cls)

/-- REARM (R600). -/
def State.faultRearm (s : State) : State :=
  let s := (s.wf Addr.FLT_STAT Fl.FLT_STAT_FVALID 0).wf Addr.FLT_STAT Fl.FLT_STAT_MULTI 0
  let s := (((s.wr Addr.FLT_FIRST 0).wr Addr.FLT_LAST 0).wr Addr.FLT_COUNT 0).wr Addr.FLT_FFRM_HI 0
  (s.wr Addr.FLT_LFRM_HI 0).modFlt (fun x => { x with ffrm := 0, lfrm := 0 })

/-! ### Emergency messages (R521–R524) -/

/-- The error register 0x1001 (R523). -/
def State.errReg (s : State) : Nat :=
  let can (f : Fld) : Bool := s.canStat 0 f || s.canStat 1 f
  b2n s.faultActive + 4 * b2n (s.fstat Fl.FIO_STAT_UVW || s.fstat Fl.FIO_STAT_UVF || s.rf Addr.PWR_SUP Fl.PWR_SUP_OK != 7) +
    16 * b2n (can Fl.CAN_STAT_EPASS || can Fl.CAN_STAT_BOFF) + 128 * b2n s.hdl.trip

/-- Produce an EMCY message; a code of 0 makes a reset message. -/
def State.emcy (s : State) (f : FaultEv) : State :=
  let err := match f.code with | 0 => 0 | 0xA5 => 0x3000 | 0xC2 => 0x8100 | 0xC6 => 0x8100 | c => 0xFF00 + c
  let e : Emcy := ⟨err, f.code, f.src % 256, f.cls, s.frm % 65536, s.errReg⟩
  s.modCia (fun c =>
    { c with
      emq := if c.emq.length < 8 then c.emq ++ [e] else c.emq
      hist := if f.code = 0 then c.hist else (e :: c.hist).take 8 })

/-! ### The gleaner (R606–R611) -/

def GEnt.code (e : GEnt) : Nat :=
  match e.st with | .holdoff => 1 | .pending => 2 | .sent => 3 | .suppressed => 4 | .heard => 5 | .local => 6

/-- GWIN in fabric cycles. -/
def State.gwin (s : State) : Nat := s.rf Addr.FLT_GCFG Fl.FLT_GCFG_GWIN * 1000000

/-- Do the CANB conditions of R606 hold? -/
def State.gleanBus (s : State) : Bool := (s.canS 1).effEn && s.canCfg 1 Fl.CAN_CFG_GRP == 1

/-- Is a fault reportable (R606)? -/
def State.reportable (s : State) (f : FaultEv) : Bool :=
  s.flag Addr.FLT_GCFG Fl.FLT_GCFG_GEN && s.gleanBus && decide (f.cls ≥ s.rf Addr.FLT_GCFG Fl.FLT_GCFG_GMIN) &&
    bitOf (s.rd Addr.FLT_GMASK).toNat (f.code / 16) && (!s.standby || f.code / 16 == 2 || f.code / 16 == 0xD)

/-- The place of a key in the coalescing table. -/
def State.gFind (s : State) (key : Nat) : Option Nat :=
  s.flt.gtab.findIdx? (fun e => match e with | some g => g.key == key | none => false)

/-- The entry at a place. -/
def State.gEnt (s : State) (k : Nat) : Option GEnt := (s.flt.gtab.getD k none)

def State.modG (s : State) (k : Nat) (f : GEnt → GEnt) : State :=
  s.modFlt (fun x => { x with gtab := x.gtab.modify k (fun e => e.map f) })

def State.freeG (s : State) (k : Nat) : State := s.modFlt (fun x => { x with gtab := x.gtab.set k none })

/-- Open an entry at the first free place; none when no place is free. -/
def State.gOpen (s : State) (e : GEnt) : Option State :=
  (s.flt.gtab.findIdx? (fun x => x.isNone)).map (fun k => s.modFlt (fun x => { x with gtab := x.gtab.set k (some e) }))

/-- An own raise in the gleaner; the answer says whether a FAULT record is due (R609, R611, R631). -/
def State.gleanRaise (s : State) (f : FaultEv) : Bool × State :=
  let key := f.code * 256 + f.src % 256
  match s.gFind key with
  | some k => (false, s.modG k (fun e => { e with own := e.own + 1 }))
  | none =>
    let rep := s.reportable f
    let h := (s.rf Addr.FLT_GCFG Fl.FLT_GCFG_GID + key) % (s.rf Addr.FLT_GCFG Fl.FLT_GCFG_HMAX + 1)
    match s.gOpen ⟨key, if rep then .holdoff else .local, 1, 0, f.cls, s.frm, max 1 h, s.now + s.gwin, false, 0⟩ with
    | some s => (true, s)
    | none => (true, s.wf Addr.FLT_STAT Fl.FLT_STAT_GOVF 1)

/-- A report of a key heard on CANB (R608, R609); one that waits for the report buffer is removed with those in it. -/
def State.gleanHeard (s : State) (f : CanFrm) : State :=
  if s.canCfg 1 Fl.CAN_CFG_GRP = 1 ∧ f.ide = true ∧ f.id / 2 ^ 26 % 8 = 6 then
    let key := f.id / 2 ^ 10 % 65536
    let s := s.bump Addr.FLT_GCNT Fl.FLT_GCNT_HEARD
    match s.gFind key with
    | some k =>
      let ends (e : GEnt) : Bool := decide (e.st = .holdoff) || (decide (e.st = .pending) && !e.buf)
      let sup : Bool := match s.gEnt k with | some e => ends e | none => false
      let s := s.modG k (fun e => { e with heard := e.heard + 1, st := if ends e then .suppressed else e.st })
      if sup then s.bump Addr.FLT_GCNT Fl.FLT_GCNT_SUPP else s
    | none => (s.gOpen ⟨key, .heard, 0, 1, 0, s.frm, 0, s.now + s.gwin, false, 0⟩).getD s
  else s

/-- The report of an entry (R607); the bit-rate switch follows the declared objects of CANB. -/
def State.gReport (s : State) (e : GEnt) : CanFrm :=
  { id := 6 * 2 ^ 26 + e.key * 2 ^ 10 + s.rf Addr.FLT_GCFG Fl.FLT_GCFG_GID
    ide := true, fdf := true, brs := (s.recsOf (canTyp 1 1)).any oBrs, esi := false, dlc := 8
    data := [e.key / 256, e.key % 256, e.cls + 16 * (s.id.variant.units / 2 ^ 28), 0] ++ leBytes 2 (min 65535 e.stg) ++ leBytes 2 e.frm0
    ts := 0, rtr := false }

/-- HOLD_OFF_END at a place: the hold-off has run out and the report is staged (R609, R610). -/
def State.holdOffEnd (s : State) (k : Nat) : State :=
  match s.gEnt k with
  | some e => if e.st = .holdoff ∧ e.hold = 0 then s.modG k (fun e => { e with st := .pending, stg := e.own }) else s
  | none => s

/-- A frame boundary in the gleaner (R610). -/
def State.gleanBoundary (s : State) : State :=
  (List.range 16).foldl (fun s k => (s.modG k (fun e => { e with hold := e.hold - 1 })).holdOffEnd k) s

/-- An entry closes (R609, R631). -/
def State.gClose (s : State) (k : Nat) (e : GEnt) : State :=
  let s := if decide (e.own > 1) || (decide (e.own ≥ 1) && decide (e.heard ≥ 1)) then
      s.record 2 (e.key / 256) (e.key % 256) 0 (min 65535 e.own + 65536 * min 65535 e.heard) e.code 0
    else s
  s.freeG k

/-- WINDOW_END at a place (R609). -/
def State.windowEnd (s : State) (k cyc : Nat) : State :=
  let s := s.at cyc
  match s.gEnt k with
  | some e => if decide (s.now ≥ e.wend) && decide (e.st ≠ .pending) then s.gClose k e else s
  | none => s

/-- REPORT_DROP at a place (R611). -/
def State.reportDrop (s : State) (k cyc : Nat) : State :=
  let s := s.at cyc
  match s.gEnt k with
  | some e =>
    if e.st = .pending ∧ s.now ≥ e.wend + s.gwin then
      let s := if e.buf then s.txCancel 1 128 else s
      (s.bump Addr.FLT_GCNT Fl.FLT_GCNT_DROP).gClose k { e with st := .suppressed }
    else s
  | none => s

/-- The report buffer of CANB: a report that has left it is SENT or was removed (R609), and the next one goes in. -/
def State.gleanBuf (s : State) : State :=
  let o := (s.canS 1).txO 128
  if o.st ≠ 0 then s
  else
    let s := (List.range 16).foldl (fun s k =>
      match s.gEnt k with
      | some e =>
        if e.buf = true ∧ e.st = .pending then
          if o.res = 1 ∨ o.res = 3 then (s.modG k (fun e => { e with st := .sent, buf := false })).bump Addr.FLT_GCNT Fl.FLT_GCNT_SENT
          else (s.modG k (fun e => { e with st := .suppressed, buf := false })).bump Addr.FLT_GCNT Fl.FLT_GCNT_SUPP
        else s
      | none => s) s
    match s.flt.gtab.findIdx? (fun x => match x with | some e => decide (e.st = .pending) | none => false) with
    | none => s
    | some k =>
      match s.gEnt k with
      | some e => (s.txPut 1 128 (s.gReport e) false false 0).modG k (fun e => { e with buf := true })
      | none => s

/-! ### Responses and handling (R595–R597, R601–R603) -/

/-- Open safety pairs by their fault-response gate; their arm latches clear (R596). -/
def State.openPairs (s : State) (m : Nat) : State :=
  s.modFio (fun f =>
    let f := if bitOf m 0 then f.disarm 0 else f
    let f := if bitOf m 1 then f.disarm 1 else f
    { f with fgate := f.fgate ||| m })

/-- Standstill (R595). -/
def State.atStandstill (s : State) : Bool :=
  (List.range 6).all (fun n =>
    !s.hasAx n || s.axDrive n == 0 ||
      (s.rf (Addr.AX_STAT n) Fl.AX_STAT_MSTATE == 0 && (!s.axFeedback n || s.rf (Addr.FB_SPD n) Fl.FB_SPD_EST == 0)))

/-- Does a fault describe mirrored content, so that a WAIT or STANDBY module takes no response (R605)? -/
def State.mirrored (s : State) (f : FaultEv) : Bool :=
  let g := f.code / 16
  s.standby && (g == 4 || g == 6 || g == 7 || g == 8 || g == 9 || (g == 5 && f.code != 0x51))

/-- The module response of a fault of stop or trip class (R595, R597, R602). -/
def State.respond (s : State) (f : FaultEv) : State :=
  if f.cls < 2 ∨ s.mirrored f = true then s
  else
    let s := match s.mode with
      | .READY | .RUN | .HOLD => if s.standby then s else s.modFlt (fun x => { x with fltDue := true })
      | _ => s
    if f.cls ≤ s.flt.hcls then s
    else
      let t := s.now
      let s := s.immStopAll
      if f.cls = 3 then (s.openPairs 3).modFlt (fun x => { x with hcls := 3, hT := t, hSel := 0 })
      else
        let sel := s.rf Addr.FLT_RCFG Fl.FLT_RCFG_SOPA + 2 * s.rf Addr.FLT_RCFG Fl.FLT_RCFG_SOPB
        s.modFlt (fun x => { x with hcls := 2, hT := t, hSel := sel })

/-- A safety channel is settled in a trip handling (R601). -/
def State.chanSettled (s : State) (i : Nat) : Bool :=
  bitOf s.fio.a9 i ||
    (match s.flt.zAt.getD i none with
     | some t => decide (s.now ≥ max t s.flt.hT + s.rf Addr.FIO_OCFG Fl.FIO_OCFG_ORBT * 2000)
     | none => false)

/-- The handling in progress goes on: pairs open at standstill or when SDLY has run out, and it ends (R595, R601). -/
def State.handling (s : State) : State :=
  match s.flt.hcls with
  | 0 => s
  | 2 =>
    let still := s.atStandstill
    let beyond := decide (s.now ≥ s.flt.hT + s.rf Addr.FLT_RCFG Fl.FLT_RCFG_SDLY * 2000000)
    let s := if still || beyond then (s.openPairs s.flt.hSel).modFlt (fun x => { x with hSel := 0 }) else s
    if still then s.modFlt (fun x => { x with hcls := 0 }) else s
  | _ => if (List.range 4).all s.chanSettled then s.modFlt (fun x => { x with hcls := 0 }) else s

/-- Note since when each safety channel reads back 0 (R601). -/
def State.zeroTimes (s : State) : State :=
  let rb := s.readback
  let t := s.now
  s.modFlt (fun x =>
    { x with zAt := (List.range 4).map (fun i => if bitOf rb (16 + i) then none else some ((x.zAt.getD i none).getD t)) })

/-! ### Answering a command's raises -/

/-- One raise: capture, list, EMCY, response, record, flush (R595, R598, R604, R609, R631, R638). -/
def State.answer (s : State) (f : FaultEv) : State :=
  let s := (s.capture f).listFault f
  let s := if f.cls ≥ 1 then s.emcy f else s
  let s := s.respond f
  let (rec_, s) := s.gleanRaise f
  let s := if rec_ then
      s.record 1 f.code (f.src % 256) f.cls (s.rd Addr.FLT_COUNT).toNat (s.mode.code + 256 * s.flt.hcls + 1024 * b2n (s.flt.hcls != 0)) 0
    else s
  if f.cls ≥ 2 then s.startFlush else s

/-- Answer what was raised, and what the answers raise. -/
def State.answerAll (s : State) : Nat → State
  | 0 => { s with raised := [] }
  | n + 1 =>
    match s.raised with
    | [] => s
    | l => ((sortFaults l).foldl State.answer { s with raised := [] }).answerAll n

/-- The end of every command: faults answered, records numbered, report buffer, handling, claim, field island. -/
def State.settle (s : State) : State :=
  let s := (s.answerAll 4).numberRecs
  let s := (s.answerAll 4).numberRecs
  let s := s.gleanBuf.handling
  let s := if s.cia.act && !s.faultActive then s.emcy ⟨0, 0, 0⟩ else s
  let a := s.faultActive
  let s := s.modCia (fun c => { c with act := a })
  let s := { s with raised := [], rcd := { s.rcd with queue := [] } }
  s.claimUpd.fioEval.zeroTimes

end Sys2Proof.Machine
end

