-- ==== Sys2Proof/Machine/Bids.lean ====
section
/-! DEFINITION. Group dispatch by arbitration (chapter 08, R315–R350): the open-call table, cost, auction, binding,
reallocation, presence, a lone car. -/

namespace Sys2Proof.Machine

def State.modEnt (s : State) (k : Nat) (f : BidE → BidE) : State :=
  s.modBid (fun c => match aget c.tab k with | some e => { c with tab := aput c.tab k (f e) } | none => c)

def State.freeEnt (s : State) (k : Nat) : State := s.modBid (fun c => { c with tab := adel c.tab k })

def State.car (s : State) : Nat := s.rf Addr.BID_CFG Fl.BID_CFG_CAR
def State.alone (s : State) : Bool := s.canStat 1 Fl.CAN_STAT_ALONE
def State.dupcar (s : State) : Bool := s.flag Addr.BID_STAT Fl.BID_STAT_DUPCAR

/-- Tenths of a second and status periods in fabric cycles. -/
def tenth : Nat := 20000000
def State.tstat (s : State) : Nat := 200000 * s.rf Addr.BID_ALIVE Fl.BID_ALIVE_TSTAT

/-- Further fields of an identity word (R294, R335). -/
def idPax (w : Nat) : Nat := w / 2 ^ 22 % 64
def idDland (w : Nat) : Nat := w / 2 ^ 14 % 256

/-- An identity word without its class. -/
def idClean (w : Nat) : Nat := w % 2 ^ 32 - (w / 2 ^ 10 % 8) * 2 ^ 10

/-- Passengers PX of a call (R317). -/
def idPx (w : Nat) : Nat := if idType w = 3 then idPax w else 1

/-- AGE at the present moment (R326). -/
def BidE.age (e : BidE) (now : Nat) : Nat := min 65535 (e.age0 + (now - e.t0) / tenth)

/-- The entry that holds a SEQ. -/
def BidC.bySeq (c : BidC) (seq : Nat) : Option (Nat × BidE) := c.tab.find? (fun p => p.2.seq == seq)

def BidC.hasId (c : BidC) (w : Nat) : Bool := c.tab.any (fun p => p.2.idw == idClean w)

/-- The lowest FREE entry. -/
def BidC.freeK (c : BidC) : Option Nat := (List.range 192).find? (fun k => (aget c.tab k).isNone)

/-! ### Eligibility (R317) -/

/-- The module's conditions, apart from ALONE. -/
def State.modElig (s : State) : Bool :=
  let c := s.stp.w.cst
  decide (s.mode = .RUN) && 1 ≤ c && c ≤ 6 && !s.flag Addr.STP_STAT Fl.STP_STAT_TBLBAD && !s.dupcar

/-- A call's own conditions. -/
def State.callElig (s : State) (w : Nat) : Bool :=
  let t := s.stp.la
  let m := s.cmode
  let typ := match idType w with
    | 1 => m == 0
    | 2 => m != 2
    | 3 => m == 2 && idPax w != 0 && idDland w != idEntry w / 4 && t.open_ (recEnd w)
    | _ => false
  let cap := s.rf Addr.BID_COST2 Fl.BID_COST2_CAPAX
  t.open_ (idEntry w) && typ && (cap == 0 || decide (s.stp.w.load + idPx w ≤ cap))

def State.elig (s : State) (w : Nat) : Bool := s.modElig && !s.alone && s.callElig w

/-! ### Cost (R327–R330) -/

def div32 (a b : Fv) : Fv := fvDiv rnd32 a b

/-- The square root, with a sticky digit before the one rounding. -/
def sqrt32 (a : Fv) : Fv :=
  match a with
  | .fin false m e =>
    let odd := e % 2 ≠ 0
    let m := if odd then 2 * m else m
    let e := if odd then e - 1 else e
    let q := isqrt (m <<< 64)
    rnd32 false (2 * q + (if q * q = m <<< 64 then 0 else 1)) (e / 2 - 33)
  | .fin true 0 _ => a
  | .inf false => a
  | _ => .nan

/-- t_run of R328 for a way in µm. -/
def State.tRun (s : State) (d : Int) : Fv :=
  let V := int32 (s.rd (Addr.AX_VRUN 0)).toNat
  let A := int32 (s.rd (Addr.AX_ARUN 0)).toNat
  let x := int32 d.natAbs
  if fvLe (div32 (mul32 V V) A) x then add32 (div32 x V) (div32 V A) else mul32 (int32 2) (sqrt32 (div32 x A))

/-- A route under way: place, last stop, time so far, energy sum in mWh/m·µm. -/
structure Route where
  x    : Int
  last : Int
  t    : Fv
  e    : Int
deriving DecidableEq, Repr

/-- A run to a place. -/
def State.routeRun (s : State) (r : Route) (p : Int) (stop : Bool) : Route :=
  let c1 := s.rd Addr.BID_COST1
  let sec (n : Nat) : Fv := div32 (int32 n) (int32 10)
  let t := add32 r.t (s.tRun (p - r.last))
  let t := if stop then add32 t (sec (getF c1 Fl.BID_COST1_TDOOR)) else t
  let co := if p ≥ r.last then s.rs Addr.BID_EUP else s.rs Addr.BID_EDN
  { r with last := p, t := add32 t (sec (getF c1 Fl.BID_COST1_TOVH)), e := r.e + co * (p - r.last).natAbs }

/-- The legs of R328: stops with their level positions and demands, the call's place and direction. -/
def State.routeLegs (s : State) (stops : List (StopId × Int)) (lc : Int) (dc : Nat) : Nat → Bool → Nat → Route → Route
  | 0, _, _, r => s.routeRun r lc false
  | n + 1, first, dir, r =>
    let g : Int := if dir = 2 then -1 else 1
    let lim := if first && (s.axS 0).mot != .idle then s.stpRT else 0
    let on := dir == dc && decide ((lc - r.x) * g * sc ≥ lim)
    let ahead := (stops.filter (fun p => decide ((p.2 - r.x) * g > 0))).mergeSort (fun a b => decide (a.2 * g ≤ b.2 * g))
    let dem (p : StopId) : Bool := (s.stopEntries p).any (fun e => s.stp.w.flags e != 0)
    let turn := match (ahead.filter (fun p => dem p.1)).getLast? with | some p => p.2 | none => r.x
    let turn := if !on && dc != dir && decide ((lc - turn) * g > 0) then lc else turn
    let demDir (p : StopId) : Bool := (s.stopEntries p).any (fun e => s.demandsDir dir e (s.stp.w.flags e))
    let halts := ahead.filter (fun p => (demDir p.1 || (p.2 == turn && dem p.1)) && (!on || decide ((lc - p.2) * g > 0)))
    let r := halts.foldl (fun r p => s.routeRun r p.2 true) r
    if on then s.routeRun r lc false
    else s.routeLegs stops lc dc n false (3 - dir) { r with x := turn }

/-- T_serve in 0.1 s and the energy sum of a call. -/
def State.serveTime (s : State) (w : Nat) : Nat × Int :=
  let e := idEntry w
  let lc := s.stp.la.sp s.deckh (e / 2 % 2) (e / 4)
  let dc := match idType w with | 1 => 1 | 2 => 2 | _ => if idDland w > e / 4 then 1 else 2
  let p := s.stpP
  let d0 := if s.stp.w.dir = 0 then (if lc ≥ p then 1 else 2) else s.stp.w.dir
  let stops := s.allStops.map (fun q => (q, s.levelOf q))
  let r := s.routeLegs stops lc dc 3 true d0 ⟨p, p, Fv.zero, 0⟩
  let t := match r.t with
    | .fin false m e => if e ≥ 0 then 10 * m * 2 ^ e.toNat else (20 * m + 2 ^ (-e).toNat) / (2 * 2 ^ (-e).toNat)
    | .fin true _ _ => 0
    | _ => 0xFFFFE
  (t, r.e)

/-- Cost, T_serve and E_term of a call for the own car (R327). -/
def State.price (s : State) (w age : Nat) : Nat × Nat × Int :=
  if !s.elig w then (0xFFFFF, 0, 0)
  else
    let (t, en) := s.serveTime w
    let c2 := s.rd Addr.BID_COST2
    let beyond := age + t - getF c2 Fl.BID_COST2_TLONG
    let pw := getF c2 Fl.BID_COST2_WPW * idPx w * beyond / 16
    let nrg := match s.sch.active with | some sh => sh.slots.any (fun x => x.unit == 0x04) | none => false
    let et := if nrg then divNear ((s.rf Addr.BID_ENRG Fl.BID_ENRG_WE : Int) * en) 1000000000 else 0
    let v : Int := t + pw + et
    ((min (max v 0) 0xFFFFE).toNat, t, et)

/-- One run of AX0 of at least 1 m has ended (R331): its length in µm, signed, and its energy in mWh. -/
def State.runLearn (s : State) (d en : Int) : State :=
  if d.natAbs < 1000000 then s
  else
    let a := if d > 0 then Addr.BID_EUP else Addr.BID_EDN
    let e := s.rs a
    let den : Int := d.natAbs
    s.wr a (wI (satS 32 (e + (en * 1000000 - e * den) / (8 * den))))

/-! ### Group frames and records (R319, R321–R323) -/

/-- The frame of a received record (R319). -/
def recFrm (r : Word × Word × Word × Word) : CanFrm :=
  ⟨r.1.toNat % 2 ^ 29, true, true, false, false, 8, leBytes 4 r.2.2.1.toNat ++ leBytes 4 r.2.2.2.toNat, r.2.1.toNat, false⟩

/-- A record of R319 for a control frame. -/
def State.ctlRec (s : State) (kind seq flags inst lo hi : Nat) : Nat × Nat × Nat × Nat :=
  (kind * 2 ^ 22 + seq % 2 ^ 16 * 64 + s.car + flags * 2 ^ 29, inst % 2 ^ 32, lo % 2 ^ 32, hi % 2 ^ 32)

/-- Stage a record. -/
def State.bidOut (s : State) (r : Nat × Nat × Nat × Nat) : State := s.modBid (fun c => { c with out := c.out ++ [r] })

/-- ANNOUNCE. -/
def State.outAnnounce (s : State) (seq w age pcl round : Nat) (re : Bool) : State :=
  s.bidOut (s.ctlRec 1 seq 0 0 (idClean w) (min age 65535 + 65536 * (pcl + 8 * round + 32 * b2n re)))

/-- TICK, timed. -/
def State.outTick (s : State) (seq round inst : Nat) : State := s.bidOut (s.ctlRec 2 seq 2 inst 0 (65536 * (8 * round)))

/-- HOLD. -/
def State.outHold (s : State) (e : BidE) (cost : Nat) (cm : Bool) : State :=
  s.bidOut (s.ctlRec 3 e.seq 0 0 e.idw (cost + 2 ^ 23 * b2n cm + 2 ^ 24 * e.pcl + 2 ^ 27 * e.round))

/-- CLOSE. -/
def State.outClose (s : State) (e : BidE) : State := s.bidOut (s.ctlRec 4 e.seq 0 0 e.idw (65536 * (8 * e.round)))

/-- The landing nearest to the car. -/
def State.nearLand (s : State) : Nat :=
  let q := s.cs (Addr.FB_POS 0)
  (leastBy (fun k => ((s.stp.la.lvl k - q).natAbs : Int)) (List.range s.stp.la.n)).getD 0

/-- STATUS (R322). -/
def State.outStatus (s : State) : State :=
  let c := s.stp.w
  let held := (s.bid.w.tab.filter (fun p => p.2.mine && (p.2.st == 2 || p.2.st == 3))).length
  let el := s.modElig && !s.alone
  let lo := c.cst + 256 * c.dir + 65536 * s.nearLand
  let hi := held + 65536 * (b2n (decide (s.mode = .RUN)) + 2 * b2n el) + 2 ^ 24 * s.cmode
  let r := s.ctlRec 5 s.bid.w.stn 0 0 lo hi
  let t := s.now
  (s.bidOut r).modBid (fun c => { c with stn := (c.stn + 1) % 65536, stt := t })

/-- A bid or a re-bid (R323, R333, R341): `held` holds it for its TICK. -/
def State.outBid (s : State) (e : BidE) (re held : Bool) : State :=
  let inst := e.sof + s.rf Addr.BID_TIME Fl.BID_TIME_BIDDLY + s.rf Addr.BID_TIME Fl.BID_TIME_TICKTO
  let id := e.pcl * 2 ^ 26 + e.own * 64 + s.car + 2 ^ 29 * b2n held
  s.bidOut (id, inst % 2 ^ 32, e.seq + 65536 * (e.round + 4 * b2n re), min e.tsv 65535 + 65536 * enc 16 (satS 16 e.etm))

/-! ### Events of the table -/

/-- Does a staged record carry the bid, or the re-bid, of a SEQ and ROUND? -/
def isBidRec (seq round : Nat) (re : Bool) (r : Nat × Nat × Nat × Nat) : Bool :=
  match gfrmOf (recFrm (wN r.1, wN r.2.1, wN r.2.2.1, wN r.2.2.2)) with
  | some g => g.pcl != 0 && g.seq == seq && g.round == round && g.rebid == re
  | none => false

/-- A bid or re-bid that no longer qualifies is cancelled: what waits in BID is dropped, and the controller is asked for
the rest at the hand-off (R334, R341). -/
def State.cancelBid (s : State) (seq round : Nat) (re : Bool) : State :=
  s.modBid (fun c => { c with out := c.out.filter (fun r => !isBidRec seq round re r), canc := c.canc ++ [(seq, round, re)] })

/-- Cancel an entry's pending re-bid, if there is one. -/
def State.cancelRebid (s : State) (e : BidE) : State := if e.rebO then s.cancelBid e.seq e.round true else s

/-- Set a status bit of BID; its fault is raised when the bit rises (R347). -/
def State.bidFlag (s : State) (f : Fld) (code cls : Nat) : State :=
  let rise := !s.flag Addr.BID_STAT f
  (s.wf Addr.BID_STAT f 1).raiseIf rise code 0 cls

/-- The call operation that brings an award to the stop table, or takes it back (R336). -/
def State.pushAward (s : State) (w : Nat) : State :=
  let op := match idType w with | 1 => opWord 3 (idEntry w) | 2 => opWord 4 (idEntry w) | _ => 8 * 2 ^ 28 + w % 2 ^ 28
  s.modBid (fun c => { c with ops := c.ops ++ [op] })

def State.pushWithdraw (s : State) (w : Nat) : State :=
  match idType w with
  | 1 => s.modBid (fun c => { c with ops := c.ops ++ [opWord 5 (idEntry w)] })
  | 2 => s.modBid (fun c => { c with ops := c.ops ++ [opWord 6 (idEntry w)] })
  | _ => s

/-- The holder of an entry becomes a car (R325, R336, R341). -/
def State.holderTo (s : State) (k car cost : Nat) : State :=
  match aget s.bid.w.tab k with
  | none => s
  | some e =>
    let own := car == s.car
    let t := s.now
    let s := s.modEnt k (fun e =>
      { e with
        st := 2, hold := car, hcost := cost, cmt := false, tHold := t, mine := own, pubC := cost, pubT := t, pubK := false, new := false,
        live := e.live && own, bidO := false, rebO := false, rean := false, clsd := false, srv := e.srv && own, owed := false })
    let s := if own then s else s.cancelRebid e
    if own && !e.mine then s.pushAward e.idw else if !own && e.mine then s.pushWithdraw e.idw else s

/-- A fresh SEQ (R324). -/
def State.freshSeq (s : State) : Nat × State :=
  let c := s.bid.w
  let base := s.car * 1024
  let k := (((List.range 1024).map (fun i => (c.ctr + i) % 1024)).find? (fun n => (c.bySeq (base + n)).isNone)).getD c.ctr
  (base + k, s.modBid (fun c => { c with ctr := (k + 1) % 1024 }))

/-- Class of a hall-call word. -/
def State.wordClass (s : State) (w : Nat) : Nat := if w / 2 ^ 10 % 8 = 0 then s.rf Addr.BID_CFG Fl.BID_CFG_PDEF else w / 2 ^ 10 % 8

/-- A hall-call word (R332, R343). -/
def State.hallWord (s : State) (w : Nat) : State :=
  let w := w % 2 ^ 32
  let toQueue : State :=
    if s.bid.w.pq.length < 32 then s.modBid (fun c => { c with pq := c.pq ++ [w] }) else (s.bidFlag Fl.BID_STAT_PQFULL 0x86 0).sayI 14 7
  if !s.bidSends || idType w == 0 || s.bid.w.hasId w then s
  else
    match s.bid.w.freeK with
    | none => toQueue
    | some k =>
      if s.alone then
        if s.modElig && s.callElig w then
          let (seq, s) := s.freshSeq
          let car := s.car
          let t := s.now
          let pcl := s.wordClass w
          (s.modBid (fun c => { c with tab := aput c.tab k { BidE.init with st := 3, seq := seq, t0 := t, idw := idClean w, pcl := pcl, hold := car, mine := true, tHold := t } })).pushAward (idClean w)
        else toQueue
      else if s.dupcar then toQueue
      else
        let (seq, s) := s.freshSeq
        s.outAnnounce seq w 0 (s.wordClass w) 0 false

/-- An announcement opens an entry. -/
def State.openEnt (s : State) (k seq round w pcl age sof : Nat) : State :=
  let t := s.now
  s.modBid (fun c => { c with tab := aput c.tab k { BidE.init with st := 1, seq := seq, round := round, idw := idClean w, pcl := pcl, age0 := age, t0 := t, new := true, sof := sof } })

/-- A taken ANNOUNCE (R325, R333); the own announcement of a LOCAL entry opens it under its SEQ (R343). -/
def State.recAnnounce (s : State) (g : Grp) (f : CanFrm) (own : Bool) : State :=
  let b (k : Nat) : Nat := f.data.getD k 0 % 256
  let w := ofLE ((List.range 4).map b)
  let age := b 4 + 256 * b 5
  let pcl := b 6 % 8
  let re := bitOf (b 6) 5
  let c := s.bid.w
  let done (s : State) : State := if own then s.outTick g.seq g.round (f.ts + s.rf Addr.BID_TIME Fl.BID_TIME_BIDDLY) else s
  let fresh (known : Bool) : State :=
    if c.hasId w then s.bidFlag Fl.BID_STAT_IDDUP 0x87 0
    else match c.freeK with
      | none => if re then s else (s.bidFlag Fl.BID_STAT_TFULL 0x82 0).sayI 14 7
      | some k => if known then s else done (s.openEnt k g.seq g.round w pcl age f.ts)
  let reopen (k : Nat) (e : BidE) : State :=
    done ((s.cancelRebid e).modEnt k (fun _ => { e with st := 1, round := g.round, new := true, prcd := false, sof := f.ts, tick := false, bidO := false, rebO := false, noBid := e.mine && re, cmt := false, rean := false, clsd := false, srv := false, owed := false, hold := 0, hcost := 0 }))
  match c.bySeq g.seq with
  | some (k, e) =>
    if re then (if g.round = (e.round + 1) % 4 then reopen k e else s)
    else if own ∧ e.st = 3 then reopen k { e with round := g.round }
    else fresh true
  | none => fresh false

/-- A taken bid (R325, R341). -/
def State.recBid (s : State) (g : Grp) (f : CanFrm) : State :=
  let cost := f.id / 64 % 2 ^ 20
  let car := f.id % 64
  match s.bid.w.bySeq g.seq with
  | none => s
  | some (k, e) =>
    if e.round ≠ g.round then s
    else if !g.rebid then
      if e.st ≠ 1 then s
      else
        let s := if car = s.car then (s.bump Addr.BID_WON ⟨0, 32⟩).sayI 14 0 else if e.bidO then (s.bump Addr.BID_LOST ⟨0, 32⟩).sayI 14 1 else s
        s.holderTo k car cost
    else if e.st = 2 ∧ (cost : Int) ≤ (e.hcost : Int) - s.rf Addr.BID_RALL Fl.BID_RALL_RMARG ∧ e.cmt = false then
      let s := if car = s.car then (if e.mine then s else (s.bump Addr.BID_REALL Fl.BID_REALL_IN).sayI 14 2)
        else if e.mine then (s.bump Addr.BID_REALL Fl.BID_REALL_OUT).sayI 14 2 else s
      s.holderTo k car cost
    else s

/-- A taken HOLD (R325). -/
def State.recHold (s : State) (g : Grp) (f : CanFrm) : State :=
  let b (k : Nat) : Nat := f.data.getD k 0 % 256
  let w := ofLE ((List.range 4).map b)
  let h := ofLE ((List.range 4).map (fun k => b (4 + k)))
  let cost := h % 2 ^ 20
  let cm := bitOf h 23
  let round := h / 2 ^ 27 % 4
  let c := s.bid.w
  match c.bySeq g.seq with
  | some (k, e) => if e.round = round then s.modEnt k (fun e => { e with hcost := cost, cmt := cm }) else s
  | none =>
    if c.hasId w then s
    else match c.freeK with
      | none => s
      | some k =>
        let t := s.now
        s.modBid (fun c => { c with tab := aput c.tab k { BidE.init with st := 2, seq := g.seq, t0 := t, idw := idClean w, pcl := h / 2 ^ 24 % 8, round := round, cmt := cm, hcost := cost, hold := f.id % 64, tHold := t } })

/-- A taken CLOSE (R325, R336, R339). -/
def State.recClose (s : State) (g : Grp) : State :=
  match s.bid.w.bySeq g.seq with
  | some (k, e) =>
    if e.round = g.round then
      let s := if e.mine then s.pushWithdraw e.idw else s
      (s.cancelRebid e).freeEnt k
    else s
  | none => s

/-- A taken TICK: later bids of its call are late (R334). -/
def State.recTick (s : State) (g : Grp) : State :=
  match s.bid.w.bySeq g.seq with
  | some (k, e) => if e.round = g.round then s.modEnt k (fun e => { e with tick := true }) else s
  | none => s

/-- Cars present (R342): heard within ABSN × TSTAT. -/
def State.carPresent (s : State) (n : Nat) : Bool :=
  match aget s.bid.w.cars n with
  | some (t, _, _) => decide (s.now ≤ t + s.rf Addr.BID_ALIVE Fl.BID_ALIVE_ABSN * s.tstat)
  | none => false

/-- Is the own car the present eligible one with the lowest number, apart from a car that left? -/
def State.lowestElig (s : State) (gone : Nat) : Bool :=
  s.modElig && !s.alone &&
    !(s.bid.w.cars.any (fun p => decide (p.1 < s.car) && p.1 != gone && s.carPresent p.1 && p.2.2.2))

/-- Re-announce an entry (R340). -/
def State.reAnnounce (s : State) (k : Nat) (e : BidE) : State :=
  (s.outAnnounce e.seq e.idw (e.age s.now) e.pcl ((e.round + 1) % 4) true).modEnt k (fun e => { e with rean := true })

/-- The AWARDED entries of a car that left are re-announced (R342). -/
def State.reAnnounceCar (s : State) (n : Nat) : State :=
  if s.lowestElig n && !s.dupcar && !s.standby then
    (s.bid.w.tab.filter (fun p => p.2.st == 2 && p.2.hold == n && !p.2.rean)).foldl (fun s p => s.reAnnounce p.1 p.2) s
  else s

/-- A taken STATUS (R342). -/
def State.recStatus (s : State) (f : CanFrm) : State :=
  let b (k : Nat) : Nat := f.data.getD k 0 % 256
  let n := f.id % 64
  let t := s.now
  let s := s.modBid (fun c => { c with cars := aput c.cars n (t, bitOf (b 6) 0, bitOf (b 6) 1) })
  if bitOf (b 6) 0 then s else s.reAnnounceCar n

/-- A car unheard is absent (R342). -/
def State.carAbsent (s : State) (n : Nat) : State :=
  if s.bidPart && (aget s.bid.w.cars n).isSome && !s.carPresent n then
    ((s.modBid (fun c => { c with cars := adel c.cars n })).raise 0x84 n 0).reAnnounceCar n
  else s

/-- A group frame that COST takes, received or own (R325, R345); an own re-bid counts as sent (R341). -/
def State.takeGroup (s : State) (f : CanFrm) (own : Bool) : State :=
  match gfrmOf f with
  | none => s
  | some g =>
    let s := if !own && !s.standby && f.id % 64 == s.car then
        let rise := !s.dupcar
        (((s.wf Addr.BID_STAT Fl.BID_STAT_DUPCAR 1).raiseIf rise 0x81 0 1).sayI 14 4).modBid (fun c => { c with canc := c.canc ++ [(0x10001, 0, false)] })
      else s
    if g.pcl ≠ 0 then
      let t := s.now
      let s := if own && g.rebid then s.modBid (fun c => { c with rbt := t :: c.rbt.filter (fun x => decide (t < x + 200000000)) }) else s
      s.recBid g f
    else match g.kind with
      | 1 => s.recAnnounce g f own
      | 2 => s.recTick g
      | 3 => s.recHold g f
      | 4 => s.recClose g
      | 5 => s.recStatus f
      | _ => s

/-- A row's frame: taken when BID takes part. -/
def State.takeRow (s : State) (f : CanFrm) (own : Bool) : State := if s.bidPart then s.takeGroup f own else s

/-! ### The slots (R318, R333) -/

/-- Entries that COST prices in a frame: those just opened, then the rotation, at most n. -/
def BidC.toPrice (c : BidC) (n : Nat) : List Nat :=
  let new := (c.tab.filter (fun p => p.2.new)).map (·.1)
  let old := (c.tab.filter (fun p => !p.2.new)).map (·.1)
  (new ++ old.filter (fun k => decide (c.rot ≤ k)) ++ old.filter (fun k => decide (k < c.rot))).take n

/-- Price one entry. -/
def State.priceEnt (s : State) (k : Nat) : State :=
  match aget s.bid.w.tab k with
  | none => s
  | some e =>
    let (v, t, en) := s.price e.idw (e.age s.now)
    s.modEnt k (fun e => { e with own := v, tsv := t, etm := en, prcd := true })

/-- The four-word records of a popped list. -/
def quads : List Word → List (Word × Word × Word × Word)
  | a :: b :: c :: d :: t => (a, b, c, d) :: quads t
  | _ => []

/-- The records of a frame in their order, cars not heard any more, at most n entries priced (R318, R325, R342). -/
def State.costRecords (s : State) (ws : List Word) (n : Nat) : State :=
  let s := (quads ws).foldl (fun s r => if r.1 = 0xFFFFFFFF then s else s.takeGroup (recFrm r) (bitOf r.1.toNat 29)) s
  let s := (s.bid.w.cars.map (·.1)).foldl (fun s n => s.carAbsent n) s
  let ks := s.bid.w.toPrice n
  let s := ks.foldl (fun s k => s.priceEnt k) s
  s.modBid (fun c => { c with rot := match ks.getLast? with | some k => k + 1 | none => 0 })

/-- COST: the records, then the operations owed, padded with 0. -/
def State.bidCost (s : State) (sl : Slot) : State :=
  let kk := sl.arg / 256 % 256
  let r := s.popOpt sl.hin (4 * (sl.arg % 256))
  if !s.bidPart then r.2.push sl.hout (List.replicate kk 0)
  else
    let s := r.2.costRecords r.1 sl.n
    let ops := s.bid.w.ops.take kk
    let s := s.modBid (fun c => { c with ops := c.ops.drop kk })
    s.push sl.hout (ops.map wN ++ List.replicate (kk - ops.length) 0)

/-- Does the stop table hold the call of an entry? -/
def State.callIn (s : State) (w : Nat) : Bool :=
  match idType w with
  | 1 => bitOf (s.stp.w.flags (idEntry w)) 1
  | 2 => bitOf (s.stp.w.flags (idEntry w)) 2
  | _ => s.stp.w.recs.any (fun r => r.2.1 == 1 && r.2.2 % 2 ^ 28 == w % 2 ^ 28)

/-- Is the stop of an entry committed? -/
def State.callCommitted (s : State) (w : Nat) : Bool := s.committedEntries.contains (idEntry w)

/-- HOLD of an entry, with cost 0 and COMMIT once its stop is committed (R338); the entry takes them when the frame has been on the
bus (R325, R341). -/
def State.publish (s : State) (k : Nat) (e : BidE) (cm : Bool) : State :=
  let v := if cm then 0 else e.own
  let t := s.now
  (s.outHold e v cm).modEnt k (fun e => { e with pubC := v, pubT := t, pubK := cm, owed := false })

/-- Is a HOLD of a held entry due (R338): the cost has moved by HDELTA, STP commits, 50 × TSTAT have passed, or one that
was published did not go out? -/
def State.publishDue (s : State) (e : BidE) (cm : Bool) : Bool :=
  e.owed || decide (s.now ≥ e.pubT + 50 * s.tstat) ||
    (if cm then !e.pubK else decide (((e.own : Int) - e.pubC).natAbs ≥ s.rf Addr.BID_ALIVE Fl.BID_ALIVE_HDELTA))

/-- May BID send group frames other than STATUS (R343, R345)? -/
def State.mayPublish (s : State) : Bool := !s.alone && !s.dupcar

/-- What the holder of an entry does in a frame (R338–R340): a served call is closed; one whose car is no longer eligible, or
whose flag or record has left the stop table without service (log 147), is announced again; otherwise HOLD when it is due. A
served LOCAL entry is closed when its announcement is staged (R343), else only freed: no other module knows it. A lone car, or one with DUPCAR, keeps its entries and stages nothing for them (R343, R345). -/
def State.holdEnt (s : State) (k : Nat) : State :=
  match aget s.bid.w.tab k with
  | none => s
  | some e =>
    if !e.mine || e.st == 1 then s
    else
      let inT := s.callIn e.idw
      let cm := s.callCommitted e.idw
      let s := s.modEnt k (fun e => { e with live := e.live || inT })
      if e.st = 3 then
        if !e.srv then s
        else if !e.rean then s.freeEnt k
        else if e.clsd || !s.mayPublish then s
        else (s.outClose e).modEnt k (fun e => { e with clsd := true })
      else if !s.mayPublish || e.clsd then s
      else if e.srv then (s.outClose e).modEnt k (fun e => { e with clsd := true })
      else
        let s := if !cm && !e.rean && (!s.elig e.idw || (e.live && !inT)) then s.reAnnounce k e else s
        if s.publishDue e cm then s.publish k e cm else s

/-- HOLD is due for an entry although nothing changed (R338). -/
def State.holdDue (s : State) (k : Nat) : State :=
  match aget s.bid.w.tab k with
  | none => s
  | some e =>
    if s.bidSends && s.mayPublish && e.mine && e.st == 2 && !e.clsd && decide (s.now ≥ e.pubT + 50 * s.tstat) then
      s.publish k e (s.callCommitted e.idw)
    else s

/-- What a module that does not hold an entry does in a frame (R333, R334, R341). -/
def State.bidEnt (s : State) (k : Nat) : State :=
  match aget s.bid.w.tab k with
  | none => s
  | some e =>
    let el := s.elig e.idw
    let rall := s.rd Addr.BID_RALL
    let t := s.now
    if e.st = 1 then
      if e.bidO && !el then (s.modEnt k (fun e => { e with bidO := false })).cancelBid e.seq e.round false
      else if !e.new || !e.prcd then s
      else if e.own != 0xFFFFF && el && !e.noBid then
        let s := s.outBid e false (!e.tick)
        let s := if e.tick then s.bump Addr.BID_BLATE ⟨0, 32⟩ else s
        s.modEnt k (fun e => { e with new := false, bidO := true })
      else s.modEnt k (fun e => { e with new := false })
    else if e.st = 2 ∧ e.mine = false then
      let n := (s.bid.w.rbt.filter (fun x => decide (t < x + 200000000))).length
      let ok := el && decide ((e.own : Int) ≤ (e.hcost : Int) - getF rall Fl.BID_RALL_RMARG) && !e.cmt &&
        decide (t ≥ e.tHold + getF rall Fl.BID_RALL_RBHOLD * tenth) && idType e.idw != 3
      if e.rebO && !ok then (s.modEnt k (fun e => { e with rebO := false })).cancelBid e.seq e.round true
      else if !e.rebO && ok && decide (n < getF rall Fl.BID_RALL_RBMAX) then
        (s.outBid e true false).modEnt k (fun e => { e with rebO := true })
      else s
    else s

/-- STATUS when its period has passed (R342). -/
def State.statusDue (s : State) : State :=
  if s.bidSends && !s.dupcar && decide (s.now ≥ s.bid.w.stt + s.tstat) then s.outStatus else s

/-- May a staged record still be sent? A bid whose call is no longer open in its round, or that is no longer outstanding, may
not, nor a re-bid that is not (R334, R341); while ALONE only STATUS may (R343); with DUPCAR nothing (R345). -/
def State.outLive (s : State) (r : Nat × Nat × Nat × Nat) : Bool :=
  let f := recFrm (wN r.1, wN r.2.1, wN r.2.2.1, wN r.2.2.2)
  if s.dupcar then false
  else
    match gfrmOf f with
    | none => false
    | some g =>
      if s.alone then g.pcl == 0 && g.kind == 5
      else if g.pcl = 0 then true
      else match s.bid.w.bySeq g.seq with
        | some (_, e) => e.round == g.round && (if g.rebid then e.st == 2 && e.rebO else e.st == 1 && e.bidO)
        | none => false

/-- A group frame did not go out, dropped before the hand-off or cancelled in the controller: what it stood for is outstanding
no longer, and BID owes it again where its rule still asks for it (R332, R338–R340). -/
def State.unsent (s : State) (f : CanFrm) : State :=
  match gfrmOf f with
  | none => s
  | some g =>
    let re := bitOf (f.data.getD 6 0) 5
    if g.pcl = 0 ∧ g.kind = 1 ∧ re = false then
      match s.bid.w.bySeq g.seq with
      | some (k, _) => s.modEnt k (fun e => { e with rean := false })
      | none => s.hallWord (ofLE ((f.data.take 4).map (· % 256)) + 1024 * (f.data.getD 6 0 % 8))
    else match s.bid.w.bySeq g.seq with
      | none => s
      | some (k, e) =>
        if g.pcl ≠ 0 then
          if e.round ≠ g.round then s
          else if g.rebid then s.modEnt k (fun e => { e with rebO := false }) else s.modEnt k (fun e => { e with bidO := false })
        else if g.kind = 1 then s.modEnt k (fun e => { e with rean := false })
        else if e.mine = false then s
        else if g.kind = 3 then s.modEnt k (fun e => { e with owed := true })
        else if g.kind = 4 then s.modEnt k (fun e => { e with clsd := false })
        else s

/-- Staged records that may no longer be sent leave the list. -/
def State.dropStale (s : State) : State :=
  let out := s.bid.w.out
  let gone := out.filter (fun r => !s.outLive r)
  let s := s.modBid (fun c => { c with out := out.filter (fun r => s.outLive r) })
  gone.foldl (fun s r => s.unsent (recFrm (wN r.1, wN r.2.1, wN r.2.2.1, wN r.2.2.2))) s

/-- ALONE has cleared (R343): STATUS, LOCAL entries announced or, when committed, AWARDED; one that is served goes (R339). -/
def State.aloneOver (s : State) : State :=
  let s := s.outStatus
  s.bid.w.tab.foldl (fun s p =>
    let e := p.2
    if e.st ≠ 3 then s
    else if e.srv then (if e.rean then s else s.freeEnt p.1)
    else if s.callCommitted e.idw then
      let t := s.now
      ((s.outHold e 0 true).modEnt p.1 (fun e => { e with st := 2, pubC := 0, pubT := t, pubK := true, rean := false }))
    else (s.outAnnounce e.seq e.idw (e.age s.now) e.pcl e.round false).modEnt p.1 (fun e => { e with rean := true })) s

/-- The records BID owes in a frame (R333): hall words, the end or the start of ALONE (R343), STATUS, then every entry. -/
def State.bidRecords (s : State) (ws : List Word) : State :=
  let s := ws.foldl (fun s w => s.hallWord w.toNat) s
  let al := s.alone
  let was := s.bid.w.wasAl
  let s := s.modBid (fun c => { c with wasAl := al || (was && s.dupcar) })
  let s := if was && !al && !s.dupcar then s.aloneOver else s
  let s := if al && !was then s.modBid (fun c => { c with canc := c.canc ++ [(0x10000, 0, false)] }) else s
  let s := if !al && !s.dupcar then
      s.bid.w.pq.foldl (fun s w => if s.bid.w.freeK.isSome then (s.modBid (fun c => { c with pq := c.pq.erase w })).hallWord w else s) s
    else s
  let s := s.statusDue
  ((s.bid.w.tab.map (·.1)).foldl (fun s k => (s.holdEnt k).bidEnt k) s).dropStale

/-- The words of the first n records of a list, with records of no frame behind them (R333, R470). -/
def recordsOut (n : Nat) (out : List (Nat × Nat × Nat × Nat)) : List Word :=
  let now := out.take n
  (now.map (fun r => [wN r.1, wN r.2.1, wN r.2.2.1, wN r.2.2.2])).flatten ++ (List.replicate (n - now.length) [0xFFFFFFFF, 0, 0, 0]).flatten

/-- BID_STAGE: the first records owed go out; a module in WAIT or STANDBY stages none (R580). -/
def State.bidStage (s : State) (sl : Slot) : State :=
  let ntx := sl.arg % 64
  let r := s.popOpt sl.hin (sl.arg / 256 % 64)
  if !s.bidPart then r.2.push sl.hout (recordsOut ntx [])
  else if s.standby then (r.2.modBid (fun c => { c with out := [] })).push sl.hout (recordsOut ntx [])
  else
    let s := r.2.bidRecords r.1
    let out := s.bid.w.out
    (s.modBid (fun c => { c with out := out.drop ntx })).push sl.hout (recordsOut ntx out)

/-! ### Boundary and commit -/

/-- Results of the controller (R334, R472), taken at INGEST. -/
def State.bidBoundary (s : State) : State :=
  let rs := (s.canS 1).bres
  if rs = [] then s
  else
    let s := s.modCan 1 (fun c => { c with bres := [] })
    rs.foldl (fun s r =>
      let s := match gfrmOf r.1 with
        | some g => if g.pcl ≠ 0 ∧ g.rebid = true ∨ r.2.1 = 2 ∨ r.2.1 = 4 then s.unsent r.1 else s
        | none => s
      if r.2.1 = 3 ∧ s.hasUnit 0 = true then ((s.wf Addr.BID_STAT Fl.BID_STAT_LATE 1).bump Addr.BID_LATE ⟨0, 32⟩).sayI 14 3 else s) s

/-- Cancellations at the hand-off (R472); 0x10000 stands for every frame but STATUS (R343), 0x10001 for every frame (R345). -/
def State.bidCancels (s : State) : State :=
  let cs := s.bid.w.canc
  let s := s.modBid (fun c => { c with canc := [] })
  let hits (k : Nat) (f : CanFrm) (c : Nat × Nat × Bool) : Bool :=
    s.isPool 1 k &&
      (match gfrmOf f with
       | some g => if c.1 = 0x10001 then true else if c.1 = 0x10000 then !(g.pcl == 0 && g.kind == 5) else g.pcl != 0 && g.seq == c.1 && g.round == c.2.1 && g.rebid == c.2.2
       | none => false)
  cs.foldl (fun s c =>
    let ks := ((s.canS 1).tx.filter (fun p => p.2.st != 0 && (match p.2.frm with | some f => hits p.1 f c | none => false))).map (·.1)
    ks.foldl (fun s k => s.txCancel 1 k) s) s

/-- The words of an open-call entry (R335). -/
def BidE.words (e : BidE) (now : Nat) : List Nat :=
  [e.seq * 65536 + e.age now, e.idw,
   e.pcl * 2 ^ 29 + e.round * 2 ^ 27 + b2n e.cmt * 2 ^ 26 + e.hcost * 64 + e.hold, e.st * 2 ^ 28 + e.own]

/-- The commit: the table, then the registers that report it. -/
def State.bidCommit (s : State) : State :=
  if !s.hasUnit 0 then s
  else
    let s := s.bidCancels
    let s := { s with bid := { s.bid with c := s.bid.w } }
    let c := s.bid.c
    let pres (lo : Nat) : Word := wN ((List.range 32).foldl (fun n i => if s.carPresent (lo + i) then n + 2 ^ i else n) 0)
    let moved := s.rd Addr.BID_PRES_LO != pres 0 || s.rd Addr.BID_PRES_HI != pres 32
    let s := (s.wr Addr.BID_PRES_LO (pres 0)).wr Addr.BID_PRES_HI (pres 32)
    let s := if moved then s.irq 14 6 else s
    let s := if s.alone && !s.flag Addr.BID_STAT Fl.BID_STAT_ALONE then s.irq 14 5 else s
    let s := s.wr Addr.BID_OCC (wN (256 * c.pq.length + c.tab.length))
    let s := s.wf Addr.BID_STAT Fl.BID_STAT_ALONE (b2n s.alone)
    s.wf Addr.BID_STAT Fl.BID_STAT_ELIG (b2n (s.modElig && !s.alone))

def State.bidDiscard (s : State) : State := { s with bid := { s.bid with w := s.bid.c } }

def State.bidClear (s : State) : State := { s with bid := { s.bid with c := BidC.init, w := BidC.init } }

/-- A word of the open-call table's registers. -/
def State.bidCall (s : State) (k w : Nat) : Word :=
  match aget s.bid.c.tab k with | some e => wN ((e.words s.ecyc).getD w 0) | none => 0

/-- BID_CMD.DUPCLR (R345). -/
def State.dupClr (s : State) : State := if s.hasUnit 0 then s.wf Addr.BID_STAT Fl.BID_STAT_DUPCAR 0 else s

end Sys2Proof.Machine
end

