-- ==== Sys2Proof/Machine/Energy.lean ====
section
/-! DEFINITION. The energy unit (chapter 11, R423–R451): filter results, half-cycle rms values, dips, swells and
interruptions, power, the eight energy registers, publication, snapshot, checkpoint and pulse output. -/

namespace Sys2Proof.Machine

def State.modNrg (s : State) (f : NrgS → NrgS) : State := { s with nrg := f s.nrg }

/-- Change the working copy, which the commit brings in (R430). -/
def State.modNw (s : State) (f : NrgC → NrgC) : State := s.modNrg (fun n => { n with w := f n.w })

/-- Does the running sheaf name NRG (R429)? -/
def State.nrgNamed (s : State) : Bool :=
  match s.sch.active with | some sh => s.hasUnit 3 && bitOf sh.reqUnits 3 | none => false

/-- Is the unit active (R429)? -/
def State.nrgActive (s : State) : Bool := s.flag Addr.NRG_STAT Fl.NRG_STAT_ACTIVE

def State.nph (s : State) : Nat := s.rf Addr.NRG_CFG Fl.NRG_CFG_NPH

/-- Channels that are not ignored under R424. -/
def State.nrgUsed (s : State) (c : Nat) : Bool := !(s.nph == 2 && (c == 1 || c == 2 || c == 4 || c == 5))

/-- Channels judged (R426). -/
def State.judged (s : State) (c : Nat) : Bool := c < 8 && s.nrgUsed c && bitOf (s.rf Addr.NRG_CFG Fl.NRG_CFG_CHEN) c

/-! ### Samples (R425, R426) -/

/-- Weight of bit k in a sinc3 window at decimation ratio M: the number of triples of 0 to M − 1 with sum k (R425). -/
def sincWeight (m k : Nat) : Nat :=
  let tri (n : Nat) : Nat := n * (n - 1) / 2
  tri (k + 2) + 3 * tri (k + 2 - 2 * m) - 3 * tri (k + 2 - m)

/-- The weighted sum S of the last 3M − 2 of the 3M bits held, the oldest lowest (R425). -/
def sincSum (m v : Nat) : Nat :=
  if v = 0 then 0 else (List.range (3 * m - 2)).foldl (fun n k => if bitOf v (k + 2) then n + sincWeight m k else n) 0

/-- The code of a weighted sum S at decimation ratio M, before the clamp (R425). -/
def sdCode (m sum : Nat) : Int := divNear ((2 * (sum : Int) - (m : Int) ^ 3) * 2 ^ 23) ((m : Int) ^ 3)

/-- The clamp of R425. -/
def sdClamp (c : Int) : Int := if c > 8388607 then 8388607 else if c < -8388607 then -8388607 else c

/-- The physical value of a code (R426). -/
def State.nrgScale (s : State) (c : Nat) (code : Int) : Int :=
  if s.judged c then satS 32 ((code - s.rs (Addr.NRG_OFS c)) * s.rs (Addr.NRG_GAIN c) / 65536) else 0

/-- CLIP of a channel rises with the commit of the frame, and its fault (R427, R430). -/
def State.nrgClip (s : State) (c : Nat) : State :=
  if s.cf Addr.NRG_STAT ⟨16 + c, 1⟩ = 1 ∨ s.nrg.skip ≠ 0 then s
  else ((s.pubF Addr.NRG_STAT ⟨16 + c, 1⟩ 1).irqC 15 6).modNrg (fun n => { n with dueF := n.dueF ++ [⟨0xB2, c, 0⟩] })

/-- SD_TAKE: the slot takes the eight results of the filters at cycle 0 and pushes them when it has a hopper (R425–R428). -/
def State.sdTake (s : State) (sl : Slot) : State :=
  let m := s.ncyc / 10
  let code (c : Nat) : Int := sdClamp (sdCode m (sincSum m (s.nrg.sd.getD c 0)))
  let s := (List.range 8).foldl (fun s c =>
    let s := if s.judged c && (code c).natAbs == 8388607 then s.nrgClip c else s
    s.pub (Addr.NRG_INST c) (wI (s.nrgScale c (code c)))) s
  let xs := (List.range 8).map (fun c => s.nrgScale c (code c))
  let bad := (List.range 6).foldl (fun b c =>
    b + (if s.judged c && ((code c).natAbs == 8388607 || bitOf (s.rf Addr.NRG_STAT Fl.NRG_STAT_STK) c) then 2 ^ c else 0)) 0
  let s := s.modNw (fun w => { w with x := xs, half := { w.half with bad := w.half.bad ||| bad } })
  s.push sl.hout (xs.map wI)

/-- The pad SD_CLK (R423, R429): 20 MHz, rising in cycle 0 of a frame; low while it does not run. -/
def State.sdClk (s : State) : Bool := s.nrg.clk && decide (s.cyc % 10 < 5)

/-- MODULATOR_STUCK: a data pad has not changed for 1,024 periods of SD_CLK, which runs on while the schedule is stopped (R427, R429). -/
def State.modulatorStuck (s : State) (c : Nat) : State :=
  if s.nrg.clk && s.judged c && !bitOf (s.rf Addr.NRG_STAT Fl.NRG_STAT_STK) c then
    ((s.wf Addr.NRG_STAT ⟨24 + c, 1⟩ 1).irq 15 6).raise 0xB1 c 1
  else s

/-- MODULATOR_DATA_RESUMED: the first change on a stuck pad (R427). -/
def State.modulatorResumed (s : State) (c : Nat) : State := if c < 8 then s.wf Addr.NRG_STAT ⟨24 + c, 1⟩ 0 else s

/-! ### Half-cycle values and events (R432–R435) -/

/-- The reference signal, times 3 in NPH 1 (R432). -/
def State.nrgRef (s : State) : Int :=
  let x (k : Nat) := s.nrg.w.x.getD k 0
  if s.nph = 1 then x 0 - x 2 else 3 * x 0

/-- T_nom / 2 in fabric cycles (R432). -/
def State.nrgHalfT (s : State) : Nat := if s.flag Addr.NRG_CFG Fl.NRG_CFG_FNOM then 1666700 else 2000000

/-- Note what the commit reports. -/
def State.nrgLater (s : State) (f : List FaultEv) (r : List (Nat × Nat × Nat × Nat × Nat)) : State :=
  s.modNrg (fun n => { n with dueF := n.dueF ++ f, dueR := n.dueR ++ r })

/-- The value that becomes the extreme: the first lowest or highest of the judged voltages with its channel. -/
def extreme (hi : Bool) : List (Nat × Nat) → Option (Nat × Nat)
  | [] => none
  | (c, v) :: r =>
    match extreme hi r with
    | some (c', v') => if (hi && decide (v' > v)) || (!hi && decide (v' < v)) then some (c', v') else some (c, v)
    | none => some (c, v)

/-- One detector at a boundary (R433, R434): t 0 dip, 1 swell, 2 interruption; vs the judged voltages by channel, s0 the
first frame of their window. -/
def State.nrgDetect (s : State) (t s0 : Nat) (vs : List (Nat × Nat)) : State :=
  let ud := (s.rd Addr.NRG_UDIN).toNat
  let th (f : Fld) := s.rf Addr.NRG_EVTH1 f
  let hys := s.rf Addr.NRG_EVTH2 Fl.NRG_EVTH2_HYS
  let dip := th Fl.NRG_EVTH1_DIPTH
  let swl := th Fl.NRG_EVTH1_SWLTH
  let int := s.rf Addr.NRG_EVTH2 Fl.NRG_EVTH2_INTTH
  let le (k : Nat) (p : Nat × Nat) : Bool := decide (1000 * p.2 ≤ k * ud)
  let ge (k : Nat) (p : Nat × Nat) : Bool := decide (1000 * p.2 ≥ k * ud)
  let hi := t == 1
  let put (s : State) (e : Option NEv) : State := s.modNw (fun w => { w with ev := w.ev.set t e })
  let show_ (s : State) (e : NEv) : State :=
    let (x, s) := s.fitU 24 e.ext
    (s.pub (Addr.NRG_EVSTART t) (wN e.s0)).pub (Addr.NRG_EVEXT t) (wN (x + 2 ^ 24 * e.ch))
  let d1 (e : NEv) : Nat := e.ext % 2 ^ 24 + 2 ^ 24 * e.ch
  match s.nrg.w.ev.getD t none with
  | none =>
    let start := !vs.isEmpty && (if t == 0 then vs.any (le dip) else if t == 1 then vs.any (ge swl) else vs.all (le int))
    if start then
      match extreme hi vs with
      | some (c, v) =>
        let e : NEv := ⟨s0, v, c⟩
        let s := (show_ (put s (some e)) e).pubF Addr.NRG_STAT ⟨2 + t, 1⟩ 1
        (s.irqC 15 5).nrgLater [⟨0xB4 + t, 0, 0⟩] [(0, t, s0, d1 e, 0)]
      | none => s
    else s
  | some e =>
    let beyond := if t == 0 then vs.all (ge (dip + hys)) else if t == 1 then vs.all (le (swl - hys)) else vs.any (ge (int + hys))
    if beyond then
      let dur := (s.frm - e.s0) * s.ncyc / 20000
      let s := ((put s none).pubF Addr.NRG_STAT ⟨2 + t, 1⟩ 0).pub (Addr.NRG_EVDUR t) (wN dur)
      let s := s.pub (Addr.NRG_EVCNT t) (wN (satU 16 (s.cf (Addr.NRG_EVCNT t) Fl.NRG_EVCNT_COUNT + 1)))
      (s.irqC 15 5).nrgLater [] [(1, t, e.s0, d1 e, min dur 65535)]
    else
      match extreme hi vs with
      | some (c, v) =>
        let better := if hi then decide (v > e.ext) else decide (v < e.ext)
        let e := if better then { e with ext := v, ch := c } else e
        show_ (put s (some e)) e
      | none => s

/-- A half-cycle boundary in this frame (R432): dir 1 a crossing from below, −1 from above, 0 forced. -/
def State.nrgBound (s : State) (dir : Int) : State :=
  let w := s.nrg.w
  let cur := { w.half with forc := dir == 0 }
  let full := decide (w.nB ≥ 2)
  let n := w.prev.n + cur.n
  let val (c : Nat) : Nat := if s.judged c && n != 0 then isqrt (((w.prev.sq.getD c 0 + cur.sq.getD c 0) / (n : Int)).toNat) else 0
  let qual := if dir = 0 then 0 else w.qual + 1
  let nosync := s.cf Addr.NRG_STAT Fl.NRG_STAT_NOSYNC == 1
  let rise := dir == 0 && !nosync
  let nosync := dir == 0 || (nosync && decide (qual < 2))
  let s := s.pubF Addr.NRG_STAT Fl.NRG_STAT_NOSYNC (b2n nosync)
  let s := if rise then s.nrgLater [⟨0xB3, 0, 0⟩] [] else s
  let last := if dir = 1 then w.fUp else if dir = -1 then w.fDn else none
  let freq := match last with
    | some f => if nosync then 0 else (divNear (100 * (200000000 / s.ncyc : Nat)) (s.frm - f : Nat)).toNat
    | none => if nosync then 0 else s.cf Addr.NRG_FREQ Fl.NRG_FREQ_FREQ
  let s := (s.pub Addr.NRG_FREQ (wN (freq % 65536))).pub Addr.NRG_HCFRM (wN s.frm)
  let was := w.ev.any (·.isSome)
  let s0 := w.prev.f0
  let s := if full then
      let s := (List.range 3).foldl (fun s k => (s.pub (Addr.NRG_URMS k) (wN (val k))).pub (Addr.NRG_IRMS k) (wN (val (k + 3)))) s
      let vs := ((List.range 3).filter s.judged).map (fun c => (c, val c))
      let s := ((s.nrgDetect 0 s0 vs).nrgDetect 1 s0 vs).nrgDetect 2 s0 vs
      let js := (List.range 6).filter s.judged
      let flag := was || s.nrg.w.ev.any (·.isSome) || w.prev.forc || cur.forc || w.prev.lost || cur.lost ||
        js.any (fun c => bitOf (w.prev.bad ||| cur.bad) c)
      s.pubF Addr.NRG_STAT Fl.NRG_STAT_FLAG (b2n flag)
    else s
  let f := s.frm
  let t := s.ecyc
  s.modNw (fun w => { w with
    tB := t, qual := qual, nB := min 2 (w.nB + 1), prev := cur, half := NHalf.init (f + 1),
    fUp := if dir = 1 then some f else w.fUp, fDn := if dir = -1 then some f else w.fDn })

/-- Has 1.4 · T_nom/2 passed without a boundary (R432)? -/
def State.nrgForceDue (s : State) : Bool := decide (10 * (s.ecyc - s.nrg.w.tB) ≥ 14 * s.nrgHalfT)

/-- FORCED_BOUNDARY: 1.4 half periods without a boundary (R432); a frame whose samples are not used has none (R430). -/
def State.forcedBoundary (s : State) : State := if s.nrgActive && s.nrg.skip == 0 && s.nrgForceDue then s.nrgBound 0 else s

/-- RMS: the sample joins the half-cycle; a qualified crossing at least 0.7 half periods after the last boundary is a
boundary, and 1.4 half periods force one (R432). The frames of R430 that are not used add nothing. -/
def State.rmsSlot (s : State) : State :=
  if s.nrg.skip ≠ 0 then s
  else
    let r := s.nrgRef
    let zh : Int := (s.rd Addr.NRG_UDIN).toNat
    let sg := s.nrg.w.sgn
    let crossed := (sg == 1 && decide (r < 0)) || (sg == -1 && decide (r > 0))
    let sgN : Int := if 20 * (r.natAbs : Int) ≥ 3 * zh then (if r > 0 then 1 else if r < 0 then -1 else 0) else if crossed then 0 else sg
    let xs := s.nrg.w.x
    let s := s.modNw (fun w => { w with
      sgn := sgN
      half := { w.half with n := w.half.n + 1, sq := (List.range 6).map (fun c => w.half.sq.getD c 0 + (xs.getD c 0) ^ 2) } })
    if crossed && decide (10 * (s.ecyc - s.nrg.w.tB) ≥ 7 * s.nrgHalfT) then s.nrgBound (if sg = -1 then 1 else -1)
    else if s.nrgForceDue then s.nrgBound 0 else s

/-! ### Power and accumulation (R436–R439) -/

/-- One mWh in µW·cycle (R436). -/
def mWh : Int := 720000000000000

/-- Line and DC-link power in µW (R436). -/
def State.nrgPower (s : State) : Int × Int :=
  let x (k : Nat) := s.nrg.w.x.getD k 0
  let u (a b : Int) : Int := divZ (a - b) 3
  let pl := match s.nph with
    | 0 => x 0 * x 3 + x 1 * x 4 + x 2 * x 5
    | 1 => u (x 0) (x 2) * x 3 + u (x 1) (x 0) * x 4 + u (x 2) (x 1) * x 5
    | _ => x 0 * x 3
  (pl, x 6 * x 7)

/-- Add energy to a register (R438, R439): NET is signed. -/
def NReg.add (r : NReg) (signed : Bool) (e : Int) : NReg :=
  let t := r.res + e
  let v := r.v + t / mWh
  let off : Int := if signed then 2 ^ 63 else 0
  { v := if signed then sext 64 (enc 64 v) else v % 2 ^ 64
    res := t % mWh
    wr := (((r.wr : Int) + (v + off) / 2 ^ 64) % 256).toNat }

/-- The four registers of a side take one frame's energy (R437). -/
def addFour (abs : Bool) (rs : List NReg) (e : Int) : List NReg :=
  let r (k : Nat) := rs.getD k NReg.init
  if abs then
    [(r 0).add true e, if e > 0 then (r 1).add false e else r 1, if e < 0 then (r 2).add false (-e) else r 2, (r 3).add false e.natAbs]
  else [(r 0).add true e, r 1, r 2, r 3]

/-- ACC: the frame's energy, sorted by its sign (R436, R437). -/
def State.accSlot (s : State) : State :=
  if s.nrg.skip ≠ 0 then s
  else
    let (pl, pd) := s.nrgPower
    let n : Int := s.ncyc
    let ab := s.flag Addr.NRG_CFG Fl.NRG_CFG_ACCM
    s.modNw (fun w => { w with
      reg := addFour ab (w.reg.take 4) (pl * n) ++ addFour ab (w.reg.drop 4) (pd * n)
      sumL := w.sumL + pl, sumD := w.sumD + pd, nI := w.nI + 1 })

/-- Pulses for a rise of the selected register (R446, R447). -/
def State.nrgPulses (s : State) (rise : Nat) : State :=
  let epp := (s.rd Addr.NRG_PEPP).toNat
  if epp = 0 then s
  else
    let m := s.nrg.prem + rise
    let k := m / epp
    let s := s.modNrg (fun n => { n with prem := m % epp })
    if k = 0 then s
    else
      let f := s.frm
      let idle := s.nrg.pend == 0 && s.nrg.pph == 0
      -- with no earlier publication that made pulses due the manual gives T_p no value but its bound (log 150)
      let (v, s) := s.freeVal
      let tp := match s.nrg.pfrm with | some f0 => max 2 ((f - f0) / k) | none => max 2 v
      let beyond := decide (s.nrg.pend + k > 255)
      let s := s.modNrg (fun n => { n with pend := min 255 (n.pend + k), pfrm := some f, tp := tp, first := n.first || idle })
      let s := s.wf Addr.NRG_PSTAT Fl.NRG_PSTAT_PEND s.nrg.pend
      if beyond then
        let up := !s.flag Addr.NRG_STAT Fl.NRG_STAT_PLSOVF
        let s := (s.wf Addr.NRG_STAT Fl.NRG_STAT_PLSOVF 1).irq 15 7
        s.raiseIf up 0xB7 0 0
      else s

/-- Publication at the end of an accumulation interval (R437–R440, R446). -/
def State.nrgPublish (s : State) : State :=
  let c := s.nrg.c
  let ab := s.flag Addr.NRG_CFG Fl.NRG_CFG_ACCM
  let vals := (List.range 8).map (fun r => if ab || r % 4 == 0 then enc 64 (c.reg.getD r NReg.init).v else 0)
  let wr := (List.range 8).map (fun r => (c.reg.getD r NReg.init).wr)
  let old := s.nrg.pub
  let mean (s : State) (sum : Int) : Word × State :=
    if c.nI = 0 then (let (v, s) := s.freeVal; (wN v, s))
    else (let (v, s) := s.fitS 32 (divZ sum ((c.nI : Int) * 1000000)); (wN v, s))
  let (pl, s) := mean s c.sumL
  let (pd, s) := mean s c.sumD
  let s := ((s.wr Addr.NRG_PLINE pl).wr Addr.NRG_PDCL pd).wr Addr.NRG_PUBFRM (wN s.frm)
  let clr (w : NrgC) : NrgC := { w with sumL := 0, sumD := 0, nI := 0 }
  let s := s.modNrg (fun n => { n with pub := vals, pubW := wr, iend := false, c := clr n.c, w := clr n.w })
  let s := s.irq 15 4
  let src := s.rf Addr.NRG_PCFG Fl.NRG_PCFG_PSRC
  let r := match src with | 1 => 1 | 2 => 2 | 3 => 3 | 4 => 5 | 5 => 6 | 6 => 7 | _ => 8
  let s := if ab && r < 8 then s.nrgPulses (enc 64 ((vals.getD r 0 : Int) - old.getD r 0)) else s
  let ends := s.nrg.runEnd
  ends.foldl (fun s r => s.runLearn r.1 (sext 64 (enc 64 ((vals.getD r.2.2 0 : Int) - r.2.1))))
    (s.modNrg (fun n => { n with runEnd := [], clrd := false }))

/-- ACCUMULATION_INTERVAL_END: the interval that a commit ends publishes (R437, R438). -/
def State.intervalEnd (s : State) : State := if s.nrg.iend then s.nrgPublish else s

/-- The run of AX0 that R331 measures, seen at a commit: MSTATE was `was` and is now in AX0_STAT (R331, R440). The register BSRC names at
the start serves to the end; a clear or restore since the last publication skips the run. -/
def State.nrgRun (s : State) (was : Nat) : State :=
  let m := s.rf (Addr.AX_STAT 0) Fl.AX_STAT_MSTATE
  let b := if s.flag Addr.NRG_CFG Fl.NRG_CFG_BSRC then 4 else 0
  let p := s.rs (Addr.AX_CPOS 0)
  if was ≠ 1 ∧ m = 1 then
    { s with bid := { s.bid with run := if s.nrg.clrd then none else some (p, (s.nrg.pub.getD b 0 : Int), b) } }
  else if was = 1 ∧ m ≠ 1 then
    let ends := match m, s.bid.run with | 0, some (p0, e) => [(p - p0, e)] | _, _ => []
    { s with nrg := { s.nrg with runEnd := s.nrg.runEnd ++ ends }, bid := { s.bid with run := none } }
  else s

/-- A frame that was not accumulated (R430). -/
def State.nrgLost (s : State) : State :=
  let lose (c : NrgC) : NrgC := { c with half := { c.half with lost := true } }
  let s := (s.bump Addr.NRG_LOST Fl.NRG_LOST_COUNT).wf Addr.NRG_STAT Fl.NRG_STAT_LOST 1
  s.modNrg (fun n => { n with c := lose n.c, w := lose n.c, dueF := [], dueR := [] })

/-- The commit of a frame (R430, R437): the working copy is brought in, faults and records of its events are given, and an
interval ends. -/
def State.nrgCommit (s : State) : State :=
  if !s.nrgActive then s
  else
    let fs := s.nrg.dueF
    let rs := s.nrg.dueR
    let tacc := s.rf Addr.NRG_CFG Fl.NRG_CFG_TACC
    let e := s.nrg.imiss || decide (s.frm % tacc = tacc - 1)
    let s := if s.nrg.skip ≠ 0 then (s.nrgLost).modNrg (fun n => { n with skip := n.skip - 1 })
      else s.modNrg (fun n => { n with c := n.w, dueF := [], dueR := [] })
    let s := fs.foldl (fun s f => s.raise f.code f.src f.cls) s
    let s := rs.foldl (fun s r => s.record 6 r.1 r.2.1 0 r.2.2.1 r.2.2.2.1 r.2.2.2.2) s
    if e then (s.modNrg (fun n => { n with iend := true, imiss := false })).intervalEnd else s

/-- A frame ends without its commit (R76, R430): it is one of the frames after a change of rate whose samples are not used. -/
def State.nrgNoCommit (s : State) : State :=
  if s.nrgActive then
    let tacc := s.rf Addr.NRG_CFG Fl.NRG_CFG_TACC
    let s := s.nrgLost
    s.modNrg (fun n => { n with skip := n.skip - 1, imiss := n.imiss || decide (s.frm % tacc = tacc - 1) })
  else s

/-! ### Checkpoint, restore and clear (R443–R445) -/

/-- The CRC-32C of a checkpoint, over its content in the order of R444; the manual lays out no bytes (DESIGN CHOICE, log 173). -/
def Ckpt.sum (c : Ckpt) : Nat :=
  crc32c (c.regs.flatMap (leBytes 8) ++ c.wraps.flatMap (leBytes 1) ++ leBytes 4 c.frm ++ leBytes 1 (b2n c.warn))

/-- Write a checkpoint to the loft (R444): published registers, wrap counts, publication frame, kind. A block that fails is replaced
first (R649); with no block left in the region there are no more checkpoints (R650). The model keeps the eight newest. -/
def State.nrgCkpt (s : State) (warning : Bool) : State :=
  let s := s.ckptBlock
  if s.loft.ckReg = [] then s
  else
    let c : Ckpt := ⟨s.nrg.pub, s.nrg.pubW, (s.rd Addr.NRG_PUBFRM).toNat, warning, 0⟩
    let s := s.modLoft (fun l => { l with ckpts := ({ c with crc := c.sum } :: l.ckpts).take 8 })
    (s.wr Addr.NRG_CKFRM (wN s.frm)).irq 3 6

/-- CHECKPOINT: every 900 s while the unit is active (R444); the 900 s end in the running frame. -/
def State.checkpoint (s : State) : State :=
  if s.nrgActive && decide (s.ecyc + s.ncyc > s.nrg.ckT + 180000000000) then
    (s.modNrg (fun n => { n with ckT := n.ckT + 180000000000 })).nrgCkpt false
  else s

/-- Restore the registers before the first frame with the schedule after a reset, from the newest checkpoint whose CRC matches (R445). -/
def State.nrgRestore (s : State) : State :=
  if s.nrg.rest || !s.hasUnit 3 then s
  else
    let s := s.modNrg (fun n => { n with rest := true, clrd := true })
    let lost (s : State) : State := ((s.wf Addr.NRG_STAT Fl.NRG_STAT_CKLOST 1).irq 15 7).raise 0xB8 0 0
    match s.loft.ckpts.find? (fun c => c.sum == c.crc) with
    | none => lost s
    | some d =>
      let reg (r : Nat) : NReg := ⟨if r % 4 = 0 then sext 64 (d.regs.getD r 0) else (d.regs.getD r 0 : Nat), 0, d.wraps.getD r 0⟩
      let rs := (List.range 8).map reg
      let s := s.modNrg (fun n => { n with c := { n.c with reg := rs }, w := { n.w with reg := rs }, pub := d.regs, pubW := d.wraps,
                                           runEnd := [] })
      let s := { s with bid := { s.bid with run := none } }
      let s := s.wf Addr.NRG_STAT Fl.NRG_STAT_RESTORED 1
      if d.warn then s else lost s

/-- CLR applied at its boundary (R443). -/
def State.nrgClear (s : State) : State :=
  let clr (c : NrgC) : NrgC := { c with reg := List.replicate 8 NReg.init, sumL := 0, sumD := 0, nI := 0 }
  let s := s.modNrg (fun n => { n with
    c := clr n.c, w := clr n.w, pub := List.replicate 8 0, pubW := List.replicate 8 0, prem := 0, pend := 0, first := false,
    runEnd := [], clrd := true })
  let s := { s with bid := { s.bid with run := none } }
  let s := s.wf Addr.NRG_PSTAT Fl.NRG_PSTAT_PEND 0
  (s.record 6 2 0 0 0 0 0).nrgCkpt false

/-- SNAP (R441). -/
def State.nrgSnap (s : State) : State :=
  let s := (List.range 8).foldl (fun s r =>
    let v := s.nrg.pub.getD r 0
    (s.wr (Addr.NRG_SNAP_LO r) (wN v)).wr (Addr.NRG_SNAP_HI r) (wN (v / 2 ^ 32))) s
  let w (k : Nat) : Word := wN (ofLE ((List.range 4).map (fun j => s.nrg.pubW.getD (4 * k + j) 0)))
  ((s.wr Addr.NRG_SWRAP0 (w 0)).wr Addr.NRG_SWRAP1 (w 1)).wr Addr.NRG_SFRM (s.rd Addr.NRG_PUBFRM)

/-! ### Pulse output (R446, R447) -/

/-- A change of PSRC or EPP (R446); the publications that made pulses due stay those of R447. -/
def State.nrgPulseCfg (s : State) : State :=
  (s.modNrg (fun n => { n with prem := 0, pend := 0, first := false })).wf Addr.NRG_PSTAT Fl.NRG_PSTAT_PEND 0

/-- PW in frames, rounded up (R447). -/
def State.pulseFull (s : State) : Nat :=
  max 1 ((s.rf Addr.NRG_PCFG Fl.NRG_PCFG_PW * 200000 + s.ncyc - 1) / max 1 s.ncyc)

/-- PULSE_HIGH_END: W frames high are over (R447). -/
def State.pulseHighEnd (s : State) : State :=
  if s.nrg.pph = 1 ∧ s.frm ≥ s.nrg.pt0 + s.nrg.pw then
    let f := s.frm
    s.modNrg (fun n => { n with pph := 2, pt0 := f, lvl := false })
  else s

/-- PULSE_LOW_END: W frames low are over (R447). -/
def State.pulseLowEnd (s : State) : State :=
  if s.nrg.pph = 2 ∧ s.frm ≥ s.nrg.pt0 + s.nrg.pw then s.modNrg (fun n => { n with pph := 0 }) else s

/-- PULSE_START: a pending pulse starts (R447). -/
def State.pulseStart (s : State) : State :=
  if s.nrgActive ∧ s.nrg.pph = 0 ∧ s.nrg.pend > 0 then
    let full := s.pulseFull
    let w := if s.nrg.first then full else max 1 (min full (s.nrg.tp / 2))
    let f := s.frm
    let s := s.modNrg (fun n => { n with pph := 1, pt0 := f, pw := w, pend := n.pend - 1, first := false, lvl := true })
    s.wf Addr.NRG_PSTAT Fl.NRG_PSTAT_PEND s.nrg.pend
  else s

/-- The pad at the release (R447). -/
def State.nrgRelease (s : State) : State :=
  let s := if s.nrgActive then ((s.pulseHighEnd).pulseLowEnd).pulseStart else s
  let lv := s.nrgActive && s.nrg.pph == 1
  (s.modNrg (fun n => { n with lvl := lv })).wf Addr.NRG_PSTAT Fl.NRG_PSTAT_LVL (b2n lv)

/-- A frame without a release drives the pad low (R447). -/
def State.nrgNoRelease (s : State) : State := s.modNrg (fun n => { n with lvl := false })

/-- The start of a frame (R425, R429, R430, R435): SD_CLK, ACTIVE, filter results;
`rate` says that a bank switch changed the frame rate. Of the levels of a data pad the bits SDSMP names join its filter (R423). -/
def State.nrgBoundary (s : State) (sd : List (List Nat)) (rate : Bool) : State :=
  let m := s.ncyc / 10
  let k := s.rf Addr.NRG_SDCFG Fl.NRG_SDCFG_SDSMP
  let s := if s.nrg.clk then
      s.modNrg (fun n => { n with sd := n.sd.zipIdx.map (fun p => p.1 / 2 ^ m + (sd.getD p.2 []).getD k 0 % 2 ^ m * 2 ^ (2 * m)) })
    else s
  let act := s.nrgNamed && s.running
  let was := s.nrgActive
  let s := if s.running then s.nrgRestore else s
  let s := s.wf Addr.NRG_STAT Fl.NRG_STAT_ACTIVE (b2n act)
  let off := s.sch.active.isSome && !s.nrgNamed
  let s := s.modNrg (fun n => { n with clk := act || (n.clk && !off) })
  let s := if was && !act then
      let stop (c : NrgC) : NrgC := { c with ev := [none, none, none] }
      let s := s.modNrg (fun n => { n with c := stop n.c, w := stop n.w, lvl := false, pph := 0 })
      s.wf Addr.NRG_STAT ⟨2, 3⟩ 0
    else s
  let f := s.frm
  let t := s.ecyc
  let start (c : NrgC) : NrgC :=
    { c with sgn := 0, tB := t, fUp := none, fDn := none, qual := 0, half := NHalf.init f, prev := NHalf.init f, nB := 0 }
  let s := if act && !was then s.modNrg (fun n => { n with c := start n.c, ckT := t }) else s
  s.modNrg (fun n => { n with
    w := n.c, dueF := [], dueR := [], skip := if act && rate then 3 else n.skip })

end Sys2Proof.Machine
end

