-- ==== Sys2Proof/Machine/RegView.lean ====
section
/-! DEFINITION. What a register reads as: the stored value, or the value its unit's state gives it (R44, R90). -/

namespace Sys2Proof.Machine

/-- Phase of the running frame (R100): 0 INGEST to 3 DRAIN, 4 tail, 0xF while no schedule runs. -/
def State.phase (s : State) : Nat :=
  if !s.running then 0xF
  else if s.cyc < s.tCmp then 0
  else if s.cyc < s.tEmt then 1
  else if s.cyc < s.tDrn then 2
  else if s.cyc < s.tEnd then 3
  else 4

/-- Entries waiting in staging, and operations in the call queue, which shares the order of acceptance (R85, R295). -/
def State.stgOcc (s : State) : Nat := (s.sch.staging.filter (fun e => e.addr != Addr.STP_CALLQ || e.obj)).length
def State.callOcc (s : State) : Nat := (s.sch.staging.filter (fun e => e.addr == Addr.STP_CALLQ && !e.obj)).length

/-- Is a bank check running (R103)? -/
def State.checking (s : State) : Bool := decide (s.sch.chkKind ≠ 0) || s.pwr.load == 2

/-- Register `a` of a page with registers `stride` bytes apart from `base`: which one. -/
def regIx (a base stride count : Nat) : Option Nat :=
  if base ≤ a ∧ a < base + stride * count ∧ (a - base) % stride = 0 then some ((a - base) / stride) else none

/-! ### Double banks as their data registers show them (R92) -/

/-- Shadow word of a segment table: 0 time, 1 position, 2 velocity. -/
def Tbl.word (t : Tbl) (p k : Nat) : Nat :=
  let q := (aget t.pts p).getD (0, 0, 0)
  match k with | 0 => q.1 | 1 => q.2.1 | _ => q.2.2

/-- A segment table with one word changed; a point of zeros is not listed. -/
def Tbl.setWord (t : Tbl) (p k v : Nat) : Tbl :=
  let (a, b, c) := (aget t.pts p).getD (0, 0, 0)
  let q := match k with | 0 => (v, b, c) | 1 => (a, v, c) | _ => (a, b, v)
  { t with pts := if q = (0, 0, 0) then adel t.pts p else aput t.pts p q }

/-- The shadow coefficient of (axis, level, word). -/
def State.coefWord (s : State) (n l w : Nat) : Word := (s.thr.coefS.getD n coefReset).getD (9 * l + w) 0

/-- A landing of the shadow table: level or access nibble. -/
def LandT.word (t : LandT) (e w : Nat) : Nat := if w = 0 then enc 32 ((aget t.lv e).getD 0) else (aget t.acc e).getD 0

def LandT.setWord (t : LandT) (e w v : Nat) : LandT :=
  if w = 0 then { t with lv := if v % 2 ^ 32 = 0 then adel t.lv e else aput t.lv e (sext 32 v) }
  else { t with acc := if v % 16 = 0 then adel t.acc e else aput t.acc e (v % 16) }

/-! ### Registers of the stop table, faults, recorder, link and power -/

/-- STP_ENTk: the four entries of a landing (R292). -/
def State.stpEnt (s : State) (k : Nat) : Word := wN (ofLE ((List.range 4).map (fun j => s.stp.c.flags (4 * k + j))))

/-- STP_DRECr. -/
def State.stpDrec (s : State) (r : Nat) : Word :=
  match aget s.stp.c.recs r with | some (st, w) => wN (st * 2 ^ 28 + w % 2 ^ 28) | none => 0

/-- FLT_STAT (R626). -/
def State.fltStat (s : State) : Word :=
  let v := s.rd Addr.FLT_STAT
  let v := setF v Fl.FLT_STAT_ACTN s.flt.act.length
  let v := setF v Fl.FLT_STAT_ACLASS (s.flt.act.foldl (fun m f => max m f.cls) 0)
  setF (setF v Fl.FLT_STAT_HCLASS s.flt.hcls) Fl.FLT_STAT_HBUSY (b2n (s.flt.hcls != 0))

/-- FLT_ACTk. -/
def State.fltAct (s : State) (k : Nat) : Word :=
  match s.flt.act[k]? with
  | some f => wN (f.code * 2 ^ 24 + f.src % 256 * 2 ^ 16 + f.cls * 2 ^ 14 + b2n (s.holds f) * 2 ^ 13)
  | none => 0

/-- FLT_GTABk. -/
def State.fltGtab (s : State) (k : Nat) : Word :=
  match s.gEnt k with
  | some e => wN (e.key * 2 ^ 16 + e.code * 2 ^ 13 + min 15 e.own * 16 + min 15 e.heard)
  | none => 0

/-- Words a pass of the scrubber covers: both banks and state memory in 64-bit words (R618). -/
def scrubWords : Nat := 98304

/-- A header field of a bank's image. -/
def State.hdr (s : State) (b off n : Nat) : Nat := ofLE (s.bytes (bankBase b + off) n)

/-- Causes 0x01 to 0x03 of R71: magic, length, CRC. -/
def State.imageCause (s : State) (b : Nat) : Nat :=
  let len := s.hdr b 0x08 4
  if s.hdr b 0 4 ≠ 0x31464853 then 1
  else if len % 4 ≠ 0 ∨ len < 0x84 ∨ 262144 < len then 2
  else if crc32c (s.bytes (bankBase b) (len - 4)) ≠ s.hdr b (len - 4) 4 then 3
  else 0

/-- SCH_CRC_A and SCH_CRC_B (R105, R109): the CRC stored in a bank's image, 0 when it fails at cause 0x01–0x03. -/
def State.bankCrc (s : State) (b : Nat) : Nat := if s.imageCause b = 0 then s.hdr b (s.hdr b 0x08 4 - 4) 4 else 0

/-- The descriptor of a store slot, as read from the loft at boot (R675). -/
def State.slotDesc (s : State) (k : Nat) : LoftSlot := s.pwr.desc.slots.getD k ⟨false, 0, 0, false, 0⟩

/-- PWR_BOOT with the slot descriptors (R675, R684). -/
def State.pwrBoot (s : State) : Word :=
  let v := s.rd Addr.PWR_BOOT
  let v := setF v Fl.PWR_BOOT_PREF s.pwr.desc.pref
  let slot (k : Nat) : Nat × Nat := (b2n (s.slotDesc k).valid, b2n ((s.slotDesc k).valid && (s.slotDesc k).rdy))
  let v := setF (setF v Fl.PWR_BOOT_V0 (slot 0).1) Fl.PWR_BOOT_AR0 (slot 0).2
  setF (setF v Fl.PWR_BOOT_V1 (slot 1).1) Fl.PWR_BOOT_AR1 (slot 1).2

/-- HLK_STAT (R555). -/
def State.hlkStat (s : State) : Word :=
  let v := setF (s.rd Addr.HLK_STAT) Fl.HLK_STAT_HELD s.hlk.held.length
  let v := setF v Fl.HLK_STAT_BULK (b2n s.hlk.bulk.isSome)
  setF v Fl.HLK_STAT_SLOTON (b2n (s.hlk.ep.isSome && !s.flag Addr.HLK_STAT Fl.HLK_STAT_EPLOST))

/-- The frame offset as a signed number (R564): the duty's frame number minus the module's own, from their low 32 bits. -/
def State.fofs (s : State) : Int :=
  match s.pair.bcn with
  | some b => if s.role = 2 then sext 32 ((b.frame + 2 ^ 32 - s.frm % 2 ^ 32) % 2 ^ 32) else 0
  | none => 0

/-- N of IMG_SEND in the running sheaf and CAP (R561). -/
def State.imgN (s : State) : Nat :=
  match s.sch.active with
  | some sh => match sh.slots.find? (fun l => l.unit == 7 && l.op == 2) with | some l => l.n | none => 0
  | none => 0
def State.imgCap (s : State) : Nat := (s.imgN - 36) / 2

/-! ### The read -/

/-- Registers of the pages HIF to HLK and PRF to DOR that the state gives. -/
def State.viewSys (s : State) (a : Nat) : Option Word :=
  if a = Addr.PWR_BOOT then some s.pwrBoot
  else if a = Addr.PWR_STORE then some (setF (s.rd a) Fl.PWR_STORE_BUSY (b2n s.pwr.store.isSome))
  else if a = Addr.SCH_STAT then
    some (setF (setF (s.rd a) Fl.SCH_STAT_RUNNING (b2n s.running)) Fl.SCH_STAT_PHASE s.phase)
  else if a = Addr.SCH_FRM_LO then some (wN (s.frm % 2 ^ 32))
  else if a = Addr.SCH_BANK then some (setF (s.rd a) Fl.SCH_BANK_BUSY (b2n s.checking))
  else if a = Addr.SCH_STG_OCC then some (wN s.stgOcc)
  else if a = Addr.SCH_CRC_A then some (wN (s.bankCrc 0))
  else if a = Addr.SCH_CRC_B then some (wN (s.bankCrc 1))
  else if a = Addr.INT_SUM then
    some (wN (ofBits 16 (fun g => (s.rd (Addr.INT_CAUSE g)).toNat &&& (s.rd (Addr.INT_EN g)).toNat != 0)))
  else if a = Addr.FLT_STAT then some s.fltStat
  else if a = Addr.FLT_FFRM_LO then some (wN (s.flt.ffrm % 2 ^ 32))
  else if a = Addr.FLT_LFRM_LO then some (wN (s.flt.lfrm % 2 ^ 32))
  else if a = Addr.FLT_GSTAT then some (wN (b2n (s.flag Addr.FLT_GCFG Fl.FLT_GCFG_GEN && !s.gleanBus)))
  else if a = Addr.FLT_SCRUB then some (setF (s.rd a) Fl.FLT_SCRUB_POS (s.flt.scrubW * 65536 / scrubWords))
  else if a = Addr.CRC_STAT then some (setF (s.rd a) Fl.CRC_STAT_BUSY (b2n s.flt.crcMem.isSome))
  else if a = Addr.REC_WALL_LO then some (wN (s.wall % 2 ^ 32))
  else if a = Addr.REC_SEQ then some (wN s.rcd.seq)
  else if a = Addr.REC_OLD then some (wN s.recOld)
  else if a = Addr.REC_UNFL then some (wN ((s.rcd.ring.length + s.rcd.wait.length) * 65536 + (if s.loft.volonly then 0 else s.rcd.unfl)))
  else if a = Addr.REC_LOFT then some (if s.rstat Fl.REC_STAT_READY then wN (s.loft.nblk + 65536 * s.loft.spares.length) else s.rd a)
  else if a = Addr.REC_WEAR then some (if s.rstat Fl.REC_STAT_READY then wN s.loft.wear else s.rd a)
  else if a = Addr.REC_WSTAT then some s.recWstat
  else if a = Addr.PAIR_FOFS_LO then some (wI s.fofs)
  else if a = Addr.PAIR_IMG then some (wN (s.imgN + 65536 * s.imgCap))
  else if a = Addr.HLK_STAT then some s.hlkStat
  else if a = Addr.PRF_GMAP then
    some (wN ((List.range 6).foldl (fun v n => v + s.rf (Addr.AX_PCFG n) Fl.AX_PCFG_GRP * 4 ^ n) 0))
  else if a = Addr.PRF_BUSY then
    some (wN (ofBits 6 (fun n => s.hasAx n && s.rf (Addr.AX_STAT n) Fl.AX_STAT_MSTATE != 0)))
  else if a = Addr.THR_CDATA then
    let p := s.rd Addr.THR_CPTR
    let n := getF p Fl.THR_CPTR_AXIS
    some (if s.hasAx n then s.coefWord n (getF p Fl.THR_CPTR_LEVEL) (getF p Fl.THR_CPTR_WORD) else 0)
  else if (List.range 6).any (fun n => (a == Addr.THR_MCFG n || a == Addr.THR_CSWAP n) && !s.thrAxis n) then some 0     -- R237
  else if a = 0x40012000 then
    some (wN ((List.range 4).foldl (fun v k =>
      v + (if s.hasDoor (k + 1) then s.rf (Addr.DOR_STAT (k + 1)) Fl.DOR_STAT_STATE else 0) * 16 ^ k) 0))
  else
    match regIx a (Addr.FLT_ACT 0) 4 16 with
    | some k => some (s.fltAct k)
    | none =>
      match regIx a (Addr.FLT_GTAB 0) 4 16 with
      | some k => some (s.fltGtab k)
      | none =>
        match regIx a (Addr.REC_WIN 0) 4 8 with
        | some w => some (s.recWin w)
        | none =>
          match regIx a (Addr.PWR_SLOT 0) 4 2 with
          | some k => some (wN (if (s.slotDesc k).valid then (s.slotDesc k).crc else 0))
          | none => none

/-- Registers of channel n, by offset: the companions of FBn_POS return the snapshot (R139); before the first read of FBn_POS they
read their reset value 0 (log entry 174). -/
def State.viewFb (s : State) (n o : Nat) : Option Word :=
  ([0x008, 0x010, 0x014, 0x018, 0x01C, 0x020, 0x024, 0x028].findIdx? (fun x => x == o)).map (fun k => (s.fbS n).snap.getD k 0)

/-- Registers of axis n that the state gives. -/
def State.viewAx (s : State) (n a : Nat) : Option Word :=
  let x := s.axS n
  if a = Addr.AX_TNPT n then some (wN x.tabS.n)
  else if a = Addr.AX_TDATA n then
    let p := s.rd (Addr.AX_TPTR n)
    some (wN (x.tabS.word (getF p Fl.AX_TPTR_ENTRY) (getF p Fl.AX_TPTR_WORD)))
  else if a = Addr.AX_RATE_LO n then some (wN (enc 48 x.wCom))
  else if a = Addr.AX_MDATA n then some (wN (microAt (s.drvS n).tblS (s.rf (Addr.AX_MPTR n) Fl.AX_MPTR_ENTRY)))
  else none

/-- Registers of the units STP, BID, FIO and of doors that the state gives; an rms value of a channel that is not judged reads 0
(R426). -/
def State.viewUnit (s : State) (a : Nat) : Option Word :=
  if a = Addr.STP_QSTAT then some (wN s.callOcc)
  else if a = Addr.STP_LNUM then some (wN s.stp.ls.n)
  else if a = Addr.STP_LDATA then
    let p := s.rd Addr.STP_LPTR
    some (wN (s.stp.ls.word (getF p Fl.STP_LPTR_ENTRY) (getF p Fl.STP_LPTR_WORD)))
  else if (List.range 3).any (fun k => (a == Addr.NRG_URMS k && !s.judged k) || (a == Addr.NRG_IRMS k && !s.judged (k + 3))) then some 0
  else if a = Addr.FIO_EOCC then some s.eocc
  else if a = Addr.FIO_INRAW then some (wN s.inRaw)
  else
    match regIx a (Addr.STP_ENT 0) 4 256 with
    | some k => some (s.stpEnt k)
    | none =>
      match regIx a (Addr.STP_DREC 0) 4 64 with
      | some r => some (s.stpDrec r)
      | none =>
        match regIx a (Addr.BID_CALL 0) 4 768 with
        | some j => some (s.bidCall (j / 4) (j % 4))
        | none =>
          match (List.range 4).find? (fun k => a == Addr.DOR_FDATA (k + 1)) with
          | some k => some (wN ((s.dorS (k + 1)).fS.getD (s.rf (Addr.DOR_FPTR (k + 1)) Fl.DOR_FPTR_WORD) 0))
          | none => none

/-- A register's value as a read finds it, without the effects of reading. -/
def State.view (s : State) (a : Nat) : Word :=
  let p := (a - 0x40000000) / 0x1000
  let o := a % 0x1000
  let v : Option Word :=
    if p = 0x09 ∨ p = 0x0A then s.canView (p - 9) o
    else if 0x14 ≤ p ∧ p ≤ 0x19 then (if o < 0x60 then s.viewFb (p - 0x14) o else s.viewAx (p - 0x14) a)
    else if p = 0x1A then (if o < 0x100 then s.viewFb 6 o else s.viewFb 7 (o - 0x100))
    else match s.viewSys a with | some v => some v | none => s.viewUnit a
  v.getD (s.rd a)

end Sys2Proof.Machine
end

