-- ==== Sys2Proof/Machine/CrcUnit.lean ====
section
/-! DEFINITION. The CRC unit (R620–R623), error correction and the scrubber (R616–R618), the background check of the active bank
(R77). -/

namespace Sys2Proof.Machine

/-! ### The CRC unit -/

def State.crcF (s : State) (f : Fld) : Nat := s.rf Addr.CRC_CFG f

/-- Width W. -/
def State.crcW (s : State) : Nat := s.crcF Fl.CRC_CFG_W

/-- Is a feed job open? -/
def State.crcFeed (s : State) : Bool := s.flag Addr.CRC_STAT Fl.CRC_STAT_FEED

/-- Does a job run (R623)? -/
def State.crcRun (s : State) : Bool := s.flt.crcMem.isSome || s.crcFeed

/-- A request is refused (R623). -/
def State.crcRefuse (s : State) : Nat × State := (0x0F010003, (s.wf Addr.CRC_STAT Fl.CRC_STAT_REF 1).irq 2 4)

/-- W, POLY, INIT, XOROUT and the reflections of a preset (R621). -/
def crcPreset (p : Nat) : Nat × Nat × Nat × Nat × Bool :=
  match p with
  | 1 => (6, 0x03, 0, 0x3F, false)
  | 2 => (16, 0x1021, 0xFFFF, 0, false)
  | 3 => (32, 0x04C11DB7, 0xFFFFFFFF, 0xFFFFFFFF, true)
  | _ => (32, 0x1EDC6F41, 0xFFFFFFFF, 0xFFFFFFFF, true)

/-- A write of CRC_CFG (R621, R623). -/
def State.crcCfg (s : State) (v : Word) : Nat × State :=
  let p := getF v Fl.CRC_CFG_PRESET
  if s.crcRun then s.crcRefuse
  else if p = 0 then (0, s.wr Addr.CRC_CFG (v &&& 0x33F))
  else
    let (w, poly, init, xor, ref) := crcPreset p
    let s := s.wr Addr.CRC_CFG (wN (w + b2n ref * 0x300))
    (0, ((s.wr Addr.CRC_POLY (wN poly)).wr Addr.CRC_INIT (wN init)).wr Addr.CRC_XOR (wN xor))

/-- A write of CRC_POLY, CRC_INIT or CRC_XOR (R623). -/
def State.crcPar (s : State) (a : Nat) (v : Word) : Nat × State :=
  if s.crcRun || decide (v.toNat ≥ 2 ^ s.crcW) then s.crcRefuse else (0, s.wr a v)

/-- A write of CRC_ADDR or CRC_LEN. -/
def State.crcJob (s : State) (a : Nat) (v : Word) : Nat × State := if s.crcRun then s.crcRefuse else (0, s.wr a v)

/-- Bytes through the running remainder. -/
def State.crcFeedBytes (s : State) (bs : List Nat) : State :=
  let w := s.crcW
  let poly := (s.rd Addr.CRC_POLY).toNat % 2 ^ w
  let ref := s.crcF Fl.CRC_CFG_REFIN == 1
  let r := bs.foldl (crcByte w poly ref) s.flt.crcReg
  let s := s.modFlt (fun f => { f with crcReg := r })
  s.wr Addr.CRC_CNT (wN ((s.rd Addr.CRC_CNT).toNat + bs.length))

/-- A job starts: the remainder is INIT. -/
def State.crcBegin (s : State) : State :=
  let r := (s.rd Addr.CRC_INIT).toNat % 2 ^ s.crcW
  (s.modFlt (fun f => { f with crcReg := r })).wr Addr.CRC_CNT 0

/-- A job ends with its result (R622). -/
def State.crcFinish (s : State) : State :=
  let x := (s.rd Addr.CRC_XOR).toNat % 2 ^ s.crcW
  let s := s.wr Addr.CRC_RES (wN (crcEnd s.crcW (s.crcF Fl.CRC_CFG_REFOUT == 1) x s.flt.crcReg))
  (s.wf Addr.CRC_STAT Fl.CRC_STAT_DONE 1).irq 2 3

/-- Do `n` bytes from an address lie in one area of R47? -/
def oneArea (a n : Nat) : Bool :=
  [0x20000000, 0x20040000, 0x20080000].any (fun b => decide (b ≤ a) && decide (a + n ≤ b + 0x40000))

/-- ABORT: any job ends without a result. -/
def State.crcAbort (s : State) : State := (s.modFlt (fun f => { f with crcMem := none })).wf Addr.CRC_STAT Fl.CRC_STAT_FEED 0

/-- A write of CRC_CTL (R622, R623): judged whole after its ABORT, then done. -/
def State.crcCtl (s : State) (v : Word) : Nat × State :=
  let on (f : Fld) : Bool := getF v f == 1
  let start := on Fl.CRC_CTL_START
  let open_ := on Fl.CRC_CTL_OPEN
  let b := if on Fl.CRC_CTL_ABORT then s.crcAbort else s
  let nb := getF v Fl.CRC_CTL_NB
  let a := (s.rd Addr.CRC_ADDR).toNat
  let n := (s.rd Addr.CRC_LEN).toNat
  if (b.flt.crcMem.isSome && nb != s.rf Addr.CRC_CTL Fl.CRC_CTL_NB) || (on Fl.CRC_CTL_CLOSE && !b.crcFeed) ||
      ((start || open_) && b.crcRun) || (start && open_) then s.crcRefuse
  else if start && (decide (n = 0) || decide (n > 262144) || !oneArea a n) then (0x06090030, s)
  else
    let s := b.wf Addr.CRC_CTL Fl.CRC_CTL_NB nb
    let s := if on Fl.CRC_CTL_CLOSE then (s.wf Addr.CRC_STAT Fl.CRC_STAT_FEED 0).crcFinish else s
    let s := if start then s.crcBegin.modFlt (fun f => { f with crcMem := some (a, n) }) else s
    (0, if open_ then s.crcBegin.wf Addr.CRC_STAT Fl.CRC_STAT_FEED 1 else s)

/-- A write of CRC_DATA. -/
def State.crcData (s : State) (v : Word) : Nat × State :=
  let nb := s.rf Addr.CRC_CTL Fl.CRC_CTL_NB
  if s.crcFeed then (0, s.crcFeedBytes (leBytes (if nb = 0 then 4 else nb) v.toNat)) else s.crcRefuse

/-- A memory job goes on by up to `n` bytes. -/
def State.crcAdvance (s : State) (n : Nat) : State :=
  match s.flt.crcMem with
  | none => s
  | some (a, left) =>
    let k := min n left
    (s.crcFeedBytes (s.bytes a k)).modFlt (fun f => { f with crcMem := some (a + k, left - k) })

/-- CRC_JOB_DONE: the job's last bytes are taken and it ends; an uncorrectable error it met makes the result invalid. -/
def State.crcJobDone (s : State) (merr : Bool) : State :=
  match s.flt.crcMem with
  | none => s
  | some (_, left) =>
    let s := ((s.crcAdvance left).modFlt (fun f => { f with crcMem := none })).crcFinish
    if merr then
      let (v, s) := s.freeVal
      (s.wr Addr.CRC_RES (wN v)).wf Addr.CRC_STAT Fl.CRC_STAT_MERR 1
    else s

/-! ### The background check (R77) and frame overruns (R75, R76) -/

/-- BACKGROUND_CRC_PASS (R77): a mismatch is a trip-class fault that stops the slots as a frame overrun does. The pass compares with
the CRC word held since the sheaf was taken (DESIGN CHOICE, log 169). -/
def State.crcPass (s : State) : State :=
  match s.sch.active with
  | none => s
  | some sh =>
    let b := s.rf Addr.SCH_BANK Fl.SCH_BANK_ACT
    if crc32c (s.bytes (bankBase b) (sh.imgLen - 4)) = sh.crc then s
    else
      let s := ((s.raise 0x12 b 3).irq 1 1).dropClaim 5
      if s.running then s.abortFrame else s

/-- FRAME_OVERRUN by slot k, detected in cycle `cyc`. -/
def State.overrun (s : State) (k cyc : Nat) : State :=
  if !s.running || s.sch.aborted then s
  else
    match s.sch.active with
    | none => s
    | some sh =>
      match sh.slots[k]? with
      | none => s
      | some sl =>
        let s := s.at cyc
        let s := (s.wf Addr.SCH_STAT Fl.SCH_STAT_OVR 1).bump Addr.SCH_OVR_CNT ⟨0, 32⟩
        let s := s.wr Addr.SCH_OVR_INFO (wN (k % 65536 + 65536 * sl.phase))
        ((((s.raise 0x11 sl.phase 3).irq 1 0).abortFrame).dropClaim 3)

end Sys2Proof.Machine
end

