-- ==== Sys2Proof/Machine/Objects.lean ====
section
/-! DEFINITION. The object dictionary (R48–R52, R491–R494, R525–R527 and the object tables of the chapters): which
entries exist, their types, classes and what each stands for. -/

namespace Sys2Proof.Machine

/-- Access classes (R494). -/
inductive OCls | ro | rw | wo | const | rwf | rws
deriving DecidableEq, Repr

/-- What an entry stands for: a register (its low bytes), a register field, bits of a register in their place, a constant, or a value of its own. -/
inductive OSrc
| reg (a : Nat)
| fld (a : Nat) (f : Fld)
| bits (a : Nat) (f : Fld)
| num (v : Nat)
| errReg | errNum | errFld (k : Nat) | devName | cobEmcy | inhibit | heartbeat | sdoCob (k : Nat)
| frmCtr | bankCmd | nmtAcc | nmtState | nodeSet (x : Nat) | nodeEff (x : Nat)
| ffrm | lfrm | wall | fofs | hostCmd (k : Nat) | edge (g : Nat) | energy (r : Nat) | epFrm | spdWin (n : Nat)
| tbl (n p k : Nat) | coef (n l w : Nat) | coefChk (n : Nat) | micro (n k : Nat) | force (d w : Nat)
| land (e w : Nat)
deriving DecidableEq, Repr

/-- Type codes of R492. -/
def tI16 : Nat := 0x03
def tI32 : Nat := 0x04
def tU8 : Nat := 0x05
def tU16 : Nat := 0x06
def tU32 : Nat := 0x07
def tR32 : Nat := 0x08
def tStr : Nat := 0x09
def tI64 : Nat := 0x15
def tU48 : Nat := 0x19
def tU64 : Nat := 0x1B

/-- Bytes of a type; 0 for a string, whose length its value gives. -/
def typSize (t : Nat) : Nat :=
  match t with
  | 0x03 => 2 | 0x05 => 1 | 0x06 => 2 | 0x15 => 8 | 0x19 => 6 | 0x1B => 8 | 0x09 => 0 | _ => 4

/-- Entries of one index from sub-index `lo` to `hi`: type, class, the bits of class rwf inside an rws entry (R495), and what
the entry `lo + i` stands for. -/
structure ORow where
  lo  : Nat
  hi  : Nat
  typ : Nat
  cls : OCls
  mix : Nat
  src : Nat → OSrc

/-- One entry. -/
structure OEnt where
  typ : Nat
  cls : OCls
  mix : Nat
  src : OSrc
deriving DecidableEq, Repr

/-- A row of one sub-index that stands for a register. -/
def or1 (k t : Nat) (c : OCls) (a : Nat) : ORow := ⟨k, k, t, c, 0, fun _ => .reg a⟩

/-- A row of one sub-index that stands for a register field. -/
def orf (k t : Nat) (c : OCls) (a : Nat) (f : Fld) : ORow := ⟨k, k, t, c, 0, fun _ => .fld a f⟩

/-- A row of registers `st` bytes apart. -/
def orn (lo hi t : Nat) (c : OCls) (a st : Nat) : ORow := ⟨lo, hi, t, c, 0, fun i => .reg (a + st * i)⟩

/-- A row of one sub-index with a value of its own. -/
def ors (k t : Nat) (c : OCls) (s : OSrc) : ORow := ⟨k, k, t, c, 0, fun _ => s⟩

/-- Feedback channel n, index offsets 0x00–0x05 (R156). -/
def objFb (n o : Nat) : List ORow :=
  match o with
  | 0 => [orf 1 tU8 .rws (Addr.FB_CTL n) Fl.FB_CTL_MODE, orf 2 tU8 .rwf (Addr.FB_CTL n) Fl.FB_CTL_FILT,
      orf 3 tI16 .rws (Addr.FB_SCALE n) Fl.FB_SCALE_NUM, orf 4 tU16 .rws (Addr.FB_SCALE n) Fl.FB_SCALE_DEN,
      orf 5 tU8 (if n < 5 then .const else .rws) (Addr.FB_CTL n) Fl.FB_CTL_UNIT, orf 6 tU8 .rws (Addr.FB_CTL n) ⟨8, 3⟩]
  | 1 => [orf 1 tU8 .rwf (Addr.FB_CTL n) Fl.FB_CTL_ZMODE, or1 2 tU32 .rwf (Addr.FB_ZCPR n),
      orf 3 tU16 .rwf (Addr.FB_ZCFG n) Fl.FB_ZCFG_ZTOL, orf 4 tU8 .rwf (Addr.FB_ZCFG n) Fl.FB_ZCFG_ZMLIM,
      or1 5 tI32 .rwf (Addr.FB_PRE n), or1 6 tU8 .wo (Addr.FB_CMD n)]
  | 2 => [or1 1 tU32 .rws (Addr.FB_SER n), or1 2 tU32 .rws (Addr.FB_SCRC n)]
  | 3 => [ors 1 tU8 .rwf (.spdWin n), orf 2 tU16 .rwf (Addr.FB_SPDCFG n) Fl.FB_SPDCFG_TSTILL]
  | 4 => [or1 1 tI32 .ro (Addr.FB_POS n), or1 2 tI32 .ro (Addr.FB_VEL n), or1 3 tU32 .ro (Addr.FB_VBND n),
      or1 4 tU32 .ro (Addr.FB_STAT n), or1 5 tU32 .ro (Addr.FB_SPD n), or1 6 tI32 .ro (Addr.FB_ZLAT n),
      or1 7 tI32 .ro (Addr.FB_ZDEV n), or1 8 tU32 .ro (Addr.FB_ERRCNT n)]
  | 5 => [⟨1, 1, tU8, .rws, 7, fun _ => .reg (Addr.FB_OUT n)⟩] ++ (if n < 6 then [] else
      [orf 2 tU16 .rwf (Addr.FB_DIV n) Fl.FB_DIV_NUMD, orf 3 tU16 .rwf (Addr.FB_DIV n) Fl.FB_DIV_DEND])
  | _ => []

/-- Axis n, index offsets from 0x10 (R199, R239, R284). -/
def objAx (n o : Nat) : List ORow :=
  match o with
  | 0x10 => [orf 1 tU8 .rws (Addr.AX_PCFG n) Fl.AX_PCFG_DRIVE, orf 2 tU8 .rws (Addr.AX_PCFG n) Fl.AX_PCFG_DIRPOL,
      orf 3 tU8 (if n = 0 then .const else .rws) (Addr.AX_PCFG n) Fl.AX_PCFG_GRP, or1 4 tU32 .rws (Addr.AX_SSCALE n)]
  | 0x11 => [or1 1 tU32 .rws (Addr.AX_VMAX n), or1 2 tU32 .rws (Addr.AX_AMAX n), or1 3 tU32 .rws (Addr.AX_JMAX n),
      or1 4 tU32 .rwf (Addr.AX_VRUN n), or1 5 tU32 .rwf (Addr.AX_ARUN n), or1 6 tU32 .rwf (Addr.AX_JRUN n),
      or1 7 tU32 .rwf (Addr.AX_ALIM n), or1 8 tU32 .rwf (Addr.AX_JLIM n), or1 9 tI32 .rwf (Addr.AX_VLO n),
      or1 10 tI32 .rwf (Addr.AX_VHI n), or1 11 tU16 .rwf (Addr.AX_DWELL n), or1 12 tU32 .rwf (Addr.AX_VSS n)]
  | 0x12 => [orf 1 tU8 .wo (Addr.AX_PCMD n) Fl.AX_PCMD_CMD, or1 2 tI32 .rwf (Addr.AX_TGT n), or1 3 tU32 .ro (Addr.AX_STAT n),
      or1 4 tI32 .ro (Addr.AX_CPOS n), or1 5 tI32 .ro (Addr.AX_CVEL n), or1 6 tI32 .ro (Addr.AX_CACC n),
      or1 7 tI32 .ro (Addr.AX_SCNT n), or1 8 tU32 .rwf (Addr.AX_STEP n)]
  | 0x13 => [or1 1 tU32 .rwf (Addr.AX_HCFG n), or1 2 tU32 .rwf (Addr.AX_HSPD n), or1 3 tI32 .rwf (Addr.AX_HPOS n),
      or1 4 tU16 .rwf (Addr.AX_HTIME n), or1 5 tU32 .rwf (Addr.AX_LSW n), or1 6 tU32 .ro (Addr.AX_HSTAT n),
      or1 7 tU32 .rwf (Addr.AX_IRED n)]
  | 0x14 => [⟨1, 64, tU32, .rw, 0, fun i => .tbl n i 0⟩]
  | 0x15 => [⟨1, 64, tI32, .rw, 0, fun i => .tbl n i 1⟩]
  | 0x16 => [⟨1, 64, tI32, .rw, 0, fun i => .tbl n i 2⟩]
  | 0x17 => [orf 1 tU8 .rw (Addr.AX_TNPT n) Fl.AX_TNPT_NPT, or1 2 tU32 .rw (Addr.AX_TSWAP n), or1 3 tU32 .ro (Addr.AX_TCHK n)]
  | 0x20 => [⟨1, 9, tR32, .rw, 0, fun i => .coef n 0 i⟩]
  | 0x21 => [⟨1, 9, tR32, .rw, 0, fun i => .coef n 1 i⟩]
  | 0x22 => [⟨1, 9, tR32, .rw, 0, fun i => .coef n 2 i⟩]
  | 0x23 => [⟨1, 9, tR32, .rw, 0, fun i => .coef n 3 i⟩]
  | 0x24 => [or1 1 tU32 .rw (Addr.THR_CSWAP n), ors 2 tU32 .ro (.coefChk n)]
  | 0x25 => [orf 1 tU8 .rwf (Addr.THR_MCFG n) Fl.THR_MCFG_MODE, orf 2 tU8 .rwf (Addr.THR_MCFG n) Fl.THR_MCFG_NB]
  | 0x26 => [orn 1 4 tU32 .ro (Addr.THR_LSTAT (4 * n)) 4]
  | 0x27 => [orn 1 4 tR32 .ro (Addr.THR_LOUT (4 * n)) 4]
  | 0x28 => [orn 1 4 tR32 .ro (Addr.THR_LINT (4 * n)) 4]
  | 0x30 => [or1 1 tU32 .rws (Addr.AX_PWMCFG n), or1 2 tU32 .rws (Addr.AX_ISCFG n), or1 3 tU16 .rws (Addr.AX_IOC n),
      or1 4 tU32 .rws (Addr.AX_ELEC n), orf 5 tU8 .rws (Addr.AX_MSTEP n) Fl.AX_MSTEP_MR]
  | 0x31 => [or1 1 tU32 .rwf (Addr.AX_CHOP n), or1 2 tU32 .rwf (Addr.AX_ICOIL n), or1 3 tU32 .rwf (Addr.AX_EMF n),
      or1 4 tU32 .rwf (Addr.AX_LACFG n)]
  | 0x32 => [or1 1 tU32 .ro (Addr.AX_IAB n), or1 2 tU32 .ro (Addr.AX_IC n), or1 3 tU32 .ro (Addr.AX_CHOFS n),
      or1 4 tU32 .ro (Addr.AX_LANG n), or1 5 tU32 .rw (Addr.AX_DSTAT n)]
  | 0x33 => [⟨1, 128, tU16, .rw, 0, fun i => .micro n i⟩]
  | 0x34 => [⟨1, 128, tU16, .rw, 0, fun i => .micro n (128 + i)⟩]
  | 0x35 => [or1 1 tU32 .rw (Addr.AX_MSWAP n), or1 2 tU32 .ro (Addr.AX_MCHK n)]
  | _ => []

/-- Door d, index offsets 0–3 (R285). -/
def objDoor (d o : Nat) : List ORow :=
  match o with
  | 0 => [or1 1 tU32 .rws (Addr.DOR_CFG d), or1 2 tU32 .rws (Addr.DOR_IN d), or1 3 tI32 .rwf (Addr.DOR_OPEN d),
      or1 4 tI32 .rwf (Addr.DOR_CLOSE d), or1 5 tU32 .rwf (Addr.DOR_TIM d), or1 6 tU32 .rwf (Addr.DOR_TMV d),
      or1 7 tI32 .rwf (Addr.DOR_BOFF d)]
  | 1 => [or1 1 tU8 .wo (Addr.DOR_CMD d), or1 2 tU32 .ro (Addr.DOR_STAT d), or1 3 tI32 .ro (Addr.DOR_FEST d),
      or1 4 tU32 .ro (Addr.DOR_KE d), or1 5 tU32 .ro (Addr.DOR_VCAP d)]
  | 2 => [⟨1, 11, tU32, .rw, 0, fun i => .force d i⟩]
  | 3 => [or1 1 tU32 .rw (Addr.DOR_FSWAP d), or1 2 tU32 .ro (Addr.DOR_FCHK d)]
  | _ => []

/-- Controller x: 0 is C, 1 is C+1 (R489). -/
def objCan (x o : Nat) : List ORow :=
  match o with
  | 0 => [or1 1 tU32 .rws (Addr.CAN_CFG x), or1 2 tU32 .rws (Addr.CAN_NBT x), or1 3 tU32 .rws (Addr.CAN_DBT x),
      ors 4 tU32 .rws (.bits (Addr.CAN_TDC x) ⟨8, 9⟩), or1 5 tU32 .rwf (Addr.CAN_WAKEID x), or1 6 tU32 .rwf (Addr.CAN_WAKEMASK x),
      or1 7 tU32 .rwf (Addr.CAN_HPID x), or1 8 tU32 .rwf (Addr.CAN_HPMASK x), or1 9 tU8 .wo (Addr.CAN_CMD x)]
  | _ => [or1 1 tU32 .ro (Addr.CAN_STAT x), or1 2 tU32 .ro (Addr.CAN_ERR x), or1 3 tU32 .ro (Addr.CAN_LEC x),
      or1 4 tU32 .ro (Addr.CAN_QSTAT x), or1 5 tU32 .ro (Addr.CAN_QOVF x), or1 6 tU32 .ro (Addr.CAN_TS x)]

/-- Indices 0x1000–0x1201 (R525). -/
def objCia (id : Ident) (ix : Nat) : Option (List ORow) :=
  let u := id.variant.units
  let prod := match id.variant with | .rly4660 => 0x4660 | .rly4640 => 0x4640 | _ => 0x4620
  match ix with
  | 0x1000 => some [ors 0 tU32 .const (.num (u / 2 ^ 28 * 65536))]
  | 0x1001 => some [ors 0 tU8 .ro .errReg]
  | 0x1003 => some [ors 0 tU8 .rw .errNum, ⟨1, 8, tU32, .ro, 0, fun i => .errFld i⟩]
  | 0x1008 => some [ors 0 tStr .const .devName]
  | 0x1014 => some [ors 0 tU32 .const .cobEmcy]
  | 0x1015 => some [ors 0 tU16 .rw .inhibit]
  | 0x1017 => some [ors 0 tU16 .rw .heartbeat]
  | 0x1018 => some [ors 1 tU32 .const (.num 0x0A8D), ors 2 tU32 .const (.num prod),
      ors 3 tU32 .const (.num (u / 2 ^ 24 % 16 * 65536)), ors 4 tU32 .const (.num (id.serial % 2 ^ 32))]
  | 0x1200 => some [⟨1, 2, tU32, .const, 0, fun i => .sdoCob i⟩]
  | 0x1201 => some [⟨1, 2, tU32, .const, 0, fun i => .sdoCob (2 + i)⟩]
  | _ => none

/-- Indices 0x2000–0x22FF (R6, R108, R241, R526, R629, R659). -/
def objSys (id : Ident) (ix : Nat) : List ORow :=
  match ix with
  | 0x2000 => [ors 1 tU8 .const (.num (id.variant.units / 2 ^ 28)), or1 2 tU32 .const Addr.HIF_UNITS,
      ors 3 tU8 .const (.num (if id.variant = .rly4620E then 0x45 else 0))]
  | 0x2100 => [ors 1 tU48 .ro .frmCtr, orf 2 tU8 .ro Addr.SCH_CFG Fl.SCH_CFG_RATE, orf 3 tU16 .ro Addr.SCH_CFG Fl.SCH_CFG_NCYC]
  | 0x2101 => [orf 1 tU8 .ro Addr.SCH_BANK Fl.SCH_BANK_ACT, or1 2 tU32 .ro Addr.SCH_CRC_A, or1 3 tU32 .ro Addr.SCH_CRC_B,
      ors 4 tU8 .wo .bankCmd, or1 5 tU32 .ro Addr.SCH_BANK, or1 6 tU32 .ro Addr.SCH_LDCAUSE]
  | 0x2102 => [or1 1 tU32 .ro Addr.SCH_OVR_CNT, or1 2 tU32 .ro Addr.SCH_OVR_INFO, or1 3 tU32 .ro Addr.SCH_HOP_RES,
      or1 4 tU32 .ro Addr.SCH_STG_REF]
  | 0x2103 => [orf 1 tU16 .rw Addr.SCH_JSW01 Fl.SCH_JSW01_IDX0, orf 2 tU16 .rw Addr.SCH_JSW01 Fl.SCH_JSW01_IDX1,
      orf 3 tU16 .rw Addr.SCH_JSW23 Fl.SCH_JSW23_IDX2, orf 4 tU16 .rw Addr.SCH_JSW23 Fl.SCH_JSW23_IDX3,
      or1 5 tU8 .rw Addr.SCH_JSWCTL]
  | 0x2104 => [ors 1 tU8 .rws .nmtAcc, ors 2 tU8 .ro .nmtState]
  | 0x2105 => [⟨1, 2, tU8, .rws, 0, fun i => .nodeSet i⟩, ⟨3, 4, tU8, .ro, 0, fun i => .nodeEff i⟩]
  | 0x2110 => [or1 1 tU32 .ro Addr.THR_STAT, or1 2 tU32 .ro Addr.THR_LSCNT, or1 3 tU32 .ro Addr.THR_LSMM]
  | 0x2111 => [orn 1 16 tR32 .rwf (Addr.THR_PTH 0) 4]
  | 0x2112 => [⟨1, 16, tU8, .rwf, 0, fun i => .fld (Addr.THR_PCFG i) Fl.THR_PCFG_PNF⟩]
  | 0x2113 => [orn 1 16 tR32 .ro (Addr.THR_PRES 0) 4]
  | 0x2114 => [orn 1 12 tU32 .ro (Addr.THR_BSTAT 0) 4]
  | 0x2200 => [or1 1 tU32 .ro Addr.FLT_STAT, or1 2 tU32 .ro Addr.FLT_FIRST, ors 3 tU48 .ro .ffrm, or1 4 tU32 .ro Addr.FLT_LAST,
      ors 5 tU48 .ro .lfrm, or1 6 tU32 .ro Addr.FLT_COUNT, or1 7 tU8 .wo Addr.FLT_CMD]
  | 0x2201 => [or1 1 tU32 .rws Addr.FLT_RCFG, or1 2 tU32 .rws Addr.FLT_GCFG, or1 3 tU16 .rws Addr.FLT_GMASK, or1 4 tU32 .ro Addr.FLT_GCNT]
  | 0x2202 => [orn 1 16 tU32 .ro (Addr.FLT_ACT 0) 4]
  | 0x2203 => [or1 1 tU32 .rw Addr.FLT_ECCSTAT, or1 2 tU32 .ro Addr.FLT_ECCCADDR, or1 3 tU32 .ro Addr.FLT_ECCUADDR,
      or1 4 tU32 .ro Addr.FLT_ECCCNT, or1 5 tU32 .ro Addr.FLT_SCRUB]
  | 0x2210 => [or1 1 tU32 .rwf Addr.REC_CFG, or1 2 tU32 .ro Addr.REC_STAT, or1 3 tU8 .wo Addr.REC_CMD, or1 4 tU32 .ro Addr.REC_SEQ,
      or1 5 tU32 .ro Addr.REC_OLD, or1 6 tU16 .ro Addr.REC_GEN, or1 7 tU32 .ro Addr.REC_UNFL]
  | 0x2211 => [ors 1 tU48 .rw .wall, or1 2 tU32 .ro Addr.REC_FLFRM]
  | 0x2212 => [or1 1 tU32 .ro Addr.REC_LOFT, or1 2 tU32 .ro Addr.REC_DROPCNT, or1 3 tU32 .ro Addr.REC_BADCNT, or1 4 tU32 .ro Addr.REC_WEAR]
  | 0x2213 => [or1 1 tU32 .rw Addr.REC_CUR, orn 2 9 tU32 .ro (Addr.REC_WIN 0) 4, or1 10 tU32 .ro Addr.REC_WSTAT]
  | _ => []

/-- Indices 0x2300–0x26FF (R422, R451, R489, R556, R593). -/
def objLink (ix : Nat) : List ORow :=
  match ix with
  | 0x2300 => [or1 1 tU32 .rws Addr.PAIR_CFG, or1 2 tU32 .rws Addr.PAIR_SYNCCFG, or1 3 tU32 .rws Addr.PAIR_PTOL, or1 4 tU8 .wo Addr.PAIR_CMD]
  | 0x2301 => [or1 1 tU32 .ro Addr.PAIR_STAT, or1 2 tU32 .ro Addr.PAIR_CLAIM, ors 3 tI64 .ro .fofs, or1 4 tU32 .ro Addr.PAIR_LAST,
      or1 5 tU32 .ro Addr.PAIR_SYNCCNT, or1 6 tU32 .ro Addr.PAIR_SWEEP, or1 7 tU32 .ro Addr.PAIR_ERRCNT, or1 8 tU32 .ro Addr.PAIR_SWCNT,
      or1 9 tU32 .ro Addr.PAIR_TAKE]
  | 0x2400 => [or1 1 tU32 .ro Addr.FIO_IN, or1 2 tU32 .ro Addr.FIO_TAP, or1 3 tU32 .ro Addr.FIO_STAT, orf 4 tU16 .ro Addr.FIO_VF24 Fl.FIO_VF24_V]
  | 0x2401 => [⟨1, 32, tU8, .rwf, 0, fun i => .fld (Addr.FIO_DEB (i / 4)) ⟨8 * (i % 4), 8⟩⟩]
  | 0x2402 => [⟨1, 18, tU8, .rwf, 0, fun i => .hostCmd i⟩]
  | 0x2403 => [or1 1 tU32 .rwf Addr.FIO_HCMD, or1 2 tU32 .ro Addr.FIO_OCMD, or1 3 tU32 .ro Addr.FIO_ORB, or1 4 tU32 .ro Addr.FIO_OWN]
  | 0x2404 => [or1 1 tU8 .rws Addr.FIO_PAR, or1 2 tU16 .rws Addr.FIO_SAFE, or1 3 tU16 .rws Addr.FIO_OCFG,
      orf 4 tU8 .rws Addr.FIO_TAPCFG Fl.FIO_TAPCFG_DISCT]
  | 0x2405 => [or1 1 tU32 .rwf Addr.FIO_STLEN, or1 2 tU32 .rwf Addr.FIO_STLT, or1 3 tU32 .rw Addr.FIO_STALE]
  | 0x2406 => [or1 1 tU8 .wo Addr.FIO_SCMD, or1 2 tU32 .ro Addr.FIO_SSTAT]
  | 0x2407 => [⟨1, 4, tU64, .ro, 0, fun i => .edge i⟩, or1 5 tU32 .ro Addr.FIO_EOVF01, or1 6 tU32 .ro Addr.FIO_EOVF23]
  | 0x2500 => [⟨1, 1, tU32, .rws, 0x20000, fun _ => .reg Addr.NRG_CFG⟩, orf 2 tU8 .rws Addr.NRG_SDCFG Fl.NRG_SDCFG_SDSMP,
      or1 3 tU8 .wo Addr.NRG_CMD, or1 4 tU32 .ro Addr.NRG_STAT]
  | 0x2501 => [orn 1 8 tI32 .rws (Addr.NRG_GAIN 0) 8, orn 9 16 tI32 .rws (Addr.NRG_OFS 0) 8]
  | 0x2502 => [orn 1 8 tI32 .ro (Addr.NRG_INST 0) 4, or1 9 tI32 .ro Addr.NRG_PLINE, or1 10 tI32 .ro Addr.NRG_PDCL, or1 11 tU16 .ro Addr.NRG_FREQ,
      orn 12 14 tU32 .ro (Addr.NRG_URMS 0) 4, orn 15 17 tU32 .ro (Addr.NRG_IRMS 0) 4, or1 18 tU32 .ro Addr.NRG_HCFRM]
  | 0x2503 => [or1 1 tU32 .rwf Addr.NRG_UDIN, or1 2 tU32 .rwf Addr.NRG_EVTH1, or1 3 tU32 .rwf Addr.NRG_EVTH2,
      ⟨4, 15, tU32, .ro, 0, fun i =>
        .reg (match i % 4 with | 0 => Addr.NRG_EVSTART (i / 4) | 1 => Addr.NRG_EVDUR (i / 4) | 2 => Addr.NRG_EVEXT (i / 4) | _ => Addr.NRG_EVCNT (i / 4))⟩]
  | 0x2504 => [ors 1 tI64 .ro (.energy 0), ⟨2, 4, tU64, .ro, 0, fun i => .energy (1 + i)⟩, ors 5 tI64 .ro (.energy 4),
      ⟨6, 8, tU64, .ro, 0, fun i => .energy (5 + i)⟩, ors 9 tU32 .ro (.energy 8), ors 10 tU32 .ro (.energy 9), or1 11 tU32 .ro Addr.NRG_PUBFRM]
  | 0x2505 => [or1 1 tU32 .rwf Addr.NRG_PCFG, or1 2 tU32 .rwf Addr.NRG_PEPP, or1 3 tU32 .ro Addr.NRG_PSTAT, or1 4 tU32 .ro Addr.NRG_LOST,
      or1 5 tU32 .ro Addr.NRG_CKFRM]
  | 0x2600 => objCan 0 0
  | 0x2601 => objCan 0 1
  | 0x2602 => objCan 1 0
  | 0x2603 => objCan 1 1
  | 0x2610 => [or1 1 tU8 .rw Addr.HLK_CFG, or1 2 tU32 .ro Addr.HLK_STAT, or1 3 tU32 .ro Addr.HLK_ERRCNT, or1 4 tU32 .ro Addr.HLK_SLOTMISS]
  | 0x2611 => [or1 1 tU32 .ro Addr.HLK_EPNUM, ors 2 tU48 .ro .epFrm, or1 3 tU16 .ro Addr.HLK_EPCYC, or1 4 tU32 .ro Addr.HLK_SLOT]
  | 0x2612 => [or1 1 tU32 .ro Addr.HIF_VIOL_ADDR, or1 2 tU32 .ro Addr.HIF_VIOL_INFO, or1 3 tU32 .ro Addr.HIF_VIOL_CODE, or1 4 tU32 .ro Addr.HIF_VIOL_CNT]
  | _ => []

/-- Indices 0x3800 and 0x4000–0x42FF (R285, R314, R350, R389). -/
def objTraffic (ix : Nat) : List ORow :=
  match ix with
  | 0x3800 => [or1 1 tU32 .ro 0x40012000]
  | 0x4000 => [⟨1, 1, tU32, .rws, 0x30, fun _ => .reg Addr.STP_CFG⟩, or1 2 tU32 .rws Addr.STP_DECKH,
      ⟨3, 3, tU32, .rws, 0xFFFF0000, fun _ => .reg Addr.STP_LTOL⟩, or1 4 tU32 .rwf Addr.STP_RLV, or1 5 tU32 .rwf Addr.STP_RLV2,
      or1 6 tU32 .rwf Addr.STP_RLVEL, or1 7 tU32 .rwf Addr.STP_CMARG, or1 8 tU32 .rwf Addr.STP_ADV, or1 9 tU16 .rwf Addr.STP_TSTART]
  | 0x4001 => [or1 1 tU32 .ro Addr.STP_STAT, or1 2 tU32 .ro Addr.STP_NEXT, or1 3 tI32 .ro Addr.STP_LEVEL, or1 4 tU32 .ro Addr.STP_DIST,
      or1 5 tU16 .ro Addr.STP_LOAD, or1 6 tU32 .ro Addr.STP_SERVED, or1 7 tU32 .ro Addr.STP_WDREF, or1 8 tU8 .wo Addr.STP_CMD]
  | 0x4002 => [or1 1 tU32 .wo Addr.STP_CALLQ, orf 2 tU8 .ro Addr.STP_QSTAT Fl.STP_QSTAT_OCC]
  | 0x4003 => [⟨1, 128, tI32, .rw, 0, fun i => .land i 0⟩]
  | 0x4004 => [⟨1, 128, tI32, .rw, 0, fun i => .land (128 + i) 0⟩]
  | 0x4005 => [⟨1, 128, tU8, .rw, 0, fun i => .land i 1⟩]
  | 0x4006 => [⟨1, 128, tU8, .rw, 0, fun i => .land (128 + i) 1⟩]
  | 0x4007 => [or1 1 tU16 .rw Addr.STP_LNUM, or1 2 tU32 .rw Addr.STP_LSWAP, or1 3 tU32 .ro Addr.STP_LCHK]
  | 0x4008 => [orn 1 128 tU32 .ro (Addr.STP_ENT 0) 4]
  | 0x4009 => [orn 1 128 tU32 .ro (Addr.STP_ENT 128) 4]
  | 0x400A => [orn 1 64 tU32 .ro (Addr.STP_DREC 0) 4]
  | 0x4100 => [⟨1, 1, tU32, .rws, 0x70000, fun _ => .reg Addr.BID_CFG⟩, or1 2 tU32 .rwf Addr.BID_TIME, or1 3 tU32 .rwf Addr.BID_COST1,
      or1 4 tU32 .rwf Addr.BID_COST2, orf 5 tU16 .rwf Addr.BID_ENRG Fl.BID_ENRG_WE, or1 6 tI32 .rwf Addr.BID_EUP, or1 7 tI32 .rwf Addr.BID_EDN,
      or1 8 tU32 .rwf Addr.BID_RALL, or1 9 tU32 .rwf Addr.BID_ALIVE]
  | 0x4101 => [or1 1 tU32 .ro Addr.BID_STAT, or1 2 tU32 .ro Addr.BID_OCC, or1 3 tU32 .ro Addr.BID_PRES_LO, or1 4 tU32 .ro Addr.BID_PRES_HI,
      or1 5 tU32 .ro Addr.BID_WON, or1 6 tU32 .ro Addr.BID_LOST, or1 7 tU32 .ro Addr.BID_LATE, or1 8 tU32 .ro Addr.BID_BLATE,
      or1 9 tU32 .ro Addr.BID_REALL, or1 10 tU8 .wo Addr.BID_CMD]
  | 0x4102 => [or1 1 tU32 .wo Addr.BID_CALLIN]
  | 0x4103 => [orn 1 192 tU32 .ro (Addr.BID_CALL 0) 16]
  | 0x4104 => [orn 1 192 tU32 .ro (Addr.BID_CALL 1) 16]
  | 0x4105 => [orn 1 192 tU32 .ro (Addr.BID_CALL 2) 16]
  | 0x4106 => [orn 1 192 tU32 .ro (Addr.BID_CALL 3) 16]
  | 0x4200 => [or1 1 tU8 .rws Addr.HDL_CFG, or1 2 tU32 .rws Addr.HDL_AGRD, or1 3 tU32 .rws Addr.HDL_AEMG, or1 4 tU32 .rws Addr.HDL_TIME,
      or1 5 tU32 .rws Addr.HDL_MARGIN, or1 6 tI32 .rws Addr.HDL_TERMHI, or1 7 tI32 .rws Addr.HDL_TERMLO, or1 8 tU32 .rws Addr.HDL_ESCCFG,
      or1 9 tU32 .rws Addr.HDL_OVCFG, or1 10 tU32 .rws Addr.HDL_ZWIN, or1 11 tU32 .rws Addr.HDL_RLV, or1 12 tU32 .rws Addr.HDL_DLMASK,
      or1 13 tU32 .rws Addr.HDL_DLPOL, or1 14 tU32 .rws Addr.HDL_ZIN]
  | 0x4201 => [or1 1 tU32 .ro Addr.HDL_STAT, or1 2 tI32 .ro Addr.HDL_VG, or1 3 tU32 .ro Addr.HDL_DSTOP, or1 4 tU32 .ro Addr.HDL_DEMG,
      or1 5 tI32 .ro Addr.HDL_GTERM, or1 6 tU32 .ro Addr.HDL_VLIM, or1 7 tI32 .ro Addr.HDL_PREF, or1 8 tU32 .ro Addr.HDL_PERM,
      or1 9 tU32 .ro Addr.HDL_CCHK, or1 10 tU32 .ro Addr.HDL_ESC]
  | 0x4202 => [orn 1 16 tI32 .rws (Addr.HDL_OVP 0) 8]
  | 0x4203 => [orn 1 16 tU32 .rws (Addr.HDL_OVV 0) 8]
  | 0x4204 => [or1 1 tU32 .rws Addr.HDL_SHCFG, or1 2 tU32 .rws Addr.HDL_TOP, or1 3 tU32 .rws Addr.HDL_BOT, or1 4 tU32 .rws Addr.HDL_SEP,
      or1 5 tU32 .rws Addr.HDL_SGAP, or1 6 tI32 .rws Addr.HDL_SOFS]
  | 0x4205 => [or1 1 tI32 .ro Addr.HDL_NPOS, or1 2 tI32 .ro Addr.HDL_NVG, or1 3 tU32 .ro Addr.HDL_NDSTOP, or1 4 tI32 .ro Addr.HDL_GSHAFT,
      or1 5 tI32 .ro Addr.HDL_GTRIP, or1 6 tU32 .ro Addr.HDL_NSTAT]
  | 0x4206 => [or1 1 tU8 .wo Addr.HDL_CMD]
  | _ => []

/-! ### PDO indices (R510, R511) -/

/-- PDO records of a controller and direction, in record order. -/
def State.pdos (s : State) (x : Nat) (tx : Bool) : List SRec :=
  (s.recsOf (canTyp x 3)).filter (fun r => match s.obj? x (oObj r) with | some o => oTx o == tx | none => false)

/-- Rows of a PDO index: communication parameters at 0x1400 and 0x1800, mapping at 0x1600 and 0x1A00. -/
def State.objPdo (s : State) (ix : Nat) : Option (List ORow) :=
  let p := ix % 0x200
  if ix < 0x1400 ∨ ix ≥ 0x1C00 ∨ p ≥ 64 then none
  else
    let tx := decide (ix ≥ 0x1800)
    let x := p / 32
    match (s.pdos x tx)[p % 32]? with
    | none => none
    | some r =>
      if ix / 0x200 % 2 = 0 then
        let cob := match s.obj? x (oObj r) with | some o => oId o + 2 ^ 29 * b2n (oIde o) | none => 0
        some ([ors 1 tU32 .const (.num cob), ors 2 tU8 .const (.num 254)] ++
          (if tx then [ors 3 tU16 .const (.num 0), ors 5 tU16 .const (.num 0)] else []))
      else
        let m := r.b 1 11 8
        some (if m = 0 then [] else [⟨1, m, tU32, .const, 0, fun i => .num (r.w (2 + i))⟩])

/-! ### Finding an entry (R48–R51, R497 checks 1 to 3) -/

/-- The access class of a register as a window entry (R51): staged when a field is RWF. -/
def RegRow.cls (r : RegRow) : OCls :=
  let has (a : Acc) : Bool := r.rows.any (fun f => f.acc == a)
  if has .rwf then .rwf
  else if r.rows.all (fun f => f.acc == .wo) then .wo
  else if has .rw || has .w1c || has .wo then .rw
  else .ro

/-- Is the index in the range of an absent unit, axis, channel or door (R497 check 2)? -/
def State.objAbsent (s : State) (ix : Nat) : Bool :=
  let h := ix / 0x100
  if h = 0x25 then !s.hasUnit 3
  else if 0x30 ≤ h ∧ h ≤ 0x35 then !s.hasAx (h - 0x30)
  else if 0x3810 ≤ ix ∧ ix ≤ 0x384F then !s.hasDoor ((ix - 0x3800) / 0x10)
  else if h = 0x40 then !s.hasUnit 4
  else if h = 0x41 then !s.hasUnit 0
  else if h = 0x42 then !s.hasUnit 1 || ((ix == 0x4204 || ix == 0x4205) && !s.hasUnit 2)
  else if 0x5000 ≤ ix ∧ ix ≤ 0x56BF then
    let p := (ix - 0x5000) / 0x40
    !s.hasPage p || (decide (0x5344 ≤ ix) && decide (ix ≤ 0x5347) && !s.hasUnit 2) ||
      (p == 0x12 && decide (4 ≤ ix % 0x40) && decide (ix % 0x40 < 0x14) && !s.hasDoor (ix % 0x40 / 4))
  else false

/-- The rows of an index outside the register window; none where the index does not exist. -/
def State.objRows (s : State) (ix : Nat) : Option (List ORow) :=
  let some' (l : List ORow) : Option (List ORow) := if l.isEmpty then none else some l
  let h := ix / 0x100
  if ix < 0x1400 then objCia s.id ix
  else if ix < 0x2000 then s.objPdo ix
  else if h < 0x23 then some' (objSys s.id ix)
  else if h < 0x27 then some' (objLink ix)
  else if 0x30 ≤ h ∧ h ≤ 0x35 then some' (if ix % 0x100 < 0x10 then objFb (h - 0x30) (ix % 0x100) else objAx (h - 0x30) (ix % 0x100))
  else if h = 0x36 ∨ h = 0x37 then some' (objFb (h - 0x30) (ix % 0x100))
  else if 0x3810 ≤ ix ∧ ix ≤ 0x384F then some' (objDoor ((ix - 0x3800) / 0x10) (ix % 0x10))
  else some' (objTraffic ix)

/-- The address a window entry maps (R50). -/
def winAddr (ix sub : Nat) : Nat := 0x40000000 + (ix - 0x5000) * 0x40 + 4 * (sub - 1)

/-- The highest sub-index of an index. -/
def State.objMax (s : State) (ix : Nat) : Nat :=
  if 0x5000 ≤ ix then 16 else match s.objRows ix with | some l => l.foldl (fun m r => max m r.hi) 0 | none => 0

/-- An entry, or the abort code of checks 1 to 3. -/
def State.objFind (s : State) (ix sub : Nat) : Except Nat OEnt :=
  if s.objAbsent ix then .error 0x06060000
  else if 0x5000 ≤ ix ∧ ix ≤ 0x56BF then
    if 0x54C0 ≤ ix ∧ ix ≤ 0x54FF then .error 0x06020000
    else if sub = 0 then .ok ⟨tU8, .const, 0, .num 16⟩
    else if sub > 16 then .error 0x06020000
    else
      match regRow? (winAddr ix sub) with
      | some r => .ok ⟨tU32, r.cls, 0, .reg (winAddr ix sub)⟩
      | none => .error 0x06020000
  else
    match s.objRows ix with
    | none => .error 0x06020000
    | some l =>
      match l.find? (fun r => decide (r.lo ≤ sub) && decide (sub ≤ r.hi)) with
      | some r => .ok ⟨r.typ, r.cls, r.mix, r.src (sub - r.lo)⟩
      | none => if sub = 0 then .ok ⟨tU8, .const, 0, .num (s.objMax ix)⟩ else .error 0x06020000

/-! ### The value of an entry -/

/-- ASCII bytes of the device name. -/
def Variant.name : Variant → List Nat
  | .rly4660 => [0x52, 0x4C, 0x59, 0x2D, 0x34, 0x36, 0x36, 0x30]
  | .rly4640 => [0x52, 0x4C, 0x59, 0x2D, 0x34, 0x36, 0x34, 0x30]
  | .rly4620 => [0x52, 0x4C, 0x59, 0x2D, 0x34, 0x36, 0x32, 0x30]
  | .rly4620E => [0x52, 0x4C, 0x59, 0x2D, 0x34, 0x36, 0x32, 0x30, 0x2D, 0x45]

/-- The node state byte of heartbeat and 0x2104:02 (R517); 0 in RESET and LOAD. -/
def MSt.nmt : MSt → Nat
  | .RESET => 0 | .LOAD => 0 | .RUN => 0x05 | _ => 0x7F

/-- The value of an entry as a read finds it, without the effects of reading. -/
def State.objVal (s : State) (e : OEnt) : Nat :=
  match e.src with
  | .reg a => (s.view a).toNat
  | .fld a f =>
    let v := getF (s.view a) f
    if e.typ = tI16 then enc 16 (sext f.w v) else v
  | .bits a f => getF (s.view a) f * 2 ^ f.lo
  | .num v => v
  | .errReg => s.errReg
  | .errNum => s.cia.hist.length
  | .errFld k => match s.cia.hist[k]? with | some m => m.err + m.code * 65536 + m.src * 2 ^ 24 | none => 0
  | .devName => ofLE s.id.variant.name
  | .cobEmcy => 0x80 + s.cia.nodeA
  | .inhibit => s.cia.inhib
  | .heartbeat => s.cia.hbt
  | .sdoCob k => (if k % 2 = 0 then 0x600 else 0x580) + (if k / 2 = 0 then s.cia.nodeA else s.cia.nodeB)
  | .frmCtr => s.frm
  | .bankCmd => 0
  | .nmtAcc => s.cia.nmt
  | .nmtState => s.mode.nmt
  | .nodeSet x => if x = 0 then s.cia.setA else s.cia.setB
  | .nodeEff x => if x = 0 then s.cia.nodeA else s.cia.nodeB
  | .ffrm => s.flt.ffrm
  | .lfrm => s.flt.lfrm
  | .wall => s.wall
  | .fofs => enc 64 s.fofs
  | .hostCmd k => s.rf Addr.FIO_HCMD ⟨k, 1⟩
  | .edge _ => 0
  | .energy r => if r < 8 then s.nrg.pub.getD r 0
      else ofLE ((List.range 4).map (fun k => s.nrg.pubW.getD (4 * (r - 8) + k) 0))
  | .epFrm => (s.rd Addr.HLK_EPFRM_LO).toNat + 2 ^ 32 * (s.rd Addr.HLK_EPFRM_HI).toNat
  | .spdWin n => s.rf (Addr.FB_SPDCFG n) Fl.FB_SPDCFG_WIN + 1
  | .tbl n p k => (s.axS n).tabS.word p k
  | .coef n l w => (s.coefWord n l w).toNat
  | .coefChk n => (s.thr.chk.getD n 0).toNat
  | .micro n k => microAt (s.drvS n).tblS k
  | .force d w => (s.dorS d).fS.getD w 0
  | .land e' w => s.stp.ls.word e' w

/-- Size of an entry in bytes. -/
def State.objSize (s : State) (e : OEnt) : Nat := if e.typ = tStr then s.id.variant.name.length else typSize e.typ

/-- The bytes of an entry's value. -/
def State.objBytes (s : State) (e : OEnt) (v : Nat) : List Nat := leBytes (s.objSize e) v

end Sys2Proof.Machine
end

