-- ==== Sys2Proof/Machine/Judge.lean ====
section
/-! DEFINITION. How a control-path value is judged: CONFIG-only fields (R112), ranges and relations (R113 and the rules that
refer to it), and how it is put into a register or entry. -/

namespace Sys2Proof.Machine

/-- The register value a write makes: writable fields take the written bits, all others stay. -/
def RegRow.merge (r : RegRow) (old v : Word) : Word :=
  r.rows.foldl (fun w f => if f.acc = .rw ∨ f.acc = .rwf then setF w f.fld (getF v f.fld) else w) old

/-- Does a write change a CONFIG-only field? -/
def RegRow.cfgHit (r : RegRow) (old v : Word) : Bool :=
  r.rows.any (fun f => f.cfg && getF old f.fld != getF v f.fld)

/-- Is a field unchanged, or inside its range? -/
def FieldRow.inRange (f : FieldRow) (old v : Word) : Bool :=
  f.acc == .ro || getF old f.fld == getF v f.fld || f.rng.isEmpty ||
    f.rng.any (fun i => decide (i.1 ≤ getF v f.fld) && decide (getF v f.fld ≤ i.2))

/-- Is every changed field inside its range? -/
def RegRow.inRange (r : RegRow) (old v : Word) : Bool := r.rows.all (fun f => f.inRange old v)

/-- Axis n whose page holds an address. -/
def axOf (a : Nat) : Nat := (a - 0x40014000) / 0x1000

/-- The door whose register at offset `off` an address is, 0 none. -/
def doorOf (a off : Nat) : Nat := ((List.range 4).find? (fun k => a == dorBase (k + 1) + off)).elim 0 (· + 1)

/-- Relations between values: run and limit-ramp values (R161), AX0 under an enabled guard (R354), divider (R147), a mode
without a source (R227), CAN timing sets (R457), state commands (R684), the axis of THR_CPTR (R238). -/
def State.relOk (s : State) (a : Nat) (old v : Word) : Bool :=
  let n := axOf a
  let le (b : Nat) : Bool := decide (v.toNat ≤ (s.rd b).toNat)
  let guard := s.hasUnit 1 && s.flag Addr.HDL_CFG Fl.HDL_CFG_EN
  if old = v then true
  else if a = Addr.AX_VRUN n then le (Addr.AX_VMAX n)
  else if a = Addr.AX_ARUN n then le (Addr.AX_AMAX n)
  else if a = Addr.AX_JRUN n then le (Addr.AX_JMAX n)
  else if a = Addr.AX_ALIM n then
    le (Addr.AX_AMAX n) && !(guard && n == 0 && decide (v.toNat < (s.rd Addr.HDL_AGRD).toNat))
  else if a = Addr.AX_JLIM n then le (Addr.AX_JMAX n)
  else if a = Addr.AX_VLO 0 then !(guard && decide (sW v < s.rs Addr.HDL_TERMLO))
  else if a = Addr.AX_VHI 0 then !(guard && decide (sW v > s.rs Addr.HDL_TERMHI))
  else if (List.range 8).any (fun k => a == Addr.FB_DIV k) then
    let nu := getF v Fl.FB_DIV_NUMD
    let de := getF v Fl.FB_DIV_DEND
    nu != 0 && de != 0 && decide (nu ≤ de)
  else if a = Addr.CAN_NBT 0 then timingOk v (s.rd (Addr.CAN_DBT 0))
  else if a = Addr.CAN_NBT 1 then timingOk v (s.rd (Addr.CAN_DBT 1))
  else if a = Addr.CAN_DBT 0 then timingOk (s.rd (Addr.CAN_NBT 0)) v
  else if a = Addr.CAN_DBT 1 then timingOk (s.rd (Addr.CAN_NBT 1)) v
  else if a = Addr.PWR_MCMD then
    let c := getF v Fl.PWR_MCMD_CMD
    let k := getF v Fl.PWR_MCMD_KEY
    (decide (1 ≤ c) && decide (c ≤ 7) && k == 0) || (c == 0x0F && k == 0x5A)
  else if a = Addr.THR_CPTR then s.hasAx (getF v Fl.THR_CPTR_AXIS)
  else
    match regIx a (Addr.THR_MCFG 0) 4 6 with
    | some k =>
      let m := getF v Fl.THR_MCFG_MODE
      m == getF old Fl.THR_MCFG_MODE || !s.modeUnused k m
    | none => true

/-- The value of a register as its fields stand now: command registers read 0. -/
def State.held (s : State) (a : Nat) : Word := if a = Addr.PWR_MCMD then 0 else s.rd a

/-- Is a value refused under R113? The whole of PWR_MCMD is judged in every write. -/
def State.valueOk (s : State) (a : Nat) (v : Word) : Bool :=
  match regRow? a with
  | none => false
  | some r =>
    let old := s.held a
    let new := r.merge old v
    if a = Addr.PWR_MCMD then s.relOk a (~~~ v) v else r.inRange old new && s.relOk a old new

/-! ### Entries -/

/-- The register an entry stands for, and the register value a written value makes. -/
def State.objReg (s : State) (e : OEnt) (v : Nat) : Option (Nat × Word) :=
  match e.src with
  | .reg a =>
    let n := 8 * typSize e.typ
    some (a, if n ≥ 32 then wN v else setF (s.held a) ⟨0, n⟩ v)
  | .fld a f => some (a, setF (s.held a) f v)
  | .bits a f => some (a, setF (s.held a) f (v / 2 ^ f.lo))
  | .spdWin n => some (Addr.FB_SPDCFG n, setF (s.rd (Addr.FB_SPDCFG n)) Fl.FB_SPDCFG_WIN (v - 1))
  | .hostCmd k => some (Addr.FIO_HCMD, setF (s.rd Addr.FIO_HCMD) ⟨k, 1⟩ v)
  | _ => none

/-- Does a value of an entry lie inside its range (R497 check 8)? A value wider than its field does not. -/
def State.objValueOk (s : State) (e : OEnt) (v : Nat) : Bool :=
  let own :=
    match e.src with
    | .fld _ f => decide (v < 2 ^ f.w)
    | .spdWin _ => decide (1 ≤ v) && decide (v ≤ 16)
    | .hostCmd _ => decide (v ≤ 1)
    | .bankCmd => v == 1 || v == 2
    | .nmtAcc => decide (v < 16)
    | .nodeSet _ => decide (v < 128)
    | .errNum => v == 0
    | .tbl _ _ _ => true
    | .land _ w => w == 0 || decide (v < 16)
    | _ => true
  own && (match s.objReg e v with | some (a, w) => s.valueOk a w | none => true)

/-! ### Putting a value in place -/

/-- A double bank's shadow word, or an entry of its own, takes a value; `both` writes a coefficient into both banks (R223). -/
def State.objPutOwn (s : State) (e : OEnt) (v : Nat) (both : Bool) : State :=
  match e.src with
  | .tbl n p k => s.modAx n (fun x => { x with tabS := x.tabS.setWord p k v })
  | .coef n l w => s.coefPut n (9 * l + w) (wN v) both
  | .micro n k => s.modDrv n (fun d => { d with tblS := microPut d.tblS k v })
  | .force d w => s.modDor d (fun x => { x with fS := x.fS.set w v })
  | .land k w => s.modStp (fun p => { p with ls := p.ls.setWord k w v })
  | .inhibit => s.modCia (fun c => { c with inhib := v })
  | .heartbeat => s.modCia (fun c => { c with hbt := v })
  | .nmtAcc => s.modCia (fun c => { c with nmt := v })
  | .nodeSet x => s.modCia (fun c => if x = 0 then { c with setA := v } else { c with setB := v })
  | .errNum => s.modCia (fun c => { c with hist := [] })
  | .wall => s.wallSet v 1
  | _ => s

/-- The reset value of THOLD for a role (R275). -/
def tholdReset (role : Nat) : Nat :=
  match role with
  | 1 => 50
  | 2 | 3 => 300
  | 4 | 5 => 0
  | _ => 30

/-- DOR_CFGd has changed: with a new ROLE, a THOLD that nothing has written since reset takes that role's reset value (R275; log 165). -/
def State.roleApplied (s : State) (d : Nat) (old v : Word) : State :=
  if getF old Fl.DOR_CFG_ROLE = getF v Fl.DOR_CFG_ROLE ∨ (s.dorS d).thW = true then s
  else s.wf (Addr.DOR_TIM d) Fl.DOR_TIM_THOLD (tholdReset (getF v Fl.DOR_CFG_ROLE))

/-- What follows when a configuration register has taken a new value at a boundary. Of the fields R115 names only a change of MODE
resets a channel: a new UNIT or FBn_SCALE leaves counter, accumulator and estimator as they are (log entry 175). -/
def State.regApplied (s : State) (a : Nat) (old : Word) : State :=
  let v := s.rd a
  let n := axOf a
  if old = v then s
  else if a = Addr.AX_VMAX n ∨ a = Addr.AX_AMAX n ∨ a = Addr.AX_JMAX n then s.limitsChanged n
  else if a = Addr.AX_ICOIL n then (if getF old Fl.AX_ICOIL_IRUN = getF v Fl.AX_ICOIL_IRUN then s else s.ofsClear n)
  else if a = Addr.AX_PCFG n then (if getF old Fl.AX_PCFG_DRIVE = 0 then s.ofsClear n else s)
  else if a = Addr.FIO_STLEN then s.stlenApplied old v
  else if a = Addr.FIO_HCMD then s.hostApplied old v
  else if a = Addr.FIO_SAFE then s.passSafe
  else if a = Addr.NRG_PCFG then (if getF old Fl.NRG_PCFG_PSRC = getF v Fl.NRG_PCFG_PSRC then s else s.nrgPulseCfg)
  else if a = Addr.NRG_PEPP then s.nrgPulseCfg
  else if doorOf a 0x000 ≠ 0 then s.roleApplied (doorOf a 0x000) old v
  else
    match regIx a (Addr.FIO_DEB 0) 4 8 with
    | some k => s.debApplied k old v
    | none =>
      match (List.range 8).find? (fun k => a == Addr.FB_CTL k) with
      | some k => if getF old Fl.FB_CTL_MODE = getF v Fl.FB_CTL_MODE then s else s.fbModeSet k
      | none =>
        match (List.range 8).find? (fun k => a == Addr.FB_DIV k || a == Addr.FB_ZCFG k) with
        | some k => if a = Addr.FB_DIV k then s.modFb k (fun c => { c with rem := 0 }) else s.fbShow k
        | none => s

/-- A register takes a value that was accepted, and what follows. -/
def State.regPut (s : State) (a : Nat) (v : Word) : State :=
  match regRow? a with
  | none => s
  | some r =>
    let old := s.rd a
    let s := (s.wr a (r.merge old v)).regApplied a old
    let d := doorOf a 0x010
    if d = 0 then s else s.modDor d (fun x => { x with thW := true })

/-- Is an entry a register of a feedback channel? The channel. -/
def fbOfAddr (a : Nat) : Option Nat := (List.range 8).find? (fun k => decide (fbBase k ≤ a) && decide (a < fbBase k + 0x60))

/-- A valid value has been written to the fields of a register that lie in `f`: the hold of a channel whose default for them was out
of range ends when no such field is left (R113). -/
def State.fbFreed (s : State) (a : Nat) (f : Fld) : State :=
  match fbOfAddr a with
  | none => s
  | some n =>
    let rest := (s.fbS n).bad.filter (fun p => !(p.1 == a && decide (f.lo ≤ p.2) && decide (p.2 < f.lo + f.w)))
    if rest.length = (s.fbS n).bad.length then s
    else
      let s := s.modFb n (fun c => { c with bad := rest, cfgerr := !rest.isEmpty })
      if rest.isEmpty then s.fbModeSet n else s

/-- The part of its register that an entry stands for. -/
def OSrc.part : OSrc → Fld
  | .fld _ f => f
  | .bits _ f => f
  | .spdWin _ => Fl.FB_SPDCFG_WIN
  | _ => ⟨0, 32⟩

/-! ### ODDEF defaults (R66, R82, R113, R457, R708) -/

/-- Index, sub-index, size and value of an ODDEF record. -/
def SRec.odIx (r : SRec) : Nat := r.b 1 15 0
def SRec.odSub (r : SRec) : Nat := r.b 1 23 16
def SRec.odSize (r : SRec) : Nat := r.b 1 31 24
def SRec.odVal (r : SRec) : Nat := (r.w 2 + 2 ^ 32 * r.w 3) % 2 ^ (8 * r.odSize)

/-- The register an entry stands for, whole or in part. -/
def OSrc.addr? : OSrc → Option Nat
  | .reg a => some a
  | .fld a _ => some a
  | .bits a _ => some a
  | .spdWin n => some (Addr.FB_SPDCFG n)
  | _ => none

/-- Is the entry, of its own index or of the register window, one of a feedback channel or controller? These are exempt from the
range check of R708. -/
def odExempt (e : OEnt) : Bool :=
  match e.src.addr? with
  | some a => (fbOfAddr a).isSome || (decide (0x40009000 ≤ a) && decide (a < 0x4000B000))
  | none => false

/-- Registers that command and hold no configuration. -/
def commands (a : Nat) : Bool :=
  [Addr.PWR_MCMD, Addr.FIO_SCMD, Addr.HDL_CMD, Addr.BID_CMD, Addr.STP_CMD, Addr.NRG_CMD, Addr.PAIR_CMD, Addr.STP_CALLQ].contains a ||
    a == Addr.AX_PCMD (axOf a) || [1, 2, 3, 4].any (fun d => a == Addr.DOR_CMD d) || (List.range 8).any (fun k => a == Addr.FB_CMD k)

/-- Registers that act rather than hold a value, and write-1-to-clear registers: a default does nothing there (log 171). -/
def actsOnly (a : Nat) : Bool :=
  (List.range 6).any (fun n => a == Addr.AX_TSWAP n || a == Addr.AX_MSWAP n || a == Addr.AX_DSTAT n || a == Addr.THR_CSWAP n) ||
  (List.range 5).any (fun d => a == Addr.DOR_FSWAP d) || a == Addr.STP_LSWAP || a == Addr.SCH_JSWCTL || a == Addr.FIO_STALE ||
  a == Addr.FLT_ECCSTAT || commands a

/-- Write a register's data registers through (shadow counts), else the register itself. -/
def State.defPut (s : State) (e : OEnt) (v : Nat) : State :=
  match s.objReg e v with
  | some (a, w) =>
    if actsOnly a then s
    else if a = Addr.STP_LNUM then s.modStp (fun p => { p with ls := { p.ls with n := v % 512 } })
    else
      match (List.range 6).find? (fun n => a == Addr.AX_TNPT n) with
      | some n => s.modAx n (fun x => { x with tabS := { x.tabS with n := v % 128 } })
      | none => s.regPut a w
  | none => s.objPutOwn e v true

/-- A default of channel n (R113): a field that is out of range stays at its reset value and holds the channel off; a valid one is
written. -/
def State.fbDefault (s : State) (n a : Nat) (w : Word) (f : Fld) (fits : Bool) : State :=
  match regRow? a with
  | none => s
  | some r =>
    let old := s.rd a
    let new := r.merge old w
    let fs := r.rows.filter (fun x => (x.acc == .rw || x.acc == .rwf) && decide (f.lo ≤ x.fld.lo) && decide (x.fld.lo < f.lo + f.w))
    let bad := fs.filter (fun x => !fits || !x.inRange old new || !s.relOk a old new)
    let good := fs.filter (fun x => !bad.contains x)
    let v := bad.foldl (fun v x => setF v x.fld x.reset) (good.foldl (fun v x => setF v x.fld (getF new x.fld)) old)
    let s := (s.wr a v).regApplied a old
    let s := good.foldl (fun s x => s.fbFreed a x.fld) s
    if bad.isEmpty then s
    else
      let marks := (bad.map (fun x => (a, x.fld.lo))).filter (fun p => !(s.fbS n).bad.contains p)
      let on := (s.fbS n).cfgerr
      let s := s.modFb n (fun c => { c with bad := marks ++ c.bad, cfgerr := true })
      if on then s else s.fbModeSet n

/-- One default is taken. -/
def State.takeDefault (s : State) (r : SRec) : State :=
  match s.objFind r.odIx r.odSub with
  | .error _ => s
  | .ok e =>
    if odExempt e then
      match s.objReg e r.odVal with
      | some (a, w) =>
        if commands a then s else
        match fbOfAddr a with
        | some n =>
          let fits := match e.src with
            | .fld _ f => decide (r.odVal < 2 ^ f.w)
            | .spdWin _ => decide (1 ≤ r.odVal) && decide (r.odVal ≤ 16)
            | _ => true
          s.fbDefault n a w e.src.part fits
        | none => s.wr a ((match regRow? a with | some row => row.merge (s.rd a) w | none => w))
      | none => s.defPut e r.odVal
    else s.defPut e r.odVal

end Sys2Proof.Machine
end

