-- ==== Sys2Proof/Machine/Sheaf.lean ====
section
/-! DEFINITION. The sheaf image (R64–R69), the cycle contract (R71, R708–R710 and the rules of the unit chapters that refuse a
sheaf), and how a sheaf is taken into effect (R82). -/

namespace Sys2Proof.Machine

/-- The result of a bank check: cause of R71, what failed (R104 KIND) and its number (R710). -/
structure Chk where
  cause : Nat
  kind  : Nat
  index : Nat
deriving DecidableEq, Repr

def Chk.pass : Chk := ⟨0, 0, 0xFFFF⟩
def Chk.none (c : Nat) : Chk := ⟨c, 0, 0xFFFF⟩
def Chk.slot (c k : Nat) : Chk := ⟨c, 1, k⟩
def Chk.rec' (c k : Nat) : Chk := ⟨c, 2, k⟩
def Chk.hop (c k : Nat) : Chk := ⟨c, 3, k⟩

/-! ### Operations (R67, R69) -/

/-- One row of R69: phases, largest n, cycles without and per n (times `num`, divided by `den`, rounded up). -/
structure OpInfo where
  phases : List Nat
  nmax   : Nat
  base   : Nat
  num    : Nat
  den    : Nat
deriving DecidableEq, Repr

/-- The operations of R69. -/
def opInfo (u o : Nat) : Option OpInfo :=
  let one (p c : Nat) : Option OpInfo := some ⟨[p], 1, c, 0, 1⟩
  match u, o with
  | 0x01, 1 => some ⟨[1, 2], 256, 2, 1, 1⟩
  | 0x02, 1 => one 0 6
  | 0x02, 2 => some ⟨[0], 64, 4, 2, 1⟩
  | 0x02, 3 => one 1 5
  | 0x03, 1 => one 0 8
  | 0x03, 2 => one 1 22
  | 0x04, 1 => one 0 12
  | 0x04, 2 => one 1 30
  | 0x04, 3 => one 1 44
  | 0x05, 1 => some ⟨[0], 128, 4, 20, 1⟩
  | 0x05, 2 => some ⟨[1], 128, 4, 20, 1⟩
  | 0x06, 1 => some ⟨[0], 128, 4, 20, 1⟩
  | 0x06, 2 => some ⟨[1], 128, 4, 20, 1⟩
  | 0x07, 1 => some ⟨[0], 2048, 8, 1, 1⟩
  | 0x07, 2 => some ⟨[2], 2048, 8, 1, 1⟩
  | 0x08, 1 => some ⟨[1], 4096, 6, 1, 4⟩
  | 0x08, 2 => one 1 24
  | 0x08, 3 => one 1 32
  | 0x08, 4 => one 1 14
  | 0x08, 5 => one 1 10
  | 0x09, 1 => one 1 26
  | 0x09, 2 => one 1 12
  | 0x09, 3 => one 1 16
  | 0x0A, 1 => one 1 36
  | 0x0A, 2 => one 1 14
  | 0x0A, 3 => one 1 18
  | 0x0A, 4 => one 1 30
  | 0x0A, 5 => one 1 10
  | 0x0A, 6 => one 1 12
  | 0x0B, 1 => some ⟨[1], 1024, 8, 1, 8⟩
  | 0x0B, 2 => one 1 12
  | 0x0C, 1 => some ⟨[1], 192, 8, 24, 1⟩
  | 0x0C, 2 => one 1 20
  | 0x0D, 1 => one 1 24
  | 0x0D, 2 => one 1 30
  | 0x0E, 1 => one 1 10
  | 0x0E, 2 => one 1 6
  | 0x0E, 3 => one 1 8
  | 0x0F, 1 => some ⟨[0, 1], 1024, 4, 1, 1⟩
  | 0x0F, 2 => some ⟨[2], 1024, 4, 1, 1⟩
  | _, _ => none

/-- Cycles of an operation with count n (R69). -/
def OpInfo.cycles (i : OpInfo) (n : Nat) : Nat := i.base + (i.num * n + i.den - 1) / i.den

/-- Units whose instances run in parallel (R69, R72). -/
def instanced (u : Nat) : Bool := u == 3 || u == 9 || u == 0xD || u == 0xE

/-- Does an INST lie inside the range of R67? -/
def instOk (u i : Nat) : Bool :=
  match u with
  | 3 => decide (i ≤ 7) | 9 => decide (i ≤ 5) | 0xE => decide (i ≤ 5) | 0xD => decide (1 ≤ i) && decide (i ≤ 4) | _ => i == 0

def Slot.fin (l : Slot) : Nat := l.start + l.cyc
def Slot.is (l : Slot) (u o : Nat) : Bool := l.unit == u && l.op == o

/-- The record types, by section (R66, R208, R211–R213, R290, R404, R459, R510, R512). -/
def knownRec (sec typ : Nat) : Bool :=
  match sec with
  | 1 => decide (0x0101 ≤ typ) && decide (typ ≤ 0x0104)
  | 2 => typ == 0x0201
  | 3 => typ == 0x0501 || typ == 0x0502 || typ == 0x0503 || typ == 0x0601 || typ == 0x0603
  | 4 => typ == 0x0001
  | _ => typ == 0x0B01

/-! ### Reading an image (R64–R67) -/

/-- Offset and length of section k (R65). -/
def State.secOf (s : State) (b k : Nat) : Nat × Nat := (s.hdr b (0x40 + 8 * k) 4, s.hdr b (0x44 + 8 * k) 4)

/-- Words of section k. -/
def State.secWords (s : State) (b k : Nat) : List Nat :=
  let (o, l) := s.secOf b k
  (List.range (l / 4)).map (fun j => s.hdr b (o + 4 * j) 4)

/-- The records of a section; a head whose length is 0 or runs past the section is kept whole as a record of no known
type. -/
def parseRecs (sec : Nat) : Nat → List Nat → Nat → List SRec
  | 0, _, _ => []
  | _, [], _ => []
  | k + 1, h :: t, off =>
    let l := h / 65536
    if l = 0 ∨ t.length + 1 < l then [⟨sec, 0, 0x10000, 0, t, off⟩]
    else ⟨sec, 0, h % 65536, l, t.take (l - 1), off⟩ :: parseRecs sec k (t.drop (l - 1)) (off + 4 * l)

/-- A slot descriptor (R67). -/
def State.slotAt (s : State) (b a : Nat) : Slot :=
  let f := s.hdr b
  ⟨f a 1, f (a + 1) 1, f (a + 2) 1, f (a + 3) 1, f (a + 4) 2, f (a + 6) 2, f (a + 8) 2, f (a + 10) 1, f (a + 11) 1, f (a + 12) 4⟩

/-- An image whose directory holds (R65). -/
def State.parseSheaf (s : State) (b : Nat) : Sheaf :=
  let f := s.hdr b
  let n := f 0x1C 2
  let o0 := (s.secOf b 0).1
  let raw := [1, 2, 3, 4, 5].flatMap (fun k => let ws := s.secWords b k; parseRecs k ws.length ws (s.secOf b k).1)
  let len := f 0x08 4
  { imgLen := len, crc := f (len - 4) 4, reqUnits := f 0x0C 4, frate := f 0x10 1, role := f 0x11 1,
    tCmp := f 0x14 2, tEmt := f 0x16 2, tDrn := f 0x18 2, tEnd := f 0x1A 2, stateId := f 0x30 4, buildId := f 0x34 4
    depths := (List.range 64).map (fun k => f ((s.secOf b 6).1 + 2 * k) 2)
    slots := (List.range n).map (fun k => s.slotAt b (o0 + 16 * k))
    recs := (raw.zipIdx).map (fun p => { p.1 with num := p.2 })
    initOff := (s.secOf b 7).1, initLen := (s.secOf b 7).2 }

/-! ### Header and directory: causes 0x01–0x08 -/

/-- Does the directory keep R65? -/
def State.dirOk (s : State) (b : Nat) : Bool :=
  let len := s.hdr b 0x08 4
  let secs := (List.range 8).map (s.secOf b)
  let pres := secs.filter (fun p => p.2 != 0)
  let each := secs.all (fun p => p.1 % 4 == 0 && p.2 % 4 == 0 &&
    (if p.2 = 0 then p.1 == 0 else decide (0x80 ≤ p.1) && decide (p.1 + p.2 ≤ len - 4)))
  let apart := (pres.zipIdx).all (fun p => (pres.zipIdx).all (fun q =>
    p.2 == q.2 || decide (p.1.1 + p.1.2 ≤ q.1.1) || decide (q.1.1 + q.1.2 ≤ p.1.1)))
  let n := s.hdr b 0x1C 2
  each && apart && decide (1 ≤ n) && decide (n ≤ 4096) && (s.secOf b 0).2 == 16 * n && (s.secOf b 6).2 == 128

/-- Causes 0x01 to 0x08. -/
def State.headerCause (s : State) (b : Nat) : Nat :=
  let f := s.hdr b
  if s.imageCause b ≠ 0 then s.imageCause b
  else if f 5 1 ≠ 1 then 4
  else if f 6 2 ≠ 0x80 ∨ f 0x13 1 ≠ 0 ∨ f 0x3C 4 ≠ 0 ∨ f 0x0C 4 / 2 ^ 22 ≠ 0 ∨ f 0x0C 4 / 2 ^ 10 % 64 ≠ 0 then 5
  else if 2 < f 0x10 1 then 6
  else if 2 < f 0x11 1 then 7
  else if s.dirOk b then 0
  else 8

/-! ### Helpers of the slot and record checks -/

/-- What a check of slots and records finds: failing slots, failing records, a failure of neither. -/
structure Bad where
  slots : List Nat
  recs  : List Nat
  other : Bool

def Bad.nil : Bad := ⟨[], [], false⟩
def Bad.add (a b : Bad) : Bad := ⟨a.slots ++ b.slots, a.recs ++ b.recs, a.other || b.other⟩

/-- The lowest number of a list. -/
def minOf (l : List Nat) : Option Nat := l.foldl (fun m x => match m with | none => some x | some y => some (min x y)) none

/-- The first failure in the order of R710: slots before records. -/
def Bad.res (a : Bad) (c : Nat) : Option Chk :=
  match minOf a.slots with
  | some k => some (.slot c k)
  | none =>
    match minOf a.recs with
    | some k => some (.rec' c k)
    | none => if a.other then some (.none c) else none

/-- The numbers of the slots a test holds of. -/
def Sheaf.slotsWhere (h : Sheaf) (p : Slot → Bool) : List Nat := (h.slots.zipIdx).filterMap (fun q => if p q.1 then some q.2 else none)

/-- The numbers of the records a test holds of. -/
def Sheaf.recsWhere (h : Sheaf) (p : SRec → Bool) : List Nat := (h.recs.filter p).map (·.num)

def Sheaf.ofTyp (h : Sheaf) (t : Nat) : List SRec := h.recs.filter (fun r => r.typ == t)

/-- A rule that asks for exactly one slot of an operation; what names the failure: the second such slot, else the first slot
of `alt`. -/
def Sheaf.one (h : Sheaf) (u o : Nat) (alt : Slot → Bool) : Bad :=
  match h.slotsWhere (fun l => l.is u o) with
  | [_] => .nil
  | _ :: k :: _ => ⟨[k], [], false⟩
  | [] => match h.slotsWhere alt with | k :: _ => ⟨[k], [], false⟩ | [] => ⟨[], [], true⟩

/-- A failure of a setting: named by the last ODDEF record for the entry, where there is one. -/
def Sheaf.byEntry (h : Sheaf) (ix sub : Nat) : Bad :=
  match ((h.ofTyp 1).filter (fun r => r.odIx == ix && r.odSub == sub)).getLast? with
  | some r => ⟨[], [r.num], false⟩
  | none => ⟨[], [], true⟩

/-- Records whose key repeats that of an earlier one. -/
def repeats (l : List SRec) (key : SRec → Nat) : List Nat :=
  (l.zipIdx).filterMap (fun p => if (l.take p.2).any (fun q => key q == key p.1) then some p.1.num else none)

/-! ### Causes 0x09 and 0x0A (R11, R159, R185, R261) -/

/-- Bits of HIF_UNITS a slot refers to. -/
def slotUnits (l : Slot) : List Nat :=
  let ax : List Nat := if instOk l.unit l.inst && (l.unit != 3 || decide (l.inst < 6)) then [16 + l.inst] else []
  match l.unit with
  | 2 => [9] | 3 => ax | 4 => [3] | 5 => [6] | 6 => [7] | 7 => [8] | 9 => ax
  | 0xA => if l.op = 4 then [1, 2] else [1]
  | 0xB => [4] | 0xC => [0] | 0xD => 5 :: ax | 0xE => ax | _ => []

/-- Bits of HIF_UNITS the object of an index belongs to (R48–R51, chapter 13); a channel FB0 to FB5 belongs to its axis. -/
def objUnits (ix : Nat) : List Nat :=
  let h := ix / 0x100
  let hdl (shared : Bool) : List Nat := if shared then [1, 2] else [1]
  if h = 0x23 then [8]
  else if h = 0x24 then [9]
  else if h = 0x25 then [3]
  else if ix = 0x2600 ∨ ix = 0x2601 then [6]
  else if ix = 0x2602 ∨ ix = 0x2603 then [7]
  else if 0x30 ≤ h ∧ h ≤ 0x35 then [16 + (h - 0x30)]
  else if 0x3810 ≤ ix ∧ ix ≤ 0x384F then [5, 16 + (ix - 0x3800) / 0x10]
  else if h = 0x40 then [4]
  else if h = 0x41 then [0]
  else if h = 0x42 then hdl (ix == 0x4204 || ix == 0x4205)
  else if 0x5000 ≤ ix ∧ ix ≤ 0x56BF then
    let p := (ix - 0x5000) / 0x40
    let k := ix % 0x40
    match p with
    | 0x07 => [8] | 0x09 => [6] | 0x0A => [7] | 0x0B => [9] | 0x0C => [3] | 0x0E => [0] | 0x0F => [4]
    | 0x0D => hdl (decide (4 ≤ k) && decide (k < 8))
    | 0x12 => if 4 ≤ k ∧ k < 0x14 then [5, 16 + k / 4] else [5]
    | _ => if 0x14 ≤ p ∧ p ≤ 0x19 then [16 + (p - 0x14)] else []
  else []

/-- Bits of HIF_UNITS a record refers to; an axis above 5 is in no variant. A PDO record refers to the units of the objects it
maps, the claim record of KIND 1 to AX0 (R11; log entry 130). -/
def recUnits (r : SRec) : List Nat :=
  if !knownRec r.sec r.typ then []
  else match r.typ with
    | 0x0102 => [16 + r.b 1 4 0 / 4]
    | 0x0103 => [16 + r.b 1 6 4]
    | 0x0201 => [9]
    | 0x0B01 => [4]
    | t =>
      if r.sec ≠ 3 then []
      else
        let bus := if t < 0x0600 then 6 else 7
        let more := if t = 0x0502 then (if r.b 1 9 8 = 1 then [16] else [])
          else if t % 0x100 = 3 then (r.ws.drop 1).flatMap (fun w => objUnits (w / 65536))
          else []
        bus :: more

/-- Is every unit referred to present and named by REQ_UNITS? -/
def unitsOk (units req : Nat) (l : List Nat) : Bool := l.all (fun k => decide (k < 22) && bitOf units k && bitOf req k)

/-- The state in which the defaults of a sheaf are judged: its unit records are in effect before them (R82, R708). -/
def State.withRecords (s : State) (h : Sheaf) : State :=
  ({ s with sch := { s.sch with active := some h } } : State).thrTake.stpTake

/-- The settings a sheaf makes, as far as they are valid: the state with its records and defaults taken (R708). -/
def State.withDefaults (s : State) (h : Sheaf) : State :=
  (h.ofTyp 1).foldl (fun d r =>
    match d.objFind r.odIx r.odSub with
    | .error _ => d
    | .ok e => if odExempt e || d.objValueOk e r.odVal then d.takeDefault r else d) (s.withRecords h)

/-- Cause 0x0A from settings: `d` is the state with the sheaf's defaults. -/
def State.badRefs (d : State) (h : Sheaf) : Bad :=
  let axs := (List.range 6).filter d.hasAx
  let drv := axs.foldl (fun b n =>
    let k := d.axDrive n
    if 3 ≤ k ∧ k ≤ 5 ∧ d.rf (Addr.FB_CTL n) Fl.FB_CTL_MODE = 0 then b.add (h.byEntry (0x3010 + 0x100 * n) 1) else b) Bad.nil
  let grp (n : Nat) : Nat := if n = 0 then 0 else d.rf (Addr.AX_PCFG n) Fl.AX_PCFG_GRP
  let grps := axs.foldl (fun b n =>
    if grp n ≠ 0 && axs.any (fun m => decide (m < n) && grp m == grp n && d.fbUnit m != d.fbUnit n) then b.add (h.byEntry (0x3010 + 0x100 * n) 3)
    else b) drv
  [1, 2, 3, 4].foldl (fun b k =>
    let bad := (d.hasDoor k && !d.hasUnit 1 && d.flag (Addr.DOR_CFG k) Fl.DOR_CFG_ZPERM) || d.dorEn k && (d.axDrive k == 0 || d.axDrive k == 6 ||
      [1, 2, 3, 4].any (fun j => j != k && d.dorEn j && grp j == grp k && grp k != 0))
    if bad then b.add (h.byEntry (0x3800 + 0x10 * k) 1) else b) grps

/-! ### Cause 0x0C: slots and hoppers (R61, R67, R69) -/

/-- Does an operation have to name the hopper it pops (R61)? -/
def needsHin (h : Sheaf) (l : Slot) : Bool :=
  match l.unit, l.op with
  | 1, 1 => true
  | 2, 3 => true
  | 5, 2 => true
  | 6, 2 => true
  | 8, 1 => (h.ofTyp 0x0101).any (fun r => r.b 1 7 0 == l.arg % 256 && r.b 1 15 8 != 0)
  | 8, 2 => true
  | 8, 3 => true
  | 8, 4 => true
  | 8, 5 => true
  | 0xE, 1 => true
  | 0xE, 3 => true
  | 0xF, 2 => true
  | 0xB, 1 => l.arg % 256 != 0
  | 0xC, 1 => l.arg % 256 != 0
  | 0xC, 2 => l.arg / 256 % 64 != 0
  | _, _ => false

/-- Does a slot break R61, R67 or R69? -/
def slotShape (h : Sheaf) (l : Slot) : Bool :=
  match opInfo l.unit l.op with
  | none => true
  | some i => !i.phases.contains l.phase || !instOk l.unit l.inst || (l.hin == 0xFF && needsHin h l)

/-! ### Cause 0x0C: the engine and state memory (R207–R214) -/

/-- May an operand address stand in a program with nk constants (R205, R214)? -/
def operandOk (a nk : Nat) : Bool := if 0x400 ≤ a ∧ a < 0x800 then decide (a - 0x400 < nk) else decide (a ≤ 0xC01)

/-- Does a program keep R208? -/
def progOk (r : SRec) : Bool :=
  let nout := r.b 1 23 16
  let nins := r.b 2 15 0
  let nk := r.b 2 31 16
  let p := r.fma
  decide (3 ≤ r.len) && r.b 1 31 24 == 0 && decide (r.b 1 7 0 ≤ 63) && decide (r.b 1 15 8 ≤ 16) && decide (nout ≤ 16) &&
    decide (1 ≤ nins) && decide (nins ≤ 4096) && decide (nk ≤ 1024) && r.len == 3 + nout + nk + 2 * nins &&
    p.outs.all (fun a => decide (a < 4096) && operandOk a nk) &&
    p.ins.all (fun i =>
      let dst := i.2 / 4096 % 4096
      i.1 / 2 ^ 24 == 0 && i.2 / 2 ^ 25 == 0 && operandOk (i.1 % 4096) nk && operandOk (i.1 / 4096 % 4096) nk && operandOk (i.2 % 4096) nk &&
        (decide (dst < 0x400) || (decide (0x800 ≤ dst) && decide (dst < 0xC00))))

/-- Records and slots that break R207–R214. Bits 31:7 of a blend-point record's word 1, on which R212 is silent, count as reserved
bits that are 0 (DESIGN CHOICE, log 145). -/
def badEngine (h : Sheaf) : Bad :=
  let progs := h.ofTyp 0x0101
  let loops := h.ofTyp 0x0102
  let bps := h.ofTyp 0x0103
  let chs := h.ofTyp 0x0104
  let loopOk (r : SRec) : Bool := r.len == 2 && r.w 1 &&& 0xFFFFFCE0 == 0 && decide (r.b 1 4 0 ≤ 23)
  let bpOk (r : SRec) : Bool := r.len == 3 && r.w 1 / 128 == 0 && decide (r.b 1 3 0 ≤ 11) && r.b 2 7 0 != 0xFF &&
    (leBytes 4 (r.w 2)).all (fun x => x == 0xFE || x == 0xFF ||
      (decide (x ≤ 23) && x / 4 == r.b 1 6 4 && loops.any (fun q => q.b 1 4 0 == x)))
  let chOk (r : SRec) : Bool := r.len == 2 && r.w 1 &&& 0xFFFFFCF0 == 0 && r.b 1 9 8 != 0
  let shape := (progs.filter (fun r => !progOk r) ++ loops.filter (fun r => !loopOk r) ++ bps.filter (fun r => !bpOk r) ++
    chs.filter (fun r => !chOk r)).map (·.num)
  let dup := repeats progs (fun r => r.b 1 7 0) ++ repeats loops (fun r => r.b 1 4 0) ++ repeats bps (fun r => r.b 1 3 0) ++
    repeats chs (fun r => r.b 1 3 0)
  let sl := h.slotsWhere (fun l =>
    if l.unit = 8 then
      match l.op with
      | 1 => !progs.any (fun r => r.b 1 7 0 == l.arg % 256 && r.b 2 15 0 == l.n)
      | 2 => !loops.any (fun r => r.b 1 4 0 == l.arg % 32 && r.b 1 8 8 == 0)
      | 3 => !loops.any (fun r => r.b 1 4 0 == l.arg % 32 && r.b 1 8 8 == 1)
      | 4 => !chs.any (fun r => r.b 1 3 0 == l.arg % 16)
      | 5 => !bps.any (fun r => r.b 1 3 0 == l.arg % 16)
      | _ => false
    else if l.unit = 0xF then
      l.arg % 4 != 0 || decide (l.arg < smemBase) || decide (smemEnd < l.arg + 4 * l.n) ||
        (l.op == 2 && decide (l.arg < 0x200BF700) && decide (0x200BE000 < l.arg + 4 * l.n))
    else false)
  ⟨sl, shape ++ dup, false⟩

/-! ### Cause 0x0C: field outputs and edge FIFOs (R404, R709) -/

/-- FIO_PAR as the sheaf will set it; a quad field of 3 counts as independent outputs (R709). -/
def State.parOf (s : State) (h : Sheaf) : Nat :=
  let v := match ((h.ofTyp 1).filter (fun r => (r.odIx == 0x2404 && r.odSub == 1) ||
      (r.odIx == 0x52C1 && r.odSub == 16))).getLast? with
    | some r => r.odVal % 256
    | none => (s.rd Addr.FIO_PAR).toNat % 256
  (List.range 4).foldl (fun p q => let f := v / 4 ^ q % 4; p + (if f = 3 then 0 else f) * 4 ^ q) 0

/-- Records and slots that break R404. -/
def State.badOutputs (s : State) (h : Sheaf) : Bad :=
  let io := h.ofTyp 0x0201
  let outs := h.slotsWhere (fun l => l.is 2 3)
  let shape := (io.filter (fun r => r.len != 2 || r.w 1 / 2 ^ 18 != 0)).map (·.num) ++ (io.drop 1).map (·.num)
  let pops := h.slots.zipIdx.filterMap (fun p =>
    if p.1.is 2 2 && (h.slots.take p.2).any (fun l => l.is 2 2 && l.arg % 4 == p.1.arg % 4) then some p.2 else none)
  match io with
  | [] => ⟨outs ++ pops, shape, false⟩
  | r :: _ =>
    let own := r.w 1 % 2 ^ 18
    let par := s.parOf h
    let mixed := (List.range 4).any (fun q =>
      let o := own / 16 ^ q % 16
      match par / 4 ^ q % 4 with
      | 1 => !([0, 3].contains (o % 4)) || !([0, 3].contains (o / 4))
      | 2 => !([0, 15].contains o)
      | _ => false)
    let many := if own ≠ 0 ∧ outs.length ≠ 1 then (if outs.isEmpty then ([], [r.num]) else (outs.drop 1, [])) else ([], [])
    ⟨many.1 ++ pops, shape ++ many.2 ++ (if mixed then [r.num] else []), false⟩

/-! ### Cause 0x0C: controllers (R461, R464, R470, R510–R513) -/

/-- Records and slots of controller x that break R459–R513; `d` has the sheaf's settings and records. DRIVE 6 without a claim
record of KIND 1 fails at no record: SCH_LDCAUSE then names nothing (R710; log entry 131). -/
def State.badCan (d : State) (h : Sheaf) (x : Nat) : Bad :=
  let objs := h.ofTyp (canTyp x 1)
  let fd := d.flag (Addr.CAN_CFG x) Fl.CAN_CFG_FDEN
  let objBad (r : SRec) : Bool :=
    let w1 := r.w 1
    r.len != 4 || w1 / 2 ^ 20 != 0 || bitOf w1 15 || r.w 2 / 2 ^ 29 != 0 || r.w 3 / 2 ^ 29 != 0 || oOwner r == 3 ||
      (oTx r && (oMask r != 0 || (oOwner r != 2 && decide (oDlc r > 8)) || (!oFdf r && (decide (oDlc r > 8) || oBrs r)) || (oFdf r && !fd))) ||
      (!oTx r && (oEcho r || oDyn r || oFdf r || oBrs r)) ||
      (x == 0 && (oEcho r || oOwner r == 1))
  let find (k : Nat) : Option SRec := objs.find? (fun r => oObj r == k)
  let single (k : Nat) : Bool := match find k with | some o => oOwner o == 0 | none => false
  let pd := h.ofTyp (canTyp x 3)
  let ent (w : Nat) : Bool :=
    match d.objFind (w / 65536) (w / 256 % 256) with
    | .error _ => true
    | .ok e => e.cls == .wo || w % 256 != 8 * d.objSize e
  let pdBad (r : SRec) : Bool :=
    let m := r.b 1 11 8
    r.w 1 / 4096 != 0 || bitOf (r.w 1) 7 || decide (m > 8) || r.len != 2 + m || !single (oObj r) ||
      decide (((List.range m).map (fun k => r.w (2 + k) % 256)).foldl (· + ·) 0 > 64) || (List.range m).any (fun k => ent (r.w (2 + k)))
  let dir (tx : Bool) : List Nat := ((pd.filter (fun r => match find (oObj r) with | some o => oTx o == tx | none => false)).drop 32).map (·.num)
  let cl := if x = 0 then h.ofTyp 0x0502 else []
  let clBad (r : SRec) : Bool :=
    r.len != 2 || r.w 1 &&& 0xFFFFFC80 != 0 || decide (r.b 1 9 8 ≥ 2) ||
      (match find (r.b 1 6 0) with
       | some o => !oTx o || oOwner o != 0 || oDlc o != 8 || oFdf o || oId o % 2 != 0
       | none => true)
  let k1 := cl.filter (fun r => r.b 1 9 8 == 1)
  let set6 := d.axDrive 0 == 6
  let k1Bad : Bad :=
    if x ≠ 0 then .nil
    else if set6 && k1.isEmpty then ⟨[], [], true⟩
    else if set6 then ⟨[], (k1.drop 1).map (·.num), false⟩
    else ⟨[], k1.map (·.num), false⟩
  let sl := h.slotsWhere (fun l =>
    if l.unit = 5 + x ∧ (l.op = 1 ∨ l.op = 2) ∧ bitOf l.arg 15 = false then
      (List.range l.n).any (fun j =>
        match find (l.arg % 128 + j) with
        | some o => oOwner o != 0 || oTx o != (l.op == 2) || (l.op == 2 && k1.any (fun r => r.b 1 6 0 == oObj o))
        | none => true)
    else false)
  Bad.add ⟨sl, (objs.filter objBad ++ pd.filter pdBad ++ cl.filter clBad).map (·.num) ++ repeats objs oObj ++ repeats pd oObj ++
    repeats cl (fun r => r.b 1 6 0) ++ dir false ++ dir true, false⟩ k1Bad

/-! ### Cause 0x0C: drives, stop table, dispatch, guard, energy, pair (R249–R251, R302, R318, R358, R428, R558) -/

/-- Slots and settings of the drive stages. -/
def State.badDrives (d : State) (h : Sheaf) : Bad :=
  let sl := h.slotsWhere (fun l => l.unit == 0xE && ((l.op == 1 && d.axDrive l.inst != 5) || (l.op == 3 && d.axDrive l.inst != 2 && d.axDrive l.inst != 4)))
  ((List.range 6).filter d.hasAx).foldl (fun b n =>
    let hall := d.rf (Addr.FB_CTL n) Fl.FB_CTL_MODE == 2
    let eper0 := d.rf (Addr.AX_ELEC n) Fl.AX_ELEC_EPER == 0
    let per := d.rf (Addr.AX_PWMCFG n) Fl.AX_PWMCFG_PER
    let b := if d.axDrive n = 5 && (eper0 != hall) then b.add (h.byEntry (0x3030 + 0x100 * n) 4) else b
    if d.flag (Addr.AX_PWMCFG n) Fl.AX_PWMCFG_SYNC && ncycOf h.frate % (2 * per) != 0 then b.add (h.byEntry (0x3030 + 0x100 * n) 1) else b)
    ⟨sl, [], false⟩

/-- The K of STOP_SCAN; 0 without one. -/
def Sheaf.scanK (h : Sheaf) : Nat := match h.slots.find? (fun l => l.is 0xB 1) with | some l => l.arg % 256 | none => 0

/-- R302, R318, R358, R428, R558. -/
def State.badUnits (d : State) (h : Sheaf) : Bad :=
  let any (u : Nat) : Bool := h.slots.any (fun l => l.unit == u)
  let alt (u : Nat) : Slot → Bool := fun l => l.unit == u
  let stp : Bad :=
    if !any 0xB then .nil
    else ((h.one 0xB 1 (alt 0xB)).add (h.one 0xB 2 (alt 0xB))).add
      ⟨h.slotsWhere (fun l => l.is 0xB 1 && (l.n % 4 != 0 || decide (l.arg % 256 > 32))), [], false⟩
  let bid : Bad :=
    if !any 0xC then .nil
    else ((h.one 0xC 1 (alt 0xC)).add (h.one 0xC 2 (alt 0xC))).add
      ⟨h.slotsWhere (fun l =>
        (l.is 0xC 1 && (decide (l.arg % 256 > 32) || decide (l.arg / 256 % 256 > 32) || l.arg / 256 % 256 != h.scanK)) ||
        (l.is 0xC 2 && (l.arg % 64 == 0 || decide (l.arg % 64 > 32) || decide (l.arg / 256 % 64 > 16)))), [], false⟩
  let env := h.slots.find? (fun l => l.is 0xA 1)
  let fb0 := h.slots.find? (fun l => l.is 3 2 && l.inst == 0)
  let hdl : Bad :=
    if !any 0xA then .nil
    else
      let b := [1, 2, 3, 5, 6].foldl (fun b o => b.add (h.one 0xA o (alt 0xA))) Bad.nil
      let b := if h.role = 2 then b.add (h.one 0xA 4 (alt 0xA)) else b.add ⟨h.slotsWhere (fun l => l.is 0xA 4), [], false⟩
      match env with
      | none => b
      | some e =>
        let early := match fb0 with | some f => decide (e.start < f.fin) | none => true
        (b.add ⟨if early then h.slotsWhere (fun l => l.is 0xA 1) else [], [], false⟩).add
          ⟨h.slotsWhere (fun l => l.unit == 0xA && l.op != 1 && decide (l.start < e.fin)), [], false⟩
  let nrg : Bad :=
    if !bitOf h.reqUnits 3 then .nil
    else ([1, 2, 3].foldl (fun b o => b.add (h.one 4 o (alt 4))) Bad.nil).add
      ⟨h.slotsWhere (fun l => l.unit == 4 && (l.hin != 0xFF || (l.op != 1 && l.hout != 0xFF))), [], false⟩
  let send := h.slots.find? (fun l => l.is 7 2)
  let take := h.slots.find? (fun l => l.is 7 1)
  let pair : Bad :=
    if h.role = 0 then ⟨h.slotsWhere (fun l => l.unit == 7), [], false⟩
    else if h.role = 1 then
      let b := (h.one 7 1 (alt 7)).add (h.one 7 2 (alt 7))
      let b := ((List.range 6).filter d.hasAx).foldl (fun b n =>
        let k := d.axDrive n
        let m := d.rf (Addr.FB_CTL n) Fl.FB_CTL_MODE
        let b := if k = 0 ∨ k = 5 ∨ k = 6 then b else b.add (h.byEntry (0x3010 + 0x100 * n) 1)
        if k ≠ 0 ∧ m ≠ 3 ∧ m ≠ 4 then b.add (h.byEntry (0x3000 + 0x100 * n) 1) else b) b
      let nOk (n : Nat) : Bool := decide (36 ≤ n) && decide (n ≤ ncycOf h.frate / 40 - 16)
      let b := b.add ⟨h.slotsWhere (fun l => l.unit == 7 && !nOk l.n), [], false⟩
      match send, take with
      | some a, some c =>
        let b := if a.n = c.n then b else b.add ⟨h.slotsWhere (fun l => l.is 7 2), [], false⟩
        if h.slots.any (fun l => (l.is 0xF 2 || l.unit == 8) && decide (a.start < l.fin)) then b.add ⟨h.slotsWhere (fun l => l.is 7 2), [], false⟩ else b
      | _, _ => b
    else .nil
  stp.add (bid.add (hdl.add (nrg.add pair)))

/-- Everything cause 0x0C covers. -/
def State.badShape (s d : State) (h : Sheaf) : Bad :=
  let base : Bad := ⟨h.slotsWhere (slotShape h), h.recsWhere (fun r => !knownRec r.sec r.typ), false⟩
  base.add ((badEngine h).add ((s.badOutputs h).add ((d.badCan h 0).add ((d.badCan h 1).add ((d.badDrives h).add (d.badUnits h))))))

/-! ### Causes 0x0D to 0x16 -/

/-- Two slots of one unit instance that overlap: the higher-numbered one (R710, R72). -/
def overlap (l : List Slot) : Option Nat :=
  minOf ((l.zipIdx).filterMap (fun p =>
    if (l.take p.2).any (fun q => q.unit == p.1.unit && (!instanced q.unit || q.inst == p.1.inst) &&
        decide (q.start < p.1.fin) && decide (p.1.start < q.fin)) then some p.2 else none))

/-- The hopper at which the sum of depths first passes 4,096. -/
def overPool : List Nat → Nat → Nat → Option Nat
  | [], _, _ => none
  | d :: t, k, n => if n + d > 4096 then some k else overPool t (k + 1) (n + d)

/-- Cause 0x14. -/
def badHops (h : Sheaf) (nHop words : Nat) : Option Chk :=
  match h.depths.findIdx? (fun d => decide (d > 256)) with
  | some k => some (.hop 0x14 k)
  | none =>
    match overPool h.depths 0 0 with
    | some k => some (.hop 0x14 k)
    | none =>
      if nHop ≠ (h.depths.filter (fun d => d != 0)).length ∨ words ≠ h.depths.foldl (· + ·) 0 then some (.none 0x14)
      else
        let bad (k : Nat) : Bool := k != 0xFF && h.depths.getD k 0 == 0
        (minOf (h.slotsWhere (fun l => bad l.hin || bad l.hout))).map (Chk.slot 0x14)

/-- Cause 0x16: the first default that does not hold (R66, R71, R708). -/
def State.badDefault (s : State) : List SRec → Option Nat
  | [] => none
  | r :: t =>
    let z := r.odSize
    let form := (r.len == 3 && (z == 1 || z == 2 || z == 4)) || (r.len == 4 && (z == 6 || z == 8))
    match s.objFind r.odIx r.odSub with
    | .error _ => some r.num
    | .ok e =>
      let cls := e.cls == .ro || e.cls == .wo || e.cls == .const
      if !form || cls || z != s.objSize e || (!odExempt e && !s.objValueOk e r.odVal) then some r.num
      else (s.takeDefault r).badDefault t

/-- The checks of R71 after the directory, in the order of its table. -/
def State.checkSheaf (s : State) (b : Nat) (h : Sheaf) : Chk :=
  let f := s.hdr b
  let units := s.id.variant.units
  let d := s.withDefaults h
  let first (l : List (Unit → Option Chk)) : Chk := (l.findSome? (fun g => g ())).getD .pass
  let fails (b : Bool) (c : Nat) : Option Chk := if b then some (.none c) else none
  let slotFail (c : Nat) (p : Slot → Bool) : Option Chk := (minOf (h.slotsWhere p)).map (Chk.slot c)
  let info (l : Slot) : OpInfo := (opInfo l.unit l.op).getD ⟨[], 0, 0, 0, 1⟩
  let sum (p : Nat) : Nat := (h.slots.filter (fun l => l.phase == p)).foldl (fun n l => n + l.cyc) 0
  let bounds (p : Nat) : Nat × Nat := match p with | 0 => (0, h.tCmp) | 1 => (h.tCmp, h.tEmt) | _ => (h.tEmt, h.tDrn)
  first [
    fun _ => fails ((List.range 22).any (fun k => bitOf h.reqUnits k && !bitOf units k)) 0x09,
    fun _ => (Bad.add ⟨h.slotsWhere (fun l => !unitsOk units h.reqUnits (slotUnits l)),
        h.recsWhere (fun r => !unitsOk units h.reqUnits (recUnits r)), false⟩ (d.badRefs h)).res 0x0A,
    fun _ => fails (h.role == 2 && !s.hasUnit 2) 0x0B,
    fun _ => (s.badShape d h).res 0x0C,
    fun _ => slotFail 0x0D (fun l => l.n == 0 || decide (l.n > (info l).nmax)),
    fun _ => slotFail 0x0E (fun l => l.cyc != (info l).cycles l.n),
    fun _ => fails (sum 0 != f 0x20 4 || sum 1 != f 0x24 4 || sum 2 != f 0x28 4 || f 0x20 4 + f 0x24 4 + f 0x28 4 != f 0x2C 4) 0x0F,
    fun _ => fails (!(decide (0 < h.tCmp) && decide (h.tCmp ≤ h.tEmt) && decide (h.tEmt < h.tDrn) && decide (h.tDrn + 64 ≤ h.tEnd))) 0x10,
    fun _ => slotFail 0x11 (fun l => decide (l.start < (bounds l.phase).1) || decide (l.fin > (bounds l.phase).2)),
    fun _ => (overlap h.slots).map (Chk.slot 0x12),
    fun _ => fails (decide (h.tEnd > 95 * ncycOf h.frate / 100)) 0x13,
    fun _ => badHops h (f 0x12 1) (f 0x1E 2),
    fun _ => fails (decide (h.initLen > 262144)) 0x15,
    fun _ => ((s.withRecords h).badDefault (h.ofTyp 1)).map (Chk.rec' 0x16)]

/-- The check of a bank under R71, and the sheaf it holds when it passes. -/
def State.checkBank (s : State) (b : Nat) : Chk × Option Sheaf :=
  match s.headerCause b with
  | 0 =>
    let h := s.parseSheaf b
    let c := s.checkSheaf b h
    (c, if c.cause = 0 then some h else none)
  | c => (.none c, none)

/-- SCH_LDCAUSE of a check of bank b that fails (R104). -/
def Chk.word (c : Chk) (b : Nat) : Nat := c.index * 65536 + c.kind * 512 + b * 256 + c.cause

/-! ### Taking a sheaf into effect (R82, R677) -/

/-- STATEINIT: state memory from its start, zeros after it; what the units keep there starts afresh. -/
def State.initState (s : State) (b : Nat) (h : Sheaf) : State :=
  let bs := s.bytes (bankBase b + h.initOff) h.initLen
  let s := { s with mem := putBytes (clearRange s.mem smemBase smemEnd) smemBase bs, smem := [] }
  s.stpClear.bidClear

/-- A sheaf becomes active: its first frame judges a guard that stands in OFF (R356, R385). -/
def State.hdlTake (s : State) : State := { s with hdl := { s.hdl with judged := false } }

/-- The sheaf of a bank becomes the running one: registers of the frame (R102), unit records, defaults, state memory. `keep`
says whether state memory may be kept (R82, R677). -/
def State.takeSheaf (s : State) (b : Nat) (h : Sheaf) (keep : Bool) : State :=
  let same := keep && (match s.sch.active with | some o => o.stateId == h.stateId && h.stateId != 0 | none => false)
  let s := (s.canSwitch 0).canSwitch 1
  let s := { s with sch := { s.sch with active := some h, frate := h.frate, stopped := false, aborted := false } }
  let s := s.wr Addr.SCH_CFG (wN (h.frate * 65536 + ncycOf h.frate))
  let s := (s.wr Addr.SCH_TPH0 (wN (h.tEmt * 65536 + h.tCmp))).wr Addr.SCH_TPH1 (wN (h.tEnd * 65536 + h.tDrn))
  let s := (s.wf Addr.SCH_BANK Fl.SCH_BANK_ACT b).wf Addr.SCH_BANK Fl.SCH_BANK_VOK 0
  let s := s.thrTake.stpTake.fioTake
  let s := (h.ofTyp 1).foldl State.takeDefault s
  let s := (s.canCheckDefaults 0).canCheckDefaults 1
  let s := if same then s else (s.initState b h).thrInit
  (s.hdlTake.passSafe.dorSheafStart).carrierStart

end Sys2Proof.Machine
end

