-- ==== Sys2Proof/Machine/Ecc.lean ====
section
/-! DEFINITION. Error correction of the memories and their scrubbers (R616–R618). -/

namespace Sys2Proof.Machine

/-- Class of an uncorrectable error (R617). -/
def eccClass (m : Nat) : Nat :=
  match m with | 1 => 0 | 9 => 0 | 11 => 0 | 6 => 1 | 7 => 1 | 8 => 1 | 10 => 1 | _ => 3

/-- The 64-bit word at an offset of hopper memory reads 0: the hoppers' words follow one another by their depths. -/
def State.eccHop (s : State) (a : Nat) : State :=
  let i := a / 8 * 2
  let ds := match s.sch.active with | some sh => sh.depths | none => []
  let r := ds.zipIdx.foldl (fun (r : State × Nat) d =>
    let (s, b) := r
    let q := (s.hop d.2).zipIdx.map (fun w => if b + w.2 = i ∨ b + w.2 = i + 1 then (0 : Word) else w.1)
    (s.setHop d.2 q, b + d.1)) (s, 0)
  r.1

/-- A record of the running sheaf in which the eight bytes of the bank from offset a on read 0. -/
def SRec.blank (r : SRec) (a : Nat) : SRec :=
  let hit (o : Nat) : Bool := o / 8 == a / 8
  { r with typ := if hit r.off then 0 else r.typ, ws := r.ws.zipIdx.map (fun w => if hit (r.off + 4 + 4 * w.2) then 0 else w.1) }

/-- The running sheaf after the 64-bit word at offset a of its bank has been set to 0: descriptors and records read 0 there; `o` is where
its slot table stands. -/
def State.sheafBlank (s : State) (b o a : Nat) : State :=
  match s.sch.active with
  | none => s
  | some sh =>
    let slots := sh.slots.zipIdx.map (fun x => if (o + 16 * x.2) / 16 = a / 16 then s.slotAt b (o + 16 * x.2) else x.1)
    { s with sch := { s.sch with active := some { sh with slots := slots, recs := sh.recs.map (fun r => r.blank a) } } }

/-- The 64-bit word at an offset of an active or inactive bank or of state memory reads 0, and what was read from it. -/
def State.eccByte (s : State) (m a : Nat) : State :=
  let b := s.rf Addr.SCH_BANK Fl.SCH_BANK_ACT
  let o := (s.secOf b 0).1
  let s := s.setBytes (a / 8 * 8) (List.replicate 8 0)
  if m = 0 then s.sheafBlank b o (a - bankBase b) else s

/-- Constants of the program records, one after another, of which numbers i and i + 1 read 0; `r` counts those before. -/
def blankConsts (i : Nat) (r : Nat) : List SRec → List SRec
  | [] => []
  | x :: l =>
    if x.typ ≠ 0x0101 then x :: blankConsts i r l
    else
      let o := 2 + x.ws.getD 0 0 / 65536 % 256
      let n := x.ws.getD 1 0 / 65536
      let ws := x.ws.zipIdx.map (fun w => if o ≤ w.2 ∧ w.2 < o + n ∧ (r + (w.2 - o) = i ∨ r + (w.2 - o) = i + 1) then 0 else w.1)
      { x with ws := ws } :: blankConsts i (r + n) l

/-- The 64-bit word k of the working file (1,024 words), or of the constant pool behind it, reads 0. -/
def State.eccThr (s : State) (k : Nat) : State :=
  if k < 512 then s.modThr (fun t => { t with w := t.w.map (fun p => if p.1 / 2 = k then (p.1, 0) else p) })
  else
    match s.sch.active with
    | none => s
    | some sh => { s with sch := { s.sch with active := some { sh with recs := blankConsts (2 * k - 1024) 0 sh.recs } } }

/-- Place k of the staging and call queues reads 0: 64 staging entries, 32 call-queue words, 32 words of BID's queue. A staging entry of
zeros names no register and changes nothing; a word of zeros is a call of no type. -/
def State.eccQueue (s : State) (k : Nat) : State :=
  let isCall (e : Staged) : Bool := !e.obj && e.addr == Addr.STP_CALLQ
  let own (e : Staged) : Bool := if k < 64 then !isCall e else isCall e
  let i := if k < 64 then k else k - 64
  if k < 96 then
    let idx := ((s.sch.staging.zipIdx).filter (fun p => own p.1)).map (·.2)
    match idx[i]? with
    | none => s
    | some j => { s with sch := { s.sch with staging := s.sch.staging.modify j (fun e =>
        if k < 64 then { e with addr := 0, obj := false, val := 0 } else { e with val := 0 }) } }
  else
    let z (q : List Nat) : List Nat := q.modify (k - 96) (fun _ => 0)
    { s with bid := { s.bid with c := { s.bid.c with pq := z s.bid.c.pq }, w := { s.bid.w with pq := z s.bid.w.pq } } }

/-- A controller's buffers lose a received frame: of object k, or of place k − 128 of the receive queue. -/
def State.canLose (s : State) (x k : Nat) : State :=
  if k < 128 then
    (if ((s.canS x).rxO k).frm.isSome then s.modRx x k (fun o => { o with frm := none, new := false, lat := none, lnew := false }) else s)
  else s.modCan x (fun c => { c with q := c.q.eraseIdx (k - 128) })

/-- What an uncorrectable error destroys. DESIGN CHOICE (log 110): where a memory has no byte addresses of its own (R47), one entry, frame,
record, result or packet takes eight bytes of its offsets, in order, and a ring slot the 32 of its record (R630). -/
def State.eccLose (s : State) (m a : Nat) : State :=
  let k := if m = 8 then a / 32 else a / 8
  match m with
  | 3 => s.eccHop a
  | 4 => s.eccQueue k
  | 5 => s.eccThr k
  | 8 =>
    match s.rcd.ring[k]? with
    | none => s
    | some e =>
      let s := s.modRec (fun r => { r with ring := r.ring.modify k (fun e => { e with lost := true }) })
      if e.flushed || e.lost then s else s.dropRec.lossEnd
  | 9 => { s with hlk := { s.hlk with held := s.hlk.held.eraseIdx k } }
  | 10 =>
    if k < s.pair.imgs.length then
      (s.bump Addr.PAIR_ERRCNT Fl.PAIR_ERRCNT_CRC).modPair (fun p => { p with imgs := p.imgs.eraseIdx k })
    else s
  | 11 =>
    let g := k / 64
    if g < 4 ∧ k % 64 < (s.fio.fifo.getD g []).length then
      let lossy := s.fio.lossP.getD g false
      let s := s.bump (if g < 2 then Addr.FIO_EOVF01 else Addr.FIO_EOVF23) (if g % 2 = 0 then ⟨0, 16⟩ else ⟨16, 16⟩)
      let s := (s.setFstat Fl.FIO_STAT_EOVF true).irq 8 6
      (s.raiseIf (!lossy) 0xA1 g 0).modFio (fun f =>
        { f with fifo := setAt 4 [] f.fifo g (fun q => q.eraseIdx (k % 64)), lossP := setAt 4 false f.lossP g (fun _ => true) })
    else s
  | _ => if m = 6 ∨ m = 7 then s.canLose (m - 6) k else s

/-- The first address of memory m of R617 and its length, for the mapped ones. -/
def State.eccArea (s : State) (m : Nat) : Nat :=
  let act := s.rf Addr.SCH_BANK Fl.SCH_BANK_ACT
  match m with | 0 => bankBase act | 1 => bankBase (1 - act) | _ => smemBase

/-- A corrected error (R616): counted, and raised once a second and memory. -/
def State.eccCorrect (s : State) (e : EccEv) : State :=
  let t := s.now
  let s := (s.bump Addr.FLT_ECCCNT Fl.FLT_ECCCNT_CCOUNT).wf Addr.FLT_ECCSTAT Fl.FLT_ECCSTAT_CE 1
  let s := ((s.wf Addr.FLT_ECCSTAT Fl.FLT_ECCSTAT_CMEM e.mem).wr Addr.FLT_ECCCADDR (wN e.addr)).irq 2 0
  match aget s.flt.corr e.mem with
  | some t0 =>
    if t < t0 + 200000000 then s else (s.raise 0x21 e.mem 0).modFlt (fun f => { f with corr := aput f.corr e.mem t })
  | none => (s.raise 0x21 e.mem 0).modFlt (fun f => { f with corr := aput f.corr e.mem t })

/-- An uncorrectable error (R617). -/
def State.eccFail (s : State) (e : EccEv) : State :=
  let s := (s.bump Addr.FLT_ECCCNT Fl.FLT_ECCCNT_UCOUNT).wf Addr.FLT_ECCSTAT Fl.FLT_ECCSTAT_UE 1
  let s := ((s.wf Addr.FLT_ECCSTAT Fl.FLT_ECCSTAT_UMEM e.mem).wr Addr.FLT_ECCUADDR (wN e.addr)).irq 2 1
  let s := s.raise 0x22 e.mem (eccClass e.mem)
  let s :=
    if e.mem < 3 then s.eccByte e.mem e.addr
    else s.eccLose e.mem e.addr
  if e.mem = 1 then s.wf Addr.SCH_BANK Fl.SCH_BANK_VOK 0
  else if e.mem = 0 ∨ e.mem = 2 ∨ e.mem = 3 ∨ e.mem = 4 ∨ e.mem = 5 then s.dropClaim 2 else s

/-- One error event; an address outside its memory, or before the initialisation has ended (R619), is none. -/
def State.ecc (s : State) (e : EccEv) : State :=
  let b := s.eccArea e.mem
  if e.mem > 11 ∨ s.pwr.memInit = true ∨ (e.mem < 3 ∧ (e.addr < b ∨ b + 0x40000 ≤ e.addr)) then s
  else if e.dbl then s.eccFail e else s.eccCorrect e

/-- The scrubber starts with the first frame after the memories' initialisation (R618). -/
def State.scrubStart (s : State) : State := if s.pwr.memInit then s else s.modFlt (fun f => { f with scrubOn := true })

/-- The scrubber's two words of a frame (R618). -/
def State.scrub (s : State) : State :=
  if !s.flt.scrubOn then s
  else if s.flt.scrubW + 2 ≥ scrubWords then
    ((s.modFlt (fun f => { f with scrubW := 0 })).wf Addr.FLT_SCRUB Fl.FLT_SCRUB_PASSES (s.rf Addr.FLT_SCRUB Fl.FLT_SCRUB_PASSES + 1)).irq 2 2
  else s.modFlt (fun f => { f with scrubW := f.scrubW + 2 })

end Sys2Proof.Machine
end

