-- ==== Sys2Proof/Machine/Swap.lean ====
section
/-! DEFINITION. Double banks (R92–R97): the SWAP objects, single and joint swap requests, and the swaps at a boundary. -/

namespace Sys2Proof.Machine

/-- The double banks: segment table, microstep table and coefficients of an axis, force set of a door, landing table. -/
inductive Dbl
| table (n : Nat)
| micro (n : Nat)
| coef (n : Nat)
| force (d : Nat)
| land
deriving DecidableEq, Repr

/-- All double banks of the family. -/
def Dbl.all : List Dbl :=
  (List.range 6).map .table ++ (List.range 6).map .micro ++ (List.range 6).map .coef ++ [.force 1, .force 2, .force 3, .force 4, .land]

/-- The SWAP register. -/
def Dbl.addr : Dbl → Nat
  | .table n => Addr.AX_TSWAP n
  | .micro n => Addr.AX_MSWAP n
  | .coef n => Addr.THR_CSWAP n
  | .force d => Addr.DOR_FSWAP d
  | .land => Addr.STP_LSWAP

/-- The index of the SWAP object (R96, R199, R239, R284, R285, R314). -/
def Dbl.index : Dbl → Nat
  | .table n => 0x3017 + 0x100 * n
  | .micro n => 0x3035 + 0x100 * n
  | .coef n => 0x3024 + 0x100 * n
  | .force d => 0x3803 + 0x10 * d
  | .land => 0x4007

/-- Is the unit, axis or door present? -/
def Dbl.here (s : State) : Dbl → Bool
  | .table n => s.hasAx n
  | .micro n => s.hasAx n
  | .coef n => s.hasAx n
  | .force d => s.hasDoor d
  | .land => s.hasUnit 4

/-- The CMD field of a SWAP register: bits 7:0 of every one (R93). -/
def swapCmd : Fld := ⟨0, 8⟩
def swapAct : Fld := ⟨8, 1⟩
def swapCnt : Fld := ⟨16, 16⟩

/-- The interrupt at the end of a swap (R615). -/
def Dbl.irq : Dbl → Nat × Nat
  | .force _ => (12, 7)
  | .land => (13, 6)
  | _ => (10, 7)

/-- The unit's check of its shadow set (R168, R224, R252, R283, R288). -/
def State.dblCheck (s : State) : Dbl → State × Bool
  | .table n =>
    let r := s.tblCheck n (s.axS n).tabS ((s.axS n).mot == .table)
    (s.wr (Addr.AX_TCHK n) (wN (r.1 + 256 * r.2)), r.1 == 0)
  | .micro n => s.microChk n
  | .coef n => s.coefChk n
  | .force d => s.forceChk d
  | .land => s.landChk

/-- The two sets change places. -/
def State.dblSwap (s : State) : Dbl → State
  | .table n => s.modAx n (fun x => { x with tab := x.tabS, tabS := x.tab, tblbad := false })
  | .micro n => s.modDrv n (fun d => { d with tblA := d.tblS, tblS := d.tblA })
  | .coef n => s.coefSwap n
  | .force d => s.forceSwap d
  | .land => s.landSwap

def State.setCmd (s : State) (k : Dbl) (c : Nat) : State := s.wf k.addr swapCmd c

/-- Is a swap of a double bank pending (R95, R97)? Its CMD reads 1: a further request then has no effect, also while the end
of the swap waits for the standby's confirmation (R582). -/
def State.swapBusy (s : State) (k : Dbl) : Bool := s.rf k.addr swapCmd == 1

/-- Is a shadow bank locked (R95)? From the request to the swap; a swap that has taken place and only waits to be reported
locks nothing. -/
def State.swapLocked (s : State) (k : Dbl) : Bool := s.swapBusy k && !s.pair.swack.any (fun p => p.1 == k.addr)

/-! ### Acknowledgements that wait for the standby (R582) -/

/-- Does the duty wait for the standby's confirmation: the peer is in STANDBY with SYNC? -/
def State.ackWaits (s : State) : Bool :=
  s.role == 4 && s.pst Fl.PAIR_STAT_LINKOK && (match s.pair.bcn with | some b => b.role == 2 && b.sync | none => false)

/-- The end of a swap, joint swap or bank switch is reported: the register named tells which. -/
def State.reportEnd (s : State) (a : Nat) : State :=
  if a = Addr.SCH_BANK then s.irq 1 5
  else if a = Addr.SCH_JSWCTL then
    ((s.wf Addr.SCH_JSWCTL Fl.SCH_JSWCTL_PEND 0).wf Addr.SCH_JSWCTL Fl.SCH_JSWCTL_DONE 1).irq 1 7
  else
    match Dbl.all.find? (fun k => k.addr == a) with
    | some k => (s.setCmd k 2).irq k.irq.1 k.irq.2
    | none => s

/-- At a boundary: report it now, or when the standby has confirmed the frame that starts. -/
def State.ackLater (s : State) (a : Nat) : State :=
  if s.ackWaits then { s with pair := { s.pair with swack := s.pair.swack ++ [(a, s.nextFrm)] } } else s.reportEnd a

/-- A swap takes place: the sets change places, COUNT and ACTIVE step, and its end is reported. -/
def State.swapDone (s : State) (k : Dbl) : State :=
  let s := s.dblSwap k
  let s := s.wf k.addr swapCnt (s.rf k.addr swapCnt + 1)
  (s.wf k.addr swapAct (1 - s.rf k.addr swapAct)).ackLater k.addr

/-- A set fails its check. -/
def State.swapRefused (s : State) (k : Dbl) : State := (s.setCmd k 3).irq k.irq.1 k.irq.2

/-- A single swap request (R94, R95). -/
def State.swapReq (s : State) (k : Dbl) : State :=
  if s.swapBusy k then s
  else
    let (s, ok) := s.dblCheck k
    if ok then { (s.setCmd k 1) with sch := { s.sch with swpDue := s.sch.swpDue ++ [k.addr] } }
    else s.swapRefused k

/-! ### The joint swap (R96, R97) -/

/-- The four places. -/
def State.jswPlaces (s : State) : List Nat :=
  [s.rf Addr.SCH_JSW01 Fl.SCH_JSW01_IDX0, s.rf Addr.SCH_JSW01 Fl.SCH_JSW01_IDX1,
   s.rf Addr.SCH_JSW23 Fl.SCH_JSW23_IDX2, s.rf Addr.SCH_JSW23 Fl.SCH_JSW23_IDX3]

/-- The double bank a place names. -/
def dblOf (ix : Nat) : Option Dbl := Dbl.all.find? (fun k => k.index == ix)

/-- A joint swap ends refused. DONE of an earlier joint swap stays until 1 is written to it (R106; log entry 129). -/
def State.jswFail (s : State) (map : Nat) : State :=
  let s := (s.wf Addr.SCH_JSWCTL Fl.SCH_JSWCTL_PEND 0).wf Addr.SCH_JSWCTL Fl.SCH_JSWCTL_FAIL 1
  (s.wf Addr.SCH_JSWCTL Fl.SCH_JSWCTL_FAILMAP map).irq 1 7

/-- A mask of the places a test holds of. -/
def placeMap (l : List Nat) (p : Nat → Nat → Bool) : Nat :=
  (l.zipIdx).foldl (fun m q => if p q.1 q.2 then m + 2 ^ q.2 else m) 0

/-- GO is written (R96, R97). DONE and FAIL of an earlier joint swap stay until 1 is written to them (R106; log entry 129). -/
def State.jswGo (s : State) : State :=
  if s.flag Addr.SCH_JSWCTL Fl.SCH_JSWCTL_PEND then s
  else
    let ps := s.jswPlaces
    let bad := placeMap ps (fun ix k => ix != 0 &&
      ((match dblOf ix with | none => true | some d => !d.here s || s.swapBusy d) ||
        (ps.zipIdx).any (fun q => q.2 != k && q.1 == ix)))
    if bad ≠ 0 ∨ ps.all (· == 0) = true then s.jswFail bad
    else
      let ks := ps.filterMap dblOf
      let r := ks.foldl (fun (r : State × List Dbl) k =>
        let (s, ok) := r.1.dblCheck k
        (s, if ok then r.2 else r.2 ++ [k])) (s, [])
      let s := r.1
      if r.2.isEmpty then
        let s := ks.foldl (fun s k => s.setCmd k 1) s
        let s := (s.wf Addr.SCH_JSWCTL Fl.SCH_JSWCTL_PEND 1).wf Addr.SCH_JSWCTL Fl.SCH_JSWCTL_FAILMAP 0
        { s with sch := { s.sch with jswDue := ks.map Dbl.addr } }
      else
        let s := ks.foldl (fun s k => if r.2.contains k then s.swapRefused k else s.setCmd k 0) s
        s.jswFail (placeMap ps (fun ix _ => r.2.any (fun k => k.index == ix)))

/-- The joint swap at a boundary (R98 step 4): the sets that were named and checked when GO was accepted. -/
def State.jswBoundary (s : State) : State :=
  if s.sch.jswDue.isEmpty then s
  else
    let s := (Dbl.all.filter (fun k => s.sch.jswDue.contains k.addr)).foldl State.swapDone s
    let s := s.ackLater Addr.SCH_JSWCTL
    { s with sch := { s.sch with jswDue := [] } }

/-- Single swaps at a boundary (R98 step 5). -/
def State.swpBoundary (s : State) : State :=
  let l := Dbl.all.filter (fun k => s.sch.swpDue.contains k.addr)
  let s := l.foldl State.swapDone s
  { s with sch := { s.sch with swpDue := [] } }

/-- The double bank whose shadow a register or entry writes. -/
def shadowOf (a : Nat) : Option Dbl :=
  match (List.range 6).find? (fun n => a == Addr.AX_TNPT n || a == Addr.AX_TDATA n) with
  | some n => some (.table n)
  | none =>
    match (List.range 6).find? (fun n => a == Addr.AX_MDATA n) with
    | some n => some (.micro n)
    | none =>
      match [1, 2, 3, 4].find? (fun d => a == Addr.DOR_FDATA d) with
      | some d => some (.force d)
      | none => if a = Addr.STP_LNUM ∨ a = Addr.STP_LDATA then some .land else none

/-- The double bank of an entry of its own. -/
def OSrc.shadow : OSrc → Option Dbl
  | .tbl n _ _ => some (.table n)
  | .coef n _ _ => some (.coef n)
  | .micro n _ => some (.micro n)
  | .force d _ => some (.force d)
  | .land _ _ => some .land
  | .reg a => shadowOf a
  | _ => none

end Sys2Proof.Machine
end

