-- ==== Sys2Proof/Machine/Power.lean ====
section
/-! DEFINITION. Start-up, power and reset (chapter 18, R660–R684): resets, clocks, module states and their commands, the boot
path, stores, the power-fail warning; bank checks (R79–R84). -/

namespace Sys2Proof.Machine

def State.modPwr (s : State) (f : PwrS → PwrS) : State := { s with pwr := f s.pwr }
def State.modSch (s : State) (f : SchS → SchS) : State := { s with sch := f s.sch }

/-! ### Module states (R669) -/

/-- Does the schedule run in a state (R78)? -/
def MSt.runs : MSt → Bool
  | .READY => true | .RUN => true | .HOLD => true | .FAULT => true | _ => false

/-- A switch asked for in READY or HOLD does not happen when the state is left (R81). -/
def State.cancelSwitch (s : State) : State :=
  if s.sch.chkKind = 2 ∧ s.sch.cancel = false ∨ s.flag Addr.SCH_BANK Fl.SCH_BANK_SWPEND = true ∨ s.sch.failDue.isSome = true then
    let s := (s.wf Addr.SCH_BANK Fl.SCH_BANK_SWPEND 0).wf Addr.SCH_BANK Fl.SCH_BANK_CANC 1
    (s.modSch (fun c => { c with cancel := true, failDue := none, next := none })).irq 1 6
  else s

/-- The schedule starts: what is told "since the schedule last started" clears (R100, R238). -/
def State.schedStart (s : State) : State :=
  ((s.wf Addr.SCH_STAT Fl.SCH_STAT_OVR 0).wf Addr.THR_STAT Fl.THR_STAT_LSMM 0).modSch (fun c => { c with stopped := false, aborted := false })

/-- A transition of the module state: registers, STATE record, interrupt; entering RUN ends the sleep of the CAN controllers (R484); what leaving RUN does to axes and doors (R164, R271); the
schedule starts or stops (R78); leaving FAULT opens the gates of the fault response and lets the slots run again (R76, R673). -/
def State.enter (s : State) (dst : MSt) (cause : Nat) : State :=
  let old := s.mode
  let s := s.wf Addr.PWR_MSTATE Fl.PWR_MSTATE_PREV old.code
  let s := (s.wf Addr.PWR_MSTATE Fl.PWR_MSTATE_STATE dst.code).wf Addr.PWR_MSTATE Fl.PWR_MSTATE_CAUSE cause
  let s := (s.record 3 dst.code old.code 0 cause 0 0).irq 5 7
  let s := if dst == .RUN then (s.canWake 0).canWake 1 else s
  let s := if old == .RUN then
      (List.range 6).foldl (fun s n =>
        if !s.hasAx n then s
        else (if decide ((s.axS n).mot = .idle) || decide ((s.axS n).mot = .limstop) then s else s.doHalt n).dorOutside n) s
    else s
  let s := if dst == .READY || dst == .HOLD then s else s.cancelSwitch
  let left := old == .FAULT && dst != .FAULT
  let s := if left then s.modFio (fun f => { f with fgate := 0 }) else s
  if dst.runs && (!old.runs || (left && s.sch.stopped)) then s.schedStart
  else if !dst.runs && old.runs then { s.releaseMissing with pend := [], smem := [], intp := [], hops := [] }
  else s

/-! ### Resets (R663, R666–R668) -/

/-- Reset is asserted by a source; the loft, the identity and what stands outside the logic island stay. Memories keep their
contents after sources 2 to 5, overruns and lockstep mismatches are counted on from power-on (R105, R238), and UVW and UVF show the field island, which goes on (R416, R668). A brown-out holds until
POWER_ON_RESET, whatever else asserts reset meanwhile (R663). -/
def State.assertReset (s : State) (src : Nat) : State :=
  let n := if src = 0 then 0 else min 255 (s.rf Addr.PWR_RSTSRC Fl.PWR_RSTSRC_COUNT + 1)
  let t := State.afterReset s.id s.loft (decide (src ≤ 1))
  let t := { t with
    mem := if src ≤ 1 then [] else s.mem
    free := s.free
    pending := s.pending
    fio := { t.fio with up := s.fio.up, flt := s.fio.flt.map (fun (w : WinF) => { WinF.init with raw := w.raw }), vf := s.fio.vf
                        peer := s.fio.peer, peerT := s.fio.peerT, uvH := s.fio.uvH }
    pwr := { t.pwr with inReset := decide (src = 1) || (s.pwr.inReset && src != 0), lossF3 := decide (src = 5) } }
  let t := (t.setFstat Fl.FIO_STAT_UVW (s.fstat Fl.FIO_STAT_UVW)).setFstat Fl.FIO_STAT_UVF (s.fstat Fl.FIO_STAT_UVF)
  let t := if src = 0 then t else (t.wr Addr.SCH_OVR_CNT (s.rd Addr.SCH_OVR_CNT)).wr Addr.THR_LSCNT (s.rd Addr.THR_LSCNT)
  (t.wf Addr.PWR_RSTSRC Fl.PWR_RSTSRC_SRC src).wf Addr.PWR_RSTSRC Fl.PWR_RSTSRC_COUNT n

/-- POWER_ON_RESET (R661, R667): it ends a held brown-out reset, or starts the module as at a first rise of the supplies. -/
def State.powerOn (s : State) : State :=
  if s.pwr.inReset then s.modPwr (fun p => { p with inReset := false }) else s.assertReset 0

/-- OSCILLATOR_STABLE (R664). -/
def State.oscStable (s : State) : State :=
  if s.mode == .RESET && !s.pwr.inReset then (s.modPwr (fun p => { p with xok := true })).wf Addr.CLK_STAT Fl.CLK_STAT_XOK 1 else s

/-- PLL_LOCK with the time to lock in µs (R665). -/
def State.pllLock (s : State) (t : Nat) : State :=
  if s.pwr.xok && !s.pwr.lock then
    ((s.modPwr (fun p => { p with lock := true })).wf Addr.CLK_STAT Fl.CLK_STAT_LOCK 1).wf Addr.CLK_STAT Fl.CLK_STAT_LOCKT t
  else s

/-- PLL_LOCK_LOST (R663, R665). -/
def State.lockLost (s : State) : State := if s.pwr.lock then s.assertReset 5 else s

/-- RESET_END (R665, R669): frame 0 starts, the filters judge (R711), the scrubber starts where no initialisation runs (R618), and
a loss of lock is reported (R681). -/
def State.resetEnd (s : State) : State :=
  if s.mode == .RESET && s.pwr.lock then
    let s := { s with frm := 0, ecyc := 0, cyc := 0 }
    let s := (s.modPwr (fun p => { p with load := 1 })).enter .LOAD 1
    let s := s.filtersStart
    let s := s.modFlt (fun f => { f with scrubOn := !s.pwr.memInit })
    let s := if s.pwr.lossF3 then ((s.modPwr (fun p => { p with lossF3 := false })).irq 2 7).raise 0xF3 0 0 else s
    s.sendBeacon
  else s

/-! ### Slot descriptors (R675) -/

/-- The CRC-32C of a descriptor copy over its content in the order of R675; the manual lays out no bytes (DESIGN CHOICE, log 173). -/
def LoftDesc.sum (d : LoftDesc) : Nat :=
  crc32c (d.slots.flatMap (fun x => [b2n x.valid] ++ leBytes 4 x.len ++ leBytes 4 x.crc ++ [b2n x.rdy] ++ leBytes 4 x.cnt) ++ [d.pref])

/-- The store count by which copies are compared: that of both slots (DEDUCED, log 173). -/
def LoftDesc.count (d : LoftDesc) : Nat := d.slots.foldl (fun n x => n + x.cnt) 0

/-- The valid copy with the higher store count; none valid: no slot is. -/
def LoftS.desc (l : LoftS) : LoftDesc :=
  (l.descs.filter (fun d => d.sum == d.crc)).foldl (fun b d => if d.count > b.count then d else b) LoftDesc.init

/-- Both copies are written with new descriptors, which are those in use. -/
def State.putDesc (s : State) (d : LoftDesc) : State :=
  let d := { d with crc := d.sum }
  (s.modLoft (fun l => { l with descs := l.descs.map (fun _ => d) })).modPwr (fun p => { p with desc := d })

/-- The next slot of the boot path: PREF first, VALID and not tried. -/
def State.nextSlot (s : State) : Option Nat :=
  [s.pwr.desc.pref, 1 - s.pwr.desc.pref].find? (fun k => (s.slotDesc k).valid && !bitOf s.pwr.tried k)

/-- The boot path ends without a sheaf. -/
def State.bootNone (s : State) : State :=
  let w := match s.pwr.first with | some w => w | none => 0xFFFF0001
  let s := s.wf Addr.PWR_BOOT Fl.PWR_BOOT_NONE 1
  (s.modPwr (fun p => { p with load := 0, failDue := some (3, w) })).raise 0xF5 0 1

/-- With no slot left to try the boot path ends without a sheaf (R676). -/
def State.bootEmpty (s : State) : State :=
  if s.mode == .LOAD && s.pwr.load == 1 && !s.pwr.memInit && s.rstat Fl.REC_STAT_READY && s.nextSlot.isNone then s.bootNone else s

/-- MEMORY_INIT_DONE (R619). -/
def State.memInitDone (s : State) : State :=
  if s.pwr.memInit && s.pwr.lock then
    let s := { s with mem := [] }
    (s.modPwr (fun p => { p with memInit := false })).bootEmpty
  else s

/-- LOFT_SCAN_DONE (R646, R675, R676): the scan ends, the slot descriptors are read and the energy count is restored. -/
def State.loftScan (s : State) (bad : Bool) : State :=
  if s.mode == .RESET || s.rstat Fl.REC_STAT_READY then s
  else
    let d := s.loft.desc
    (s.scanDone bad).nrgRestore.modPwr (fun p => { p with desc := d }) |>.bootEmpty

/-! ### Rails and the power-fail warning (R662, R679, R680) -/

/-- A rail beyond a trip point (R662): 0 core, 1 analog, 2 I/O; in RESET too, but not while a brown-out holds it (R663; log 114). -/
def State.railOut (s : State) (r : Nat) (hi : Bool) : State :=
  if r > 2 then s
  else
    let was := s.flag Addr.PWR_SUP ⟨r, 1⟩
    let s := (s.wf Addr.PWR_SUP ⟨r, 1⟩ 0).wf Addr.PWR_SUP ⟨(if hi then 12 else 8) + r, 1⟩ 1
    if was && !s.pwr.inReset then ((s.irq 2 6).raise 0xF2 r 3).dropClaim 4 else s

def State.railBack (s : State) (r : Nat) : State := if r > 2 then s else s.wf Addr.PWR_SUP ⟨r, 1⟩ 1

/-- A store ends with a result (R678, R681, R684). -/
def State.storeEnd (s : State) (res : Nat) : State :=
  match s.pwr.store with
  | none => s
  | some st =>
    let s := (s.modPwr (fun p => { p with store := none })).wf Addr.PWR_STORE Fl.PWR_STORE_SRES res
    if res = 1 then s else s.raise 0xF6 st.slot 0

/-- POWER_FAIL_WARNING (R643, R679); in RESET too, but not while a brown-out holds it (log 119). The checkpoint needs a restored count
(R445). -/
def State.pfWarning (s : State) : State :=
  let s := s.wf Addr.PWR_SUP Fl.PWR_SUP_PFPIN 1
  if s.flag Addr.PWR_SUP Fl.PWR_SUP_PFW || s.pwr.inReset then s
  else
    let s := ((s.wf Addr.PWR_SUP Fl.PWR_SUP_PFW 1).irq 2 5).raise 0xF1 0 2
    let s := (s.modRec (fun r => { r with pfmode := true })).setRstat Fl.REC_STAT_PFMODE true
    let s := s.record 7 0 (s.rf Addr.PWR_RSTSRC Fl.PWR_RSTSRC_SRC) 0 0 0 0
    let s := if s.hasUnit 3 && s.nrg.rest then s.nrgCkpt true else s
    s.startFlush.storeEnd 4

def State.pfEnd (s : State) : State := s.wf Addr.PWR_SUP Fl.PWR_SUP_PFPIN 0

/-! ### Conditions of the commands (R670–R673) -/

/-- The inactive bank. -/
def State.inactive (s : State) : Nat := 1 - s.rf Addr.SCH_BANK Fl.SCH_BANK_ACT

/-- The supply condition of R672. -/
def State.supplyOk (s : State) : Bool := !s.flag Addr.PWR_SUP Fl.PWR_SUP_PFW && s.rf Addr.PWR_SUP Fl.PWR_SUP_OK == 7

/-- Handling in progress, or a listed fault of stop or trip class whose condition holds. -/
def State.handlingOrHolds (s : State) : Bool := s.flt.hcls != 0 || s.stopHolds

/-- The reason a RUN command is refused for, 0 none (R670, R672); with a warning latched it is 7 in every state (R680). -/
def State.runReason (s : State) : Nat :=
  let guard := s.hasUnit 1 && s.flag Addr.HDL_CFG Fl.HDL_CFG_EN
  if s.flag Addr.PWR_SUP Fl.PWR_SUP_PFW then 7
  else if !(s.mode == .READY || s.mode == .HOLD) then 1
  else if !s.supplyOk then 7
  else if s.handlingOrHolds then 2
  else if guard && (s.hdl.gst == 4 || s.flag Addr.HDL_STAT Fl.HDL_STAT_CFGBAD) then 4
  else if !s.rstat Fl.REC_STAT_READY then 5
  else if s.role != 0 && s.role != 4 then 6
  else 0

/-- The reason FCLR is refused for (R673, R680). -/
def State.fclrReason (s : State) : Nat :=
  if s.flag Addr.PWR_SUP Fl.PWR_SUP_PFW then 7
  else if s.mode != .FAULT then 1
  else if s.standby then 6
  else if s.pair.drop ≠ 0 then 3
  else if !s.supplyOk then 7
  else if s.handlingOrHolds then 2
  else 0

/-- Is every present axis IDLE? -/
def State.axesIdle (s : State) : Bool := (List.range 6).all (fun n => !s.hasAx n || decide ((s.axS n).mot = .idle))

/-- The reason a command is refused for (R669, R670). -/
def State.cmdReason (s : State) (c : Nat) : Nat :=
  let m := s.mode
  let st (b : Bool) : Nat := if !b then 1 else if s.standby then 6 else 0
  match c with
  | 1 => st (m == .READY)
  | 2 => if m == .CONFIG then 0 else if m == .HOLD then (if s.standby then 6 else if s.axesIdle then 0 else 8) else 1
  | 3 => s.runReason
  | 4 => st (m == .RUN)
  | 5 => s.fclrReason
  | 6 => if !(m == .CONFIG || m == .LOAD_FAIL) then 1 else if s.pwr.store.isSome then 9 else 0
  | 7 =>
    if m == .RUN || m == .LOAD || m == .RESET then 1
    else if s.pwr.store.isSome then 9
    else if s.rcd.pfmode then 7 else 0
  | _ => if m == .RUN then 1 else 0

/-! ### Commands (R669–R673, R677, R678) -/

/-- The store begins: the source bank is checked, the target slot marked invalid. -/
def State.storeStart (s : State) : State :=
  let f (x : Fld) : Nat := s.rf Addr.PWR_STORE x
  let b := if f Fl.PWR_STORE_SRC = 0 then 1 - s.inactive else s.inactive
  let slot := f Fl.PWR_STORE_SLOT
  let (c, sh) := s.checkBank b
  let img := match sh with | some h => s.bytes (bankBase b) h.imgLen | none => []
  let st : StoreS := ⟨slot, f Fl.PWR_STORE_AUTORDY == 1, f Fl.PWR_STORE_BOOT == 1, img, decide (c.cause ≠ 0), b⟩
  let s := s.modPwr (fun p => { p with store := some st })
  if c.cause ≠ 0 then s
  else (s.putDesc { s.pwr.desc with slots := s.pwr.desc.slots.modify slot (fun x => { x with valid := false }) }).modLoft
    (fun l => { l with imgs := l.imgs.set slot [] })

/-- A state command acts at its boundary; `nmt` says that an NMT command asked. The answer says whether it was accepted. -/
def State.pwrCmd (s : State) (c : Nat) (nmt faulted : Bool) : State × Bool :=
  let cause := if nmt then 6 else 5
  let why := if faulted && c != 0xF then 2 else s.cmdReason c
  if why ≠ 0 then
    ((s.wf Addr.PWR_MSTATE Fl.PWR_MSTATE_RES 2).wf Addr.PWR_MSTATE Fl.PWR_MSTATE_REASON why, false)
  else
    let s := (s.wf Addr.PWR_MSTATE Fl.PWR_MSTATE_RES 1).wf Addr.PWR_MSTATE Fl.PWR_MSTATE_REASON 0
    let s := match c with
      | 1 => s.enter .CONFIG cause
      | 2 => s.enter .READY cause
      | 3 => s.enter .RUN cause
      | 4 => s.enter .HOLD cause
      | 5 => s.enter .HOLD cause
      | 6 => (s.modPwr (fun p => { p with load := 2 })).enter .LOAD 4
      | 7 => s.storeStart
      | _ => s.assertReset (if nmt then 4 else 3)
    (s, true)

/-- STORE_DONE (R678, steps 3 and 4) with the number of failing blocks met and whether no block could be found for one. -/
def State.storeDone (s : State) (fails : Nat) (none_ : Bool) : State :=
  match s.pwr.store with
  | none => s
  | some st =>
    if st.bad then s.storeEnd 2
    else
      let s := s.sheafRemaps st.slot fails
      if none_ then s.storeEnd 3
      else
        let d := s.pwr.desc
        let x : LoftSlot := ⟨true, st.img.length, crc32c (st.img.take (st.img.length - 4)), st.rdy, (s.slotDesc st.slot).cnt + 1⟩
        let s := s.modLoft (fun l => { l with imgs := l.imgs.set st.slot st.img })
        (s.putDesc { d with slots := d.slots.set st.slot x, pref := if st.boot then st.slot else d.pref }).storeEnd 1

/-! ### Boot and load (R676, R677) -/

/-- An open download session ends because its bank becomes active or a reset comes (R549, R667). -/
def State.bulkAbort (s : State) : State :=
  if s.hlk.bulk.isSome then { s with hlk := { s.hlk with bulk := none } }.irq 5 4 else s

/-- BOOT_SLOT_CHECKED: the next stored slot has been copied into bank A and checked. -/
def State.bootSlot (s : State) : State :=
  if !(s.mode == .LOAD) || s.pwr.load != 1 || s.pwr.memInit || !s.rstat Fl.REC_STAT_READY then s
  else
    match s.nextSlot with
    | none => s.bootNone
    | some k =>
      let img := s.loft.imgs.getD k []
      let rdy := (s.slotDesc k).rdy
      let b := bankBase 0
      let s := { s with mem := putBytes (clearRange s.mem b (b + img.length)) b img }
      let s := s.modPwr (fun p => { p with tried := p.tried ||| 2 ^ k })
      let (c, sh) := s.checkBank 0
      match sh with
      | some h =>
        let s := (s.wf Addr.PWR_BOOT Fl.PWR_BOOT_LOADED k).wf Addr.PWR_BOOT Fl.PWR_BOOT_FALLBK (b2n (k != s.pwr.desc.pref))
        s.modPwr (fun p => { p with load := 0, actDue := some (0, rdy, 2, h) })
      | none =>
        let s := if s.pwr.first.isSome then s
          else (s.wf Addr.PWR_BOOT Fl.PWR_BOOT_BCAUSE c.cause).modPwr (fun p => { p with first := some (c.word 0) })
        let s := s.raise 0xF4 k 1
        if s.nextSlot.isSome then s else s.bootNone

/-- LOAD_CHECK_DONE (R677). -/
def State.loadDone (s : State) : State :=
  if !(s.mode == .LOAD) || s.pwr.load != 2 then s
  else
    let b := s.inactive
    let (c, sh) := s.checkBank b
    match sh with
    | some h => s.modPwr (fun p => { p with load := 0, actDue := some (b, false, 4, h) })
    | none => (s.modPwr (fun p => { p with load := 0, failDue := some (4, c.word b) }))

/-- LOAD_FAIL is entered, with its interrupt (R615): SCH_LDCAUSE then holds the check that led there (R104). -/
def State.loadFail (s : State) (cause w : Nat) : State := ((s.wr Addr.SCH_LDCAUSE (wN w)).enter .LOAD_FAIL cause).irq 1 6

/-- What boot and load bring at a boundary: the bank that passed its check becomes active, or LOAD_FAIL is entered. -/
def State.loadBoundary (s : State) : State :=
  match s.pwr.actDue with
  | some (b, rdy, cause, h) =>
    let s := s.modPwr (fun p => { p with actDue := none })
    let s := if cause = 4 then s.bulkAbort else s
    (s.takeSheaf b h false).enter (if rdy then .READY else .CONFIG) cause
  | none =>
    match s.pwr.failDue with
    | some (c, w) => (s.modPwr (fun p => { p with failDue := none })).loadFail c w
    | none => s

/-! ### Bank checks and switches (R79–R84) -/

/-- A request was turned away (R79, R80). -/
def State.bankRefused (s : State) : State := (s.wf Addr.SCH_BANK Fl.SCH_BANK_REFUSED 1).irq 1 6

/-- VERIFY_REQUEST (R79). -/
def State.verifyReq (s : State) : State :=
  if s.checking || s.flag Addr.SCH_BANK Fl.SCH_BANK_SWPEND then s.bankRefused
  else s.modSch (fun c => { c with chkKind := 1, cancel := false })

/-- May a switch be asked for (R80)? -/
def State.switchOk (s : State) : Bool :=
  (s.mode == .READY || s.mode == .HOLD) && !s.checking && !s.flag Addr.SCH_BANK Fl.SCH_BANK_SWPEND && s.sch.failDue.isNone

/-- SWITCH_REQUEST (R80). -/
def State.switchReq (s : State) : State :=
  if s.switchOk then s.modSch (fun c => { c with chkKind := 2, cancel := false }) else s.bankRefused

/-- BANK_CHECK_DONE (R79–R81). -/
def State.bankCheckDone (s : State) : State :=
  match s.sch.chkKind with
  | 0 => s
  | k =>
    let b := s.inactive
    let (c, sh) := s.checkBank b
    let s := s.modSch (fun x => { x with chkKind := 0 })
    if k = 1 then
      ((s.wf Addr.SCH_BANK Fl.SCH_BANK_VCAUSE c.cause).wf Addr.SCH_BANK Fl.SCH_BANK_VOK (b2n (c.cause == 0))).irq 1 4
    else if s.sch.cancel then s.wf Addr.SCH_BANK Fl.SCH_BANK_VCAUSE c.cause
    else if c.cause = 0 then ((s.wf Addr.SCH_BANK Fl.SCH_BANK_SWPEND 1).modSch (fun x => { x with next := sh })).bulkAbort
    else s.modSch (fun x => { x with failDue := some (c.word b) })

/-- The switch at its boundary (R80, R82): the sheaf whose check passed, and its event record. -/
def State.switchBoundary (s : State) : State :=
  match s.sch.failDue with
  | some w => (s.modSch (fun c => { c with failDue := none })).loadFail 9 w
  | none =>
    if !s.flag Addr.SCH_BANK Fl.SCH_BANK_SWPEND then s
    else
      let b := s.inactive
      let s := s.wf Addr.SCH_BANK Fl.SCH_BANK_SWPEND 0
      match s.sch.next with
      | none => s
      | some h =>
        let s := ((s.modSch (fun c => { c with next := none })).takeSheaf b h true).ackLater Addr.SCH_BANK
        s.record 4 b h.frate 0 h.crc h.stateId 0

end Sys2Proof.Machine
end

