-- ==== Sys2Proof/Machine/Access.lean ====
section
/-! DEFINITION. The control path: reads and writes of registers and memory (R36–R52, R547, R548), writes that act at once, staging
and its application at a boundary (R83–R91, R295, R712), refusals and the violation log (R552). -/

namespace Sys2Proof.Machine

def State.modHlk (s : State) (f : HlkS → HlkS) : State := { s with hlk := f s.hlk }
def State.sdoS (s : State) (x : Nat) : SdoS := s.sdo.getD x SdoS.init
def State.modSdo (s : State) (x : Nat) (f : SdoS → SdoS) : State := { s with sdo := setAt 2 SdoS.init s.sdo x f }

/-! ### The violation log (R552, R553) -/

/-- Is a refusal logged? -/
def logged (code : Nat) : Bool := !(decide (0x0F000001 ≤ code) && decide (code ≤ 0x0F000008)) && code != 0x08000020

/-- Log a refusal: source of R553, object or register, address, write. -/
def State.violate (s : State) (src : Nat) (obj : Bool) (addr : Nat) (wr : Bool) (code : Nat) : State :=
  if !logged code then s
  else
    let s := (s.wr Addr.HIF_VIOL_ADDR (wN addr)).wr Addr.HIF_VIOL_CODE (wN code)
    let s := s.wr Addr.HIF_VIOL_INFO (wN (s.frm % 65536 * 65536 + 32 * b2n wr + 16 * b2n obj + src % 8))
    (s.bump Addr.HIF_VIOL_CNT ⟨0, 32⟩).irq 5 0

/-! ### Answers to accesses that waited -/

/-- A host-link access ends. -/
def State.hostDone (s : State) (tag : Nat) (b : HBody) : State :=
  s.modHlk (fun h => { h with held := h.held.map (fun (r : HRes) => if r.tag == tag && r.body.isNone then { r with body := some b } else r) })

/-- A response of an SDO server is queued for its controller (R500). -/
def State.sdoSend (s : State) (x : Nat) (bs : List Nat) : State :=
  let node := if x = 0 then s.cia.nodeA else s.cia.nodeB
  s.modCan x (fun c => { c with svc := c.svc ++ [⟨0x580 + node, false, false, false, false, 8, (bs ++ List.replicate 8 0).take 8, 0, false⟩] })

/-- An SDO abort (R499). -/
def State.sdoAbort (s : State) (x ix sub code : Nat) : State := s.sdoSend x ([0x80] ++ leBytes 2 ix ++ [sub] ++ leBytes 4 code)

/-- An SDO access ends: its response goes out. -/
def State.sdoDone (s : State) (x tag code : Nat) : State :=
  match (s.sdoS x).wait.find? (fun w => w.1 == tag) with
  | none => s
  | some (_, ix, sub, seg) =>
    let s := s.modSdo x (fun d => { d with wait := d.wait.filter (fun w => w.1 != tag) })
    if code ≠ 0 then s.sdoAbort x ix sub code
    else match seg with
      | none => s.sdoSend x ([0x60] ++ leBytes 2 ix ++ [sub])
      | some t => s.sdoSend x [0x20 + 16 * t]

/-- The access of a source and tag ends with a code, 0 for none. -/
def State.accessDone (s : State) (src tag code addr : Nat) : State :=
  if src ≤ 1 then s.hostDone tag (if code = 0 then .ok [] else .err code addr)
  else if src = 3 ∨ src = 4 then s.sdoDone (src - 3) tag code
  else s

/-! ### Addresses (R43–R46, R547) -/

/-- Why an address cannot be accessed, 0 for none. -/
def State.addrErr (s : State) (a : Nat) : Nat :=
  if a % 4 ≠ 0 then 0x0F010001
  else if inMem a then 0
  else if a < 0x40000000 ∨ a ≥ 0x4001B000 then 0x06020000
  else
    let p := (a - 0x40000000) / 0x1000
    let o := a % 0x1000
    if !s.hasPage p || (p == 0x0D && decide (0x100 ≤ o) && decide (o < 0x200) && !s.hasUnit 2) ||
        (p == 0x12 && decide (0x100 ≤ o) && decide (o < 0x500) && !s.hasDoor (o / 0x100)) then 0x06060000
    else if (regRow? a).isNone then 0x06020000
    else 0

/-- Has a register a field with an access code? -/
def RegRow.has (r : RegRow) (c : Acc) : Bool := r.rows.any (fun f => f.acc == c)

/-- Is a write of a register applied at a boundary: an RWF field, or the call queue (R85, R295)? -/
def stagedReg (a : Nat) : Bool :=
  a == Addr.STP_CALLQ || (match regRow? a with | some r => r.has .rwf | none => false)

/-! ### Reads -/

/-- The value of a register with its write-only fields read as 0. -/
def State.shown (s : State) (a : Nat) : Word :=
  let v := s.view a
  match regRow? a with
  | some r => r.rows.foldl (fun w f => if f.acc = .wo then setF w f.fld 0 else w) v
  | none => v

/-- A pointer register advances after an access of its data register: the low field wraps at `n`, then the next one steps. -/
def State.stepPtr (s : State) (p : Nat) (ainc lo hi : Fld) (n : Nat) : State :=
  if s.flag p ainc then
    let k := s.rf p lo + 1
    if k < n then s.wf p lo k else (s.wf p lo 0).wf p hi (s.rf p hi + 1)
  else s

/-- The pointer advance of a data register (R92 and the units' tables). -/
def State.dataStep (s : State) (a : Nat) : State :=
  if a = Addr.THR_CDATA then s.stepPtr Addr.THR_CPTR Fl.THR_CPTR_AINC Fl.THR_CPTR_WORD Fl.THR_CPTR_LEVEL 9
  else if a = Addr.STP_LDATA then s.stepPtr Addr.STP_LPTR Fl.STP_LPTR_AINC Fl.STP_LPTR_WORD Fl.STP_LPTR_ENTRY 2
  else
    match (List.range 6).find? (fun n => a == Addr.AX_TDATA n || a == Addr.AX_MDATA n) with
    | some n =>
      if a = Addr.AX_TDATA n then s.stepPtr (Addr.AX_TPTR n) Fl.AX_TPTR_AINC Fl.AX_TPTR_WORD Fl.AX_TPTR_ENTRY 3
      else if s.flag (Addr.AX_MPTR n) Fl.AX_MPTR_AINC then s.wf (Addr.AX_MPTR n) Fl.AX_MPTR_ENTRY (s.rf (Addr.AX_MPTR n) Fl.AX_MPTR_ENTRY + 1)
      else s
    | none =>
      match [1, 2, 3, 4].find? (fun d => a == Addr.DOR_FDATA d) with
      | some d => if s.flag (Addr.DOR_FPTR d) Fl.DOR_FPTR_AINC then
          s.wf (Addr.DOR_FPTR d) Fl.DOR_FPTR_WORD ((s.rf (Addr.DOR_FPTR d) Fl.DOR_FPTR_WORD + 1) % 11)
        else s
      | none => s

/-- What a read of a register does besides returning its value: latches, snapshots, windows, the recorder's cursor, RC registers. -/
def State.readEffect (s : State) (a : Nat) : State :=
  if a = Addr.SCH_FRM_LO then s.wr Addr.SCH_FRM_HI (wN (s.frm / 2 ^ 32))
  else if a = Addr.PAIR_FOFS_LO then s.wr Addr.PAIR_FOFS_HI (wI (s.fofs / 2 ^ 32))
  else if a = Addr.FLT_FFRM_LO then s.wr Addr.FLT_FFRM_HI (wN (s.flt.ffrm / 2 ^ 32))
  else if a = Addr.FLT_LFRM_LO then s.wr Addr.FLT_LFRM_HI (wN (s.flt.lfrm / 2 ^ 32))
  else if a = Addr.REC_WALL_LO then s.wr Addr.REC_WALL_HI (wN (s.wall / 2 ^ 32))
  else if a = Addr.CAN_HPD 0 1 then s.hpRead 0
  else if a = Addr.CAN_HPD 1 1 then s.hpRead 1
  else
    match regIx a (Addr.REC_WIN 0) 4 8 with
    | some w => s.recWinRead w (s.flag Addr.REC_CFG Fl.REC_CFG_AINC)
    | none =>
      match (List.range 8).find? (fun n => a == Addr.FB_POS n) with
      | some n => s.posSnapshot n
      | none =>
        match (List.range 6).find? (fun n => a == Addr.AX_RATE_LO n) with
        | some n => s.wr (Addr.AX_RATE_HI n) (wN (enc 48 (s.axS n).wCom / 2 ^ 32))
        | none =>
          match regRow? a with
          | some r => if r.has .rc then s.wr a 0 else s.dataStep a
          | none => s

/-- A read of a register that exists: code 0 or a refusal (R396, R467), value, state. -/
def State.regRead (s : State) (a : Nat) : Nat × Word × State :=
  match regIx a (Addr.FIO_EFL 0) 4 4 with
  | some g =>
    match s.edgeRead g with
    | some (w0, _, t) => (0, w0, t)
    | none => (0x0F010003, 0, s)
  | none =>
    match [0, 1].find? (fun x => (regIx a (Addr.CAN_RXD x 0) 4 19).isSome) with
    | some x =>
      match s.rxWin x ((a - Addr.CAN_RXD x 0) / 4) with
      | some (v, t) => (0, v, t)
      | none => (0x0F010003, 0, s)
    | none => (0, s.shown a, s.readEffect a)

/-- A read of one word of registers or memory; the memories read 0 while they are initialised (R619). -/
def State.wordRead (s : State) (a : Nat) : Nat × Word × State :=
  if inMem a then (0, if s.pwr.memInit then 0 else s.mw a, s) else s.regRead a

/-! ### Writes that act at once -/

/-- A double bank's shadow word is written through its data register. -/
def State.shadowPut (s : State) (a : Nat) (v : Word) : State :=
  let n := axOf a
  let s' :=
    if a = Addr.AX_TNPT n then s.modAx n (fun x => { x with tabS := { x.tabS with n := v.toNat % 128 } })
    else if a = Addr.AX_TDATA n then
      let p := s.rd (Addr.AX_TPTR n)
      s.modAx n (fun x => { x with tabS := x.tabS.setWord (getF p Fl.AX_TPTR_ENTRY) (getF p Fl.AX_TPTR_WORD) v.toNat })
    else if a = Addr.AX_MDATA n then
      s.modDrv n (fun d => { d with tblS := microPut d.tblS (s.rf (Addr.AX_MPTR n) Fl.AX_MPTR_ENTRY) (v.toNat % 65536) })
    else if a = Addr.THR_CDATA then
      let p := s.rd Addr.THR_CPTR
      s.coefPut (getF p Fl.THR_CPTR_AXIS) (9 * getF p Fl.THR_CPTR_LEVEL + getF p Fl.THR_CPTR_WORD) v false
    else if a = Addr.STP_LNUM then s.modStp (fun p => { p with ls := { p.ls with n := v.toNat % 512 } })
    else if a = Addr.STP_LDATA then
      let p := s.rd Addr.STP_LPTR
      s.modStp (fun q => { q with ls := q.ls.setWord (getF p Fl.STP_LPTR_ENTRY) (getF p Fl.STP_LPTR_WORD) v.toNat })
    else
      match [1, 2, 3, 4].find? (fun d => a == Addr.DOR_FDATA d) with
      | some d => s.modDor d (fun x => { x with fS := x.fS.set (s.rf (Addr.DOR_FPTR d) Fl.DOR_FPTR_WORD) v.toNat })
      | none => s
  s'.dataStep a

/-- The shadow a data register writes at present. -/
def State.shadowNow (s : State) (a : Nat) : Option Dbl :=
  if a = Addr.THR_CDATA then some (.coef (s.rf Addr.THR_CPTR Fl.THR_CPTR_AXIS)) else shadowOf a

/-- RW and W1C fields of a register take a written value; all others stay. -/
def RegRow.put (r : RegRow) (old v : Word) : Word :=
  r.rows.foldl (fun w f =>
    if f.acc = .rw then setF w f.fld (getF v f.fld)
    else if f.acc = .w1c then setF w f.fld (getF w f.fld &&& ((2 ^ f.fld.w - 1) ^^^ getF v f.fld))
    else w) old

/-- The plain effect. -/
def State.plainPut (s : State) (a : Nat) (v : Word) : State :=
  match regRow? a with | some r => s.wr a (r.put (s.rd a) v) | none => s

/-- A write of SCH_BANK (R79, R80, R103). -/
def State.bankPut (s : State) (v : Word) : State :=
  let s := s.plainPut Addr.SCH_BANK v
  let s := if getF v Fl.SCH_BANK_VFYREQ = 1 then s.verifyReq else s
  if getF v Fl.SCH_BANK_SWREQ = 1 then s.switchReq else s

/-- Refusal and state of an optional effect. -/
def State.orRefuse (s : State) (o : Option State) : Nat × State :=
  match o with | some t => (0, t) | none => (0x0F010003, s)

/-- A write of CANx_CMD (R481, R483): sleep, wake, recovery. -/
def State.canCmdPut (s : State) (x : Nat) (v : Word) : Nat × State :=
  let s' := if getF v Fl.CAN_CMD_WAKE = 1 then s.canWake x else s
  let s' := if getF v Fl.CAN_CMD_BORQ = 1 then s'.canBorq x else s'
  if getF v Fl.CAN_CMD_SLEEP = 1 then (match s'.canSleep x with | some t => (0, t) | none => (0x0F010003, s)) else (0, s')

/-- A write of CANx_TXCTL (R471, R472). -/
def State.txCtlPut (s : State) (x : Nat) (v : Word) : Nat × State :=
  let k := s.rf (Addr.CAN_TXSEL x) Fl.CAN_TXSEL_OBJ
  let s' := if getF v Fl.CAN_TXCTL_CANCEL = 1 then s.txCancel x k else s
  if getF v Fl.CAN_TXCTL_REQ = 1 then (match s'.txReq x with | some t => (0, t) | none => (0x0F010003, s))
  else (0, s')

/-- Writes to the pages CANA and CANB that act. -/
def State.canPut (s : State) (x a : Nat) (v : Word) : Nat × State :=
  if a = Addr.CAN_CMD x then s.canCmdPut x v
  else if a = Addr.CAN_TXCTL x then s.txCtlPut x v
  else if a = Addr.CAN_RXSEL x then (0, (s.unlock x).plainPut a v)
  else
    match regIx a (Addr.CAN_TXD x 0) 4 19 with
    | some w => s.orRefuse (s.txWinWrite x w v)
    | none => (0, s.plainPut a v)

/-- A write of REC_CMD (R638, R654). -/
def State.recCmdPut (s : State) (v : Word) : Nat × State :=
  if getF v Fl.REC_CMD_CLEAR = 1 ∧ s.mode = .RUN then (0x08000022, s)
  else
    let s := if getF v Fl.REC_CMD_CLEAR = 1 then s.recClear else s
    (0, if getF v Fl.REC_CMD_FLUSH = 1 then s.startFlush else s)

/-- A write of FLT_CMD (R600, R604). -/
def State.fltCmdPut (s : State) (v : Word) : State :=
  let s := if getF v Fl.FLT_CMD_REARM = 1 then s.faultRearm else s
  if getF v Fl.FLT_CMD_ACK = 1 then s.faultAck else s

/-- Writes to the CRC page. -/
def State.crcPut (s : State) (a : Nat) (v : Word) : Nat × State :=
  if a = Addr.CRC_CFG then s.crcCfg v
  else if a = Addr.CRC_POLY ∨ a = Addr.CRC_INIT ∨ a = Addr.CRC_XOR then s.crcPar a v
  else if a = Addr.CRC_ADDR ∨ a = Addr.CRC_LEN then s.crcJob a v
  else if a = Addr.CRC_CTL then s.crcCtl v
  else if a = Addr.CRC_DATA then s.crcData v
  else (0, s.plainPut a v)

/-- The effect of a write that is not staged, at the moment it takes effect: code 0 or a refusal by the present state. -/
def State.rwPut (s : State) (a : Nat) (v : Word) : Nat × State :=
  let p := (a - 0x40000000) / 0x1000
  match s.shadowNow a with
  | some k => if s.swapLocked k || s.standby then (0x08000022, s) else (0, s.shadowPut a v)
  | none =>
    match Dbl.all.find? (fun k => k.addr == a) with
    | some k =>
      if getF v swapCmd ≠ 1 then (0, s) else if s.standby then (0x08000022, s) else (0, s.swapReq k)
    | none =>
      if p = 0x09 ∨ p = 0x0A then s.canPut (p - 9) a v
      else if p = 0x05 then s.crcPut a v
      else if a = Addr.SCH_BANK then
        if getF v Fl.SCH_BANK_SWREQ = 1 ∧ (s.standby || s.pwr.store.isSome) = true then (0x08000022, s) else (0, s.bankPut v)
      else if a = Addr.SCH_JSW01 ∨ a = Addr.SCH_JSW23 then
        if s.flag Addr.SCH_JSWCTL Fl.SCH_JSWCTL_PEND then (0x0F010003, s) else (0, s.plainPut a v)
      else if a = Addr.SCH_JSWCTL then
        if getF v Fl.SCH_JSWCTL_GO ≠ 1 then (0, s.plainPut a v)
        else if s.standby then (0x08000022, s) else (0, (s.plainPut a v).jswGo)
      else if a = Addr.BID_CALLIN then if s.standby then (0x08000022, s) else (0, s.hallWord v.toNat)
      else if a = Addr.NRG_SNAPCTL then (0, if getF v Fl.NRG_SNAPCTL_SNAP = 1 then s.nrgSnap else s)
      else if a = Addr.FLT_CMD then (0, s.fltCmdPut v)
      else if a = Addr.REC_CMD then s.recCmdPut v
      else if a = Addr.REC_WALL_LO then (0, s.wr a v)
      else if a = Addr.REC_WALL_HI then (0, s.wallSet (v.toNat % 65536 * 2 ^ 32 + (s.rd Addr.REC_WALL_LO).toNat) 1)
      else if a = Addr.PWR_STORE then if s.pwr.store.isSome then (0x0F010003, s) else (0, s.plainPut a v)
      else if a = Addr.FIO_STALE then (0, s.staleClear v.toNat)
      else
        match (List.range 6).find? (fun n => a == Addr.AX_DSTAT n) with
        | some n =>
          let s := s.plainPut a (setF v Fl.AX_DSTAT_OC 0)
          (0, if getF v Fl.AX_DSTAT_OC = 1 then s.ocClear n else s)
        | none => (0, s.plainPut a v)

/-! ### Judging a write -/

/-- Commands that a module in WAIT or STANDBY takes although they are RWF: the arm (R581), RESYNC (R593), state commands, which
R670 judges at their boundary. -/
def standbyTakes (a : Nat) (v : Word) : Bool :=
  a == Addr.FIO_SCMD || a == Addr.PWR_MCMD || (a == Addr.PAIR_CMD && getF v Fl.PAIR_CMD_HANDREQ == 0)

/-- HANDREQ is accepted only in DUTY while the peer claim of the last valid beacon is at least 2 (R586). -/
def State.handOk (s : State) : Bool := s.role == 4 && decide (s.rf Addr.PAIR_STAT Fl.PAIR_STAT_PEERCL ≥ 2)

/-- Refused for the module state (R83, R112, R306, R580, R443)? A switch that waits refuses RWF writes, no call operations. -/
def State.stateRefuses (s : State) (a : Nat) (v : Word) : Nat :=
  match regRow? a with
  | none => 0
  | some r =>
    if (s.standby && !standbyTakes a v) || (a != Addr.STP_CALLQ && s.flag Addr.SCH_BANK Fl.SCH_BANK_SWPEND) ||
        (r.cfgHit (s.rd a) v && s.mode != .CONFIG) || (a == Addr.AX_TGT 0 && s.stpHolds) then 0x08000022
    else if a = Addr.NRG_CMD ∧ getF v Fl.NRG_CMD_CLR = 1 ∧ s.mode = .RUN then 0x08000022
    else if a = Addr.PAIR_CMD ∧ getF v Fl.PAIR_CMD_HANDREQ = 1 ∧ s.handOk = false then 0x08000022
    else 0

/-- Is a value out of range (R113)? A SWAP object takes 0 and 1 only (R93); a preset stands for the whole of CRC_CFG (R621). -/
def State.regValueOk (s : State) (a : Nat) (v : Word) : Bool :=
  if Dbl.all.any (fun k => k.addr == a) then decide (getF v swapCmd ≤ 1)
  else if a = Addr.CRC_CFG ∧ 1 ≤ getF v Fl.CRC_CFG_PRESET ∧ getF v Fl.CRC_CFG_PRESET ≤ 4 then true
  else s.valueOk a v

/-- The checks made before a write: address, access code, state, value. -/
def State.writeErr (s : State) (a : Nat) (v : Word) : Nat :=
  let e := s.addrErr a
  if e ≠ 0 then e
  else if inMem a then 0x0F010002
  else
    match regRow? a with
    | none => 0x06020000
    | some r =>
      if !(r.has .rw || r.has .rwf || r.has .wo || r.has .w1c) then 0x06010002
      else if stagedReg a then
        let c := s.stateRefuses a v
        if c ≠ 0 then c else if s.regValueOk a v then 0 else 0x06090030
      else if s.regValueOk a v then 0 else 0x06090030

/-! ### Staging (R85–R89, R295) -/

/-- Is the present moment at or after the cutoff of the running frame (R85)? -/
def State.afterCutoff (s : State) : Bool := decide (s.cyc + 64 ≥ s.ncyc)

/-- Entries of staging and of the call queue still free. -/
def State.stgFree (s : State) : Nat := 64 - s.stgOcc
def State.callFree (s : State) : Nat := 32 - s.callOcc

/-- A refusal for want of room (R89, R295). -/
def State.noRoom (s : State) (callq : Bool) : State :=
  if callq then (s.wf Addr.STP_STAT Fl.STP_STAT_QOVF 1).irq 13 4 else s.bump Addr.SCH_STG_REF ⟨0, 32⟩

/-- An entry joins staging. -/
def State.stage (s : State) (addr : Nat) (obj : Bool) (val src tag : Nat) : State :=
  let l := s.afterCutoff
  s.modSch (fun c => { c with staging := c.staging ++ [⟨addr, obj, val, src, tag, l⟩] })

/-! ### Application at a boundary (R98 step 2, R712) -/

/-- HANDREQ of PAIR_CMD (R586). -/
def State.handReq (s : State) : Nat × State :=
  if s.handOk then (0, s.modPair (fun p => { p with hand := true })) else (0x08000022, s)

/-- SYNC falls (R570): fault 0xD2 in STANDBY, acknowledgements of the count. -/
def State.syncFall (s : State) : State :=
  let s := s.modPair (fun p => { p with swpN := 0 })
  if s.pst Fl.PAIR_STAT_SYNC then
    let s := ((s.setPst Fl.PAIR_STAT_SYNC false).wr Addr.PAIR_SYNCCNT 0).irq 4 2
    s.raiseIf (s.role == 2) 0xD2 0 1
  else s

/-- RESYNC (R592): SYNC falls and a sweep pass starts. -/
def State.resync (s : State) : State := (s.syncFall.modPair (fun p => { p with swpN := 0, sweep := 0 })).wf Addr.PAIR_SWEEP Fl.PAIR_SWEEP_POS 0

/-- Arm commands of both pairs; refused when one of them is. -/
def State.armBoth (s : State) (v : Word) : Nat × State :=
  let one (r : Nat × State) (p : Nat) : Nat × State :=
    if bitOf v.toNat p then (if r.2.armOk p then r.1 else 0x08000022, r.2.armPair p) else r
  one (one (0, s) 0) 1

/-- A register write of a boundary takes effect; `act` says that a state command is the last of its boundary; at a boundary that enters FAULT
every one is refused (R670). -/
def State.applyReg (s : State) (a : Nat) (v : Word) (nmt act faulted : Bool) : Nat × State :=
  let n := axOf a
  if a = Addr.PWR_MCMD then
    let cmd := getF v Fl.PWR_MCMD_CMD
    if act || (faulted && cmd != 0xF) then
      let r := s.pwrCmd cmd nmt faulted
      (if r.2 then 0 else 0x08000022, r.1)
    else (0, s)
  else if a = Addr.AX_PCMD n then (0, s.axCommandSw n (getF v Fl.AX_PCMD_CMD))
  else if a = Addr.FIO_SCMD then s.armBoth v
  else if a = Addr.HDL_CMD then
    if getF v Fl.HDL_CMD_TRIPCLR ≠ 1 then (0, s) else if s.tripClrOk then (0, s.tripClr) else (0x08000022, s)
  else if a = Addr.BID_CMD then (0, if getF v Fl.BID_CMD_DUPCLR = 1 then s.dupClr else s)
  else if a = Addr.STP_CMD then (0, if getF v Fl.STP_CMD_RESUME = 1 then s.stpResume else s)
  else if a = Addr.NRG_CMD then
    if getF v Fl.NRG_CMD_CLR ≠ 1 then (0, s) else if s.mode = .RUN then (0x08000022, s) else (0, s.nrgClear)
  else if a = Addr.PAIR_CMD then
    let s := if getF v Fl.PAIR_CMD_RESYNC = 1 then s.resync else s
    if getF v Fl.PAIR_CMD_HANDREQ = 1 then s.handReq else (0, s)
  else if a = Addr.STP_CALLQ then (0, s.callRow v.toNat)
  else
    match [1, 2, 3, 4].find? (fun d => a == Addr.DOR_CMD d) with
    | some d => (0, s.dorNote d (getF v Fl.DOR_CMD_CMD))
    | none =>
      match (List.range 8).find? (fun k => a == Addr.FB_CMD k) with
      | some k =>
        let s := if getF v Fl.FB_CMD_POSSET = 1 then s.posSet k else s
        let s := if getF v Fl.FB_CMD_ZREFCLR = 1 then s.zrefClr k else s
        (0, if getF v Fl.FB_CMD_ZARM = 1 then s.zarm k else s)
      | none => if stagedReg a then (0, s.regPut a v) else s.rwPut a v

/-- A register write applied at a boundary; a feedback channel that a bad default holds off may be freed (R113). -/
def State.putFreed (r : Nat × State) (a : Nat) (f : Fld) : Nat × State := (r.1, if r.1 = 0 then r.2.fbFreed a f else r.2)

/-- One entry takes effect. A shadow bank whose swap has been asked for since takes nothing (R95). -/
def State.applyEntry (s : State) (e : Staged) (act faulted : Bool) : Nat × State :=
  let nmt := e.src == 5
  if !e.obj && (regRow? e.addr).isNone then (0, s)
  else if !e.obj then State.putFreed (s.applyReg e.addr (wN e.val) nmt act faulted) e.addr ⟨0, 32⟩
  else
    match s.objFind (e.addr / 256) (e.addr % 256) with
    | .error _ => (0, s)
    | .ok o =>
      match s.objReg o e.val with
      | some (a, w) =>
        let r := State.putFreed (s.applyReg a w nmt act faulted) a o.src.part
        (if r.1 = 0x0F010003 then 0x08000022 else r.1, r.2)
      | none =>
        match o.src.shadow with
        | some k => if s.swapLocked k then (0x08000022, s) else (0, s.objPutOwn o e.val false)
        | none => (0, s.objPutOwn o e.val false)

/-- The mirror entries a boundary's application makes (R568): what changed, as register or object; shadow banks are no part of the
mirror (R589). -/
def State.mirrorEnt (s : State) (e : Staged) : List PEnt :=
  if !e.obj then (if commands e.addr || (regRow? e.addr).isNone then [] else [.reg (e.addr - 0x40000000) (s.rd e.addr)])
  else
    match s.objFind (e.addr / 256) (e.addr % 256) with
    | .error _ => []
    | .ok o =>
      match s.objReg o e.val with
      | some (a, _) => if commands a then [] else [.reg (a - 0x40000000) (s.rd a)]
      | none => if o.src.shadow.isSome then [] else [.obj (e.addr / 256) (e.addr % 256) e.val]

/-- The tag of an access nobody waits for. -/
def noTag : Nat := 256

/-- An entry refused after its access was taken is logged (R552); an NMT command is no access. -/
def State.endEntry (s : State) (e : Staged) (code : Nat) : State :=
  if code ≠ 0 ∧ e.src ≠ 5 then s.violate e.src e.obj e.addr true code else s

/-- The entries of a list that stand for their accesses: the first of each batch, and every one that no tag names. -/
def headsOf (l : List (Staged × Nat)) : List (Staged × Nat) :=
  (l.foldl (fun (r : List (Staged × Nat)) p =>
    if p.1.tag ≠ noTag ∧ r.any (fun q => q.1.src == p.1.src && q.1.tag == p.1.tag) = true then r else p :: r) []).reverse

/-- The accesses of which entries were refused are logged, each once, at its first refused entry (R552). -/
def State.logEnds (s : State) (l : List (Staged × Nat)) : State :=
  (headsOf (l.filter (fun p => p.2 != 0))).foldl (fun s p => s.endEntry p.1 p.2) s

/-- The batches (source and tag) that a list of applied entries holds, each once. -/
def batches (l : List (Staged × Nat)) : List (Nat × Nat) :=
  l.foldl (fun ks p => if ks.contains (p.1.src, p.1.tag) then ks else ks ++ [(p.1.src, p.1.tag)]) []

/-- The batches of applied entries are acknowledged: the first refusal of a batch answers it. -/
def State.ackBatches (s : State) (l : List (Staged × Nat)) : State :=
  (batches l).foldl (fun s k =>
    match l.find? (fun p => p.1.src == k.1 && p.1.tag == k.2 && p.2 != 0) with
    | some p => s.accessDone k.1 k.2 p.2 p.1.addr
    | none =>
      if s.ackWaits then
        if k.1 = 5 then s else s.modPair (fun p => { p with acks := p.acks ++ [⟨k.1, k.2, s.nextFrm⟩] })
      else s.accessDone k.1 k.2 0 0) s

/-- Staging at a boundary: entries accepted before the cutoff are applied in order; of the state commands only the last acts
(R670). A reset ends it. -/
def State.applyStaging (s : State) (faulted : Bool) : State :=
  let due := s.sch.staging.filter (fun e => !e.late)
  let rest := (s.sch.staging.filter (fun e => e.late)).map (fun e => { e with late := false })
  let s := s.modSch (fun c => { c with staging := rest })
  let cmd (e : Staged) : Bool :=
    if e.obj then (match s.objFind (e.addr / 256) (e.addr % 256) with | .ok o => decide (o.src = .reg Addr.PWR_MCMD) | .error _ => false)
    else e.addr == Addr.PWR_MCMD
  let n := due.length
  let last := (due.zipIdx.filter (fun p => cmd p.1)).getLast?.map (·.2)
  let r := (due.zip (List.range n)).foldl (fun (r : State × List (Staged × Nat)) p =>
    if r.1.mode = .RESET then r
    else
      let q := r.1.applyEntry p.1 (decide (last = some p.2)) faulted
      let t := q.2
      let t := t.modPair (fun x => { x with cfg := x.cfg ++ (if q.1 = 0 then t.mirrorEnt p.1 else []) })
      (t, r.2 ++ [(p.1, q.1)])) (s, [])
  if r.1.mode = .RESET ∨ n = 0 then r.1
  else ((r.1.logEnds r.2).wr Addr.SCH_STG_FRM (wN r.1.nextFrm)).ackBatches r.2

/-- A bank switch discards the entries still staged (R83); the call queue is no part of staging (R295). -/
def State.discardStaging (s : State) : State :=
  let l := s.sch.staging.filter (fun e => e.obj || e.addr != Addr.STP_CALLQ)
  let s := s.modSch (fun c => { c with staging := c.staging.filter (fun e => !e.obj && e.addr == Addr.STP_CALLQ) })
  let s := (l.foldl (fun (s : State) _ => s.bump Addr.SCH_STG_REF ⟨0, 32⟩) s).logEnds (l.map (fun e => (e, 0x08000022)))
  l.foldl (fun (s : State) e => s.accessDone e.src e.tag 0x08000022 e.addr) s

/-! ### One register access -/

/-- A write of one word from the register path: refusals logged, RWF words staged. Code 0 when it was taken. -/
def State.regWrite (s : State) (a : Nat) (v : Word) (src tag : Nat) : Nat × State :=
  let e := s.writeErr a v
  if e ≠ 0 then (e, s.violate src false a true e)
  else if stagedReg a then
    let q := a == Addr.STP_CALLQ
    if (if q then s.callFree else s.stgFree) = 0 then (0x08000020, s.noRoom q)
    else (0, s.stage a false v.toNat src tag)
  else
    let r := s.rwPut a v
    (r.1, if r.1 = 0 then r.2 else r.2.violate src false a true r.1)

/-- A register write by software (WRITE_REGISTER and the commands that are such a write). -/
def State.ctlWrite (s : State) (a : Nat) (v : Word) : State := (s.regWrite a v 0 noTag).2

/-- A register read by software: its data is what the command answers. -/
def State.ctlRead (s : State) (a : Nat) : State :=
  let e := s.addrErr a
  if e ≠ 0 then { (s.violate 0 false a false e) with ctlData := [] }
  else
    let (c, v, t) := s.wordRead a
    if c ≠ 0 then { (s.violate 0 false a false c) with ctlData := [] } else { t with ctlData := [v] }

end Sys2Proof.Machine
end

