-- ==== Sys2Proof/Machine/Dict.lean ====
section
/-! DEFINITION. Object access as the SDO servers and the host link perform it: the order of checks (R497), the access classes (R494–R496),
complete access (R506–R509). -/

namespace Sys2Proof.Machine

/-- A register's refusal by its present state as an object access reports it (check 7 of R497). -/
def objCode (c : Nat) : Nat := if c = 0x0F010003 then 0x08000022 else c

/-! ### Reads -/

/-- The bytes of an entry, with the effects its read has (R496). -/
def State.entRead (s : State) (e : OEnt) : Nat × List Nat × State :=
  match e.src with
  | .reg a =>
    let (c, v, t) := s.regRead a
    if c ≠ 0 then (objCode c, [], s) else (0, leBytes (typSize e.typ) v.toNat, t)
  | .edge g =>
    match s.edgeRead g with
    | some (w0, w1, t) => (0, leBytes 4 w0.toNat ++ leBytes 4 w1.toNat, t)
    | none => (0x08000022, [], s)
  | _ => (0, s.objBytes e (s.objVal e), s)

/-- A read of one entry: checks 1 to 4. -/
def State.objRead (s : State) (ix sub : Nat) : Nat × List Nat × State :=
  match s.objFind ix sub with
  | .error c => (c, [], s)
  | .ok e => if e.cls = .wo then (0x06010001, [], s) else s.entRead e

/-- The sub-indices 1 to the highest of an index, with the entries that exist. -/
def State.objSubs (s : State) (ix : Nat) : List (Nat × Option OEnt) :=
  ((List.range (s.objMax ix)).map (fun k => (k + 1, match s.objFind ix (k + 1) with | .ok e => some e | .error _ => none))).filter
    (fun p => decide (0x5000 ≤ ix) || p.2.isSome)

/-- Entries read one after another; a reserved offset of the register window gives four bytes of 0 (R507). -/
def State.readAll (s : State) : List (Nat × Option OEnt) → Nat × List Nat × State
  | [] => (0, [], s)
  | (_, none) :: l =>
    let (c, bs, t) := s.readAll l
    (c, [0, 0, 0, 0] ++ bs, t)
  | (_, some e) :: l =>
    let (c, b, t) := s.entRead e
    if c ≠ 0 then (c, [], s)
    else
      let (c, bs, t) := t.readAll l
      (c, b ++ bs, t)

/-- The recorder's window index is copied at one instant, and AINC applies once (R653). -/
def State.readRecWin (s : State) (l : List (Nat × Option OEnt)) : Nat × List Nat × State :=
  let bs := l.flatMap (fun p => match p.2 with | some e => s.objBytes e (s.objVal e) | none => [])
  (0, bs, s.recWinRead 7 (s.flag Addr.REC_CFG Fl.REC_CFG_AINC))

/-- A complete-access upload from sub-index `start` (R506, R507, R509). DEDUCED (log 182): one of 0x2200 is answered (R629) and leaves
its wo entry out. -/
def State.objReadAll (s : State) (ix start : Nat) : Nat × List Nat × State :=
  match s.objFind ix 0 with
  | .error c => (c, [], s)
  | .ok e0 =>
    let wo (p : Nat × Option OEnt) : Bool := match p.2 with | some e => decide (e.cls = .wo) | none => false
    let l := if ix = 0x2200 then (s.objSubs ix).filter (fun p => !wo p) else s.objSubs ix
    if start ≥ 2 ∨ (start = 1 ∧ l = []) ∨ l.any wo = true then (0x06010000, [], s)
    else
      let (c, b0, t) := if start = 0 then s.entRead e0 else (0, [], s)
      let (c', bs, t) := if c ≠ 0 then (c, [], s) else if ix = 0x2213 then t.readRecWin l else t.readAll l
      if c' ≠ 0 then (c', [], s) else (0, b0 ++ bs, t)

/-! ### Writes -/

/-- Is a write of an entry staged (R494)? -/
def OEnt.staged (e : OEnt) : Bool :=
  match e.cls with
  | .rwf => true
  | .rws => true
  | .wo => (match e.src with | .reg a => stagedReg a | .fld a _ => stagedReg a | _ => false)
  | _ => false

/-- The effect of an entry of class rw or wo that acts within the access. -/
def State.entPut (s : State) (e : OEnt) (v : Nat) : Nat × State :=
  match s.objReg e v with
  | some (a, w) =>
    let r := s.rwPut a w
    (objCode r.1, r.2)
  | none =>
    match e.src with
    | .bankCmd =>
      if v = 1 then (0, s.verifyReq) else if v ≠ 2 then (0x06090030, s) else if s.standby || s.pwr.store.isSome then (0x08000022, s) else (0, s.switchReq)
    | _ =>
      match e.src.shadow with
      | some k => if s.swapLocked k || s.standby then (0x08000022, s) else (0, s.objPutOwn e v false)
      | none => (0, s.objPutOwn e v false)

/-- Check 7 of R497: state of the module or the unit. -/
def State.entState (s : State) (e : OEnt) (v : Nat) : Nat :=
  let reg := s.objReg e v
  let rws : Bool :=
    decide (e.cls = .rws) && s.mode != .CONFIG &&
      (match reg with
       | some (a, w) => decide (e.mix = 0) || ((s.rd a ^^^ w).toNat &&& (2 ^ 32 - 1 - e.mix)) != 0
       | none => true)
  if rws then 0x08000022
  else if e.staged then
    match reg with
    | some (a, w) => if s.stateRefuses a w ≠ 0 then 0x08000022 else 0
    | none => if s.standby || s.flag Addr.SCH_BANK Fl.SCH_BANK_SWPEND then 0x08000022 else 0
  else
    let c := (s.entPut e v).1
    if c = 0x06090030 then 0 else c

/-- Check 8: the value. -/
def State.entValue (s : State) (e : OEnt) (v : Nat) : Bool :=
  match s.objReg e v with
  | some (a, w) =>
    if Dbl.all.any (fun k => k.addr == a) || a == Addr.CRC_CFG then s.regValueOk a w else s.objValueOk e v
  | none => s.objValueOk e v

/-- Check 9: an entry that the sheaf owns, or a member of a parallel group that is not its lowest (R406). -/
def State.entOwned (s : State) (e : OEnt) : Bool :=
  match e.src with | .hostCmd k => !bitOf s.hostMask k | _ => false

/-- Checks 6 to 9 of a write of data to an entry. -/
def State.entErr (s : State) (e : OEnt) (bs : List Nat) : Nat :=
  let v := ofLE bs
  if bs.length ≠ s.objSize e then 0x06070010
  else if s.entState e v ≠ 0 then s.entState e v
  else if !s.entValue e v then 0x06090030
  else if s.entOwned e then 0x08000021
  else 0

/-- The call queue takes the words of its entries; every other entry takes a place in staging. -/
def OEnt.callq (e : OEnt) : Bool := decide (e.src = .reg Addr.STP_CALLQ)

/-- A staged entry joins its queue. -/
def State.entStage (s : State) (e : OEnt) (ix sub v src tag : Nat) : State :=
  if e.callq then s.stage Addr.STP_CALLQ false v src tag else s.stage (ix * 256 + sub) true v src tag

/-- A write of one entry: code, whether it waits for a boundary, state. -/
def State.objWrite (s : State) (ix sub : Nat) (bs : List Nat) (src tag : Nat) : Nat × Bool × State :=
  match s.objFind ix sub with
  | .error c => (c, false, s)
  | .ok e =>
    if e.cls = .ro ∨ e.cls = .const then (0x06010002, false, s)
    else
      let c := s.entErr e bs
      if c ≠ 0 then (c, false, if e.staged || c != 0x08000022 then s else (s.entPut e (ofLE bs)).2)
      else if e.staged then
        if (if e.callq then s.callFree else s.stgFree) = 0 then (0x08000020, false, s.noRoom e.callq)
        else (0, true, s.entStage e ix sub (ofLE bs) src tag)
      else
        let r := s.entPut e (ofLE bs)
        (r.1, false, r.2)

/-- Data cut into the entries of an index, in order. -/
def State.cutData (s : State) : List (Nat × Option OEnt) → List Nat → List (Nat × OEnt × List Nat)
  | [], _ => []
  | (_, none) :: l, bs => s.cutData l bs
  | (k, some e) :: l, bs => (k, e, bs.take (s.objSize e)) :: s.cutData l (bs.drop (s.objSize e))

/-- Why a complete-access download cannot begin (R506, R507). -/
def State.writeAllErr (s : State) (ix start : Nat) : Nat :=
  match s.objFind ix 0 with
  | .error c => c
  | .ok _ =>
    let l := s.objSubs ix
    if 0x5000 ≤ ix then 0x06010000
    else if start = 0 then 0x06010002
    else if start ≥ 2 ∨ l = [] then 0x06010000
    else if l.any (fun p => match p.2 with | some e => decide (e.cls = .ro) || decide (e.cls = .const) || decide (e.cls = .wo) | none => false) then 0x06010000
    else 0

/-- The sub-index a refused complete-access download names: that of the first entry that fails (R508, R539). -/
def State.failSub (s : State) (ix start : Nat) (bs : List Nat) : Nat :=
  let l := s.objSubs ix
  let size := l.foldl (fun n p => n + (match p.2 with | some e => s.objSize e | none => 0)) 0
  if s.writeAllErr ix start ≠ 0 ∨ bs.length ≠ size then start
  else match (s.cutData l bs).find? (fun p => s.entErr p.2.1 p.2.2 != 0) with | some p => p.1 | none => start

/-- A complete-access download (R506–R508): every entry of the index as one staging batch. -/
def State.objWriteAll (s : State) (ix start : Nat) (bs : List Nat) (src tag : Nat) : Nat × Bool × State :=
  let c := s.writeAllErr ix start
  let l := s.objSubs ix
  let size := l.foldl (fun n p => n + (match p.2 with | some e => s.objSize e | none => 0)) 0
  if c ≠ 0 then (c, false, s)
  else if bs.length ≠ size then (0x06070010, false, s)
  else
    let parts := s.cutData l bs
    match parts.find? (fun p => s.entErr p.2.1 p.2.2 != 0) with
    | some p => (s.entErr p.2.1 p.2.2, false, s)
    | none =>
      if s.stgFree < parts.length then (0x08000020, false, s.noRoom false)
      else (0, true, parts.foldl (fun s p => s.entStage p.2.1 ix p.1 (ofLE p.2.2) src tag) s)

end Sys2Proof.Machine
end

