-- ==== Sys2Proof/Machine/HostLink.lean ====
section
/-! DEFINITION. The host link (chapter 14, R529–R556): requests, held results, responses and their slots, epochs, downloads. -/

namespace Sys2Proof.Machine

/-- A count of HLK_ERRCNT steps. -/
def State.hlkErr (s : State) (f : Fld) : State := (s.bump Addr.HLK_ERRCNT f).irq 5 6

/-- A frame that arrives before the response due has begun keeps it from being sent (R540). -/
def State.hlkCollide (s : State) : State :=
  if s.hlk.due.isSome then (s.modHlk (fun h => { h with due := none })).hlkErr Fl.HLK_ERRCNT_COLL else s

/-- The CRC of a request (R535). -/
def reqCrc (typ : Nat) (r : HReq) : Nat :=
  crc32 ([r.addr % 256, typ % 256, r.tag % 256] ++ leBytes 2 r.body.length ++ r.body.map (· % 256))

/-- Bytes of a payload as a number. -/
def reqNum (r : HReq) (k n : Nat) : Nat := ofLE ((r.body.drop k).take n)

/-! ### What a request does: its result, none while it waits for a boundary (R545–R550) -/

/-- An error that no access log holds. -/
def hErr (c : Nat) : Option HBody := some (.err c 0)

/-- A refused access: logged and answered. -/
def State.hRefuse (s : State) (src : Nat) (obj : Bool) (addr : Nat) (wr : Bool) (c : Nat) : Option HBody × State :=
  (some (.err c addr), s.violate src obj addr wr c)

def State.doIdent (s : State) (r : HReq) : Option HBody × State :=
  if r.body ≠ [] then (hErr 0x0F000002, s)
  else (some (.ok (leBytes 4 s.id.variant.units ++ leBytes 4 s.id.serial ++ leBytes 6 s.frm ++ [0, 0])), s)

def State.doObjRead (s : State) (r : HReq) : Option HBody × State :=
  let ix := reqNum r 0 2
  let sub := reqNum r 2 1
  let fl := reqNum r 3 1
  if r.body.length ≠ 4 ∨ fl > 3 ∨ fl = 2 then (hErr 0x0F000002, s)
  else
    let (c, d, t) := if fl = 0 then s.objRead ix sub else s.objReadAll ix (if fl = 3 then 0 else sub)
    if c ≠ 0 then s.hRefuse 1 true (ix * 256 + sub) false c
    else if d.length > 1020 then (hErr 0x0F000002, s)
    else (some (.ok d), t)

def State.doObjWrite (s : State) (r : HReq) : Option HBody × State :=
  let ix := reqNum r 0 2
  let sub := reqNum r 2 1
  let fl := reqNum r 3 1
  let d := (r.body.drop 4).map (· % 256)
  if r.body.length < 5 ∨ fl > 1 ∨ (fl = 1 ∧ d.length > 1020) then (hErr 0x0F000002, s)
  else
    let (c, wait, t) := if fl = 0 then s.objWrite ix sub d 1 r.tag else s.objWriteAll ix sub d 1 r.tag
    if c ≠ 0 then t.hRefuse 1 true (ix * 256 + (if fl = 0 then sub else s.failSub ix sub d)) true c
    else (if wait then none else some (.ok []), t)

/-- Words read in rising order; the first refusal ends it. -/
def State.readWords (s : State) (a : Nat) : Nat → Except (Nat × Nat) (List Nat) × State
  | 0 => (.ok [], s)
  | n + 1 =>
    let (c, v, t) := s.wordRead a
    if c ≠ 0 then (.error (c, a), s)
    else
      match t.readWords (a + 4) n with
      | (.ok l, t) => (.ok (leBytes 4 v.toNat ++ l), t)
      | (.error e, t) => (.error e, t)

def State.doRegRead (s : State) (r : HReq) : Option HBody × State :=
  let a := reqNum r 0 4
  let n := reqNum r 4 2
  if r.body.length ≠ 6 ∨ n = 0 ∨ n > 256 then (hErr 0x0F000002, s)
  else
    let err (k : Nat) : Nat := if s.addrErr (a + 4 * k) ≠ 0 then s.addrErr (a + 4 * k) else (s.wordRead (a + 4 * k)).1
    match (List.range n).find? (fun k => err k != 0) with
    | some k => s.hRefuse 0 false (a + 4 * k) false (err k)
    | none =>
      match s.readWords a n with
      | (.ok l, t) => (some (.ok l), t)
      | (.error (c, b), t) => t.hRefuse 0 false b false c

/-- RW words take effect in rising order; the first refusal ends it. -/
def State.writeWords (s : State) : List (Nat × Word) → Option (Nat × Nat) × State
  | [] => (none, s)
  | (a, v) :: l =>
    let (c, t) := s.rwPut a v
    if c ≠ 0 then (some (c, a), t) else t.writeWords l

def State.doRegWrite (s : State) (r : HReq) : Option HBody × State :=
  let a := reqNum r 0 4
  let n := reqNum r 4 2
  if n = 0 ∨ n > 256 ∨ r.body.length ≠ 8 + 4 * n then (hErr 0x0F000002, s)
  else
    let ws := (List.range n).map (fun k => (a + 4 * k, wN (reqNum r (8 + 4 * k) 4)))
    let err (p : Nat × Word) : Nat := s.writeErr p.1 p.2
    match ws.find? (fun p => err p != 0) with
    | some p => s.hRefuse 0 false p.1 true (err p)
    | none =>
      let st := ws.filter (fun p => stagedReg p.1)
      let cq := st.any (fun p => p.1 == Addr.STP_CALLQ)
      let need := (st.filter (fun p => p.1 != Addr.STP_CALLQ)).length
      if need > s.stgFree ∨ (cq = true ∧ s.callFree = 0) then
        let q := decide (need ≤ s.stgFree)
        let b := match st.find? (fun p => (p.1 == Addr.STP_CALLQ) == q) with | some p => p.1 | none => a
        (some (.err 0x08000020 b), s.noRoom q)
      else
        match s.writeWords (ws.filter (fun p => !stagedReg p.1)) with
        | (some (c, b), t) => t.hRefuse 0 false b true c
        | (none, t) =>
          let t := st.foldl (fun t p => t.stage p.1 false p.2.toNat 0 r.tag) t
          (if st.isEmpty then some (.ok []) else none, t)

/-- May the inactive bank be written or closed now? -/
def State.bankBusy (s : State) : Bool := s.checking || s.flag Addr.SCH_BANK Fl.SCH_BANK_SWPEND

/-- Does a store copy the inactive bank, so that no bulk write may change it (R678)? -/
def State.storeReads (s : State) : Bool := match s.pwr.store with | some st => st.bank == s.inactive | none => false

def State.doBulkOpen (s : State) (r : HReq) : Option HBody × State :=
  let len := reqNum r 4 4
  if r.body.length ≠ 8 then (hErr 0x0F000002, s)
  else if s.hlk.bulk.isSome then (hErr 0x0F000007, s)
  else if s.bankBusy then s.hRefuse 2 false (bankBase s.inactive) true 0x08000022
  else if reqNum r 0 1 ≠ 1 ∨ len % 4 ≠ 0 ∨ len < 0x84 ∨ len > 262144 then (hErr 0x0F000004, s)
  else
    let t := s.now
    (some (.ok []), s.modHlk (fun h => { h with bulk := some (len, t) }))

def State.doBulkData (s : State) (r : HReq) : Option HBody × State :=
  let ofs := reqNum r 0 4
  let d := (r.body.drop 4).map (· % 256)
  match s.hlk.bulk with
  | none => (if r.body.length < 4 then hErr 0x0F000002 else hErr 0x0F000005, s)
  | some (len, _) =>
    let t := s.now
    let s := if r.body.length < 4 then s else s.modHlk (fun h => { h with bulk := some (len, t) })
    if r.body.length < 4 then (hErr 0x0F000002, s)
    else if s.bankBusy || s.storeReads then s.hRefuse 2 false (bankBase s.inactive + ofs) true 0x08000022
    else if ofs % 4 ≠ 0 ∨ d.length % 4 ≠ 0 ∨ ofs + d.length > len then (hErr 0x0F000004, s)
    else
      (some (.ok []), (s.setBytes (bankBase s.inactive + ofs) d).wf Addr.SCH_BANK Fl.SCH_BANK_VOK 0)

def State.doBulkClose (s : State) (r : HReq) : Option HBody × State :=
  if r.body ≠ [] then (hErr 0x0F000002, s)
  else
    match s.hlk.bulk with
    | none => (hErr 0x0F000005, s)
    | some (len, _) =>
      let b := bankBase s.inactive
      if s.bankBusy then s.hRefuse 2 false b false 0x08000022
      else
        (some (.ok (leBytes 4 (crc32c (s.bytes b (len - 4))) ++ s.bytes (b + len - 4) 4)),
          (s.modHlk (fun h => { h with bulk := none })).irq 5 3)

def State.doRecRead (s : State) (r : HReq) : Option HBody × State :=
  let n := reqNum r 4 2
  if r.body.length ≠ 8 ∨ n = 0 ∨ n > 31 then (hErr 0x0F000002, s)
  else
    let l := s.recList (reqNum r 0 4) n
    let first := match l with | x :: _ => x.seq | [] => s.rcd.seq
    (some (.ok (leBytes 4 first ++ leBytes 2 l.length ++ leBytes 2 (s.rf Addr.REC_GEN Fl.REC_GEN_GEN) ++
      l.flatMap (fun x => x.words.flatMap (leBytes 4)))), s)

/-- The access a TYPE asks for (R538). -/
def State.hAccess (s : State) (typ : Nat) (r : HReq) : Option HBody × State :=
  match typ with
  | 0x02 => s.doIdent r
  | 0x10 => s.doObjRead r
  | 0x11 => s.doObjWrite r
  | 0x20 => s.doRegRead r
  | 0x21 => s.doRegWrite r
  | 0x30 => s.doBulkOpen r
  | 0x31 => s.doBulkData r
  | 0x32 => s.doBulkClose r
  | 0x33 => s.doRecRead r
  | _ => (hErr 0x0F000001, s)

/-! ### Tags and held results (R544, R545) -/

/-- A response becomes due; a write that was staged answers PENDING at first whatever happens meanwhile (R540). -/
def State.hDue (s : State) (typ tag : Nat) (rep : Bool) (atyp atag : Nat) (body : Option HBody) (wait : Bool := false)
    (ext : Nat := s.rf Addr.HLK_CFG Fl.HLK_CFG_TAEXT) : State :=
  let t := s.now
  s.modHlk (fun h => { h with due := some ⟨typ, tag, rep, atyp, atag, body, t, wait, ext⟩ })

/-- A new access takes a result place, displacing the oldest completed one, and is performed. -/
def State.hPerform (s : State) (typ : Nat) (r : HReq) : State :=
  let ext := s.rf Addr.HLK_CFG Fl.HLK_CFG_TAEXT
  let full := decide (s.hlk.held.length ≥ 8)
  let old := s.hlk.held.findIdx? (fun (h : HRes) => h.body.isSome)
  if full ∧ old = none then s.hDue typ r.tag false typ r.tag (hErr 0x0F000003)
  else
    let s := if full then s.modHlk (fun h => { h with held := h.held.eraseIdx (old.getD 0) }) else s
    let s := s.modHlk (fun h => { h with held := h.held ++ [⟨r.tag, reqCrc typ r, typ, none⟩] })
    let (b, s) := s.hAccess typ r
    let w := b.isNone
    let s := match b with | some b => s.hostDone r.tag b | none => s
    s.hDue typ r.tag false typ r.tag none w ext

/-- Did a frame of n payload bytes that ends now begin while HL_DE was still high (R531)? Such a frame is not heard. The row RESPONSE
stands where HL_DE rises, so nothing that follows it in the queue began before. -/
def State.unheard (s : State) (n : Nat) : Bool := s.hlk.deT != 0 && decide (s.now < s.hlk.deT + (10 + n) * 80)

/-- Does the link take a frame of n payload bytes that ends now? -/
def State.hears (s : State) (n : Nat) : Bool := s.mode != .RESET && !s.unheard n

/-- A request of a type other than EPOCH and FETCH. -/
def State.hostReq (s : State) (typ : Nat) (r : HReq) : State :=
  let s := s.at r.cyc
  if !s.hears r.body.length then s
  else
    let s := s.hlkCollide
    if r.body.length > 1032 then s.hlkErr Fl.HLK_ERRCNT_FRM
    else if r.addr ≠ s.id.addr then s
    else
      match s.hlk.held.find? (fun (h : HRes) => h.tag == r.tag) with
      | some h =>
        if h.crc = reqCrc typ r then s.hDue typ r.tag true h.typ h.tag none
        else if h.body = none then s.hDue typ r.tag false typ r.tag (hErr 0x0F000008)
        else (s.modHlk (fun l => { l with held := l.held.filter (fun (q : HRes) => q.tag != r.tag) })).hPerform typ r
      | none => s.hPerform typ r

/-- FETCH: no result place, answered at once. -/
def State.hostFetch (s : State) (r : HReq) : State :=
  let s := s.at r.cyc
  if !s.hears r.body.length then s
  else
    let s := s.hlkCollide
    if r.body.length > 1032 then s.hlkErr Fl.HLK_ERRCNT_FRM
    else if r.addr ≠ s.id.addr then s
    else if r.body.length ≠ 4 then s.hDue 0x40 r.tag false 0x40 r.tag (hErr 0x0F000002)
    else
      match s.hlk.held.find? (fun (h : HRes) => h.tag == reqNum r 0 1) with
      | some h => s.hDue 0x40 r.tag false h.typ h.tag none
      | none => s.hDue 0x40 r.tag false 0x40 r.tag (hErr 0x0F000006)

/-! ### Epochs (R541, R543) -/

/-- EPOCH. -/
def State.hostEpoch (s : State) (r : HReq) : State :=
  let s := s.at r.cyc
  if !s.hears r.body.length then s
  else
    let s := s.hlkCollide
    let len := reqNum r 4 2
    let n := reqNum r 6 2
    if r.body.length > 1032 then s.hlkErr Fl.HLK_ERRCNT_FRM
    else if r.addr ≠ s.id.addr ∧ r.addr ≠ 0xFF then s
    else if r.body.length ≠ 16 ∨ len < 16 ∨ len > 10000 ∨ n < 1 ∨ n > 1024 ∨ reqNum r 8 1 > 1 ∨ reqNum r 9 1 ≠ 0 then s.hlkErr Fl.HLK_ERRCNT_EPBAD
    else
      let t := s.now
      let s := (s.wr Addr.HLK_EPNUM (wN (reqNum r 0 4))).wr Addr.HLK_EPFRM_LO (wN s.frm)
      let s := (s.wr Addr.HLK_EPFRM_HI (wN (s.frm / 2 ^ 32))).wr Addr.HLK_EPCYC (wN (s.cyc % 65536))
      let s := (s.wr Addr.HLK_SLOT (wN (n * 65536 + len))).wf Addr.HLK_STAT Fl.HLK_STAT_EPLOST 0
      let s := (s.modHlk (fun h => { h with ep := some t })).irq 5 1
      if reqNum r 8 1 = 1 then s.wallSet (reqNum r 10 6) 0 else s

/-- Slot length in fabric cycles and slots per epoch of the last EPOCH. -/
def State.slotLen (s : State) : Nat := s.rf Addr.HLK_SLOT Fl.HLK_SLOT_SLOTLEN * 200
def State.slotN (s : State) : Nat := s.rf Addr.HLK_SLOT Fl.HLK_SLOT_NSLOT

/-- EPOCH_LOST (R543). -/
def State.epochLost (s : State) (cyc : Nat) : State :=
  let s := s.at cyc
  match s.hlk.ep with
  | some e =>
    if s.now ≥ e + 4 * s.slotLen * s.slotN ∧ s.flag Addr.HLK_STAT Fl.HLK_STAT_EPLOST = false then
      (s.wf Addr.HLK_STAT Fl.HLK_STAT_EPLOST 1).irq 5 2
    else s
  | none => s

/-! ### Responses (R534, R539, R540, R542) -/

/-- The payload of a result. -/
def HDue.payload (d : HDue) (b : Option HBody) : List Nat :=
  let head (st : Nat) : List Nat := [st, if st = 1 then 0 else b2n d.rep, d.atyp % 256, d.atag % 256]
  match b with
  | none => head 1
  | some (.ok bs) => head 0 ++ bs
  | some (.err c a) => head 2 ++ leBytes 4 c ++ leBytes 4 a

/-- A response frame. -/
def State.hFrame (s : State) (d : HDue) (p : List Nat) : List Nat :=
  let f := [s.id.addr, (d.typ + 0x80) % 256, d.tag % 256] ++ leBytes 2 p.length ++ p
  [0x7E] ++ f ++ leBytes 4 (crc32 f)

/-- End of the slot a request belongs to; none in the last slot and without the slot rule (R542, R543). -/
def State.slotEnd (s : State) (d : HDue) : Option Nat :=
  match s.hlk.ep with
  | some e =>
    let k := (d.time - e) / s.slotLen
    if s.flag Addr.HLK_STAT Fl.HLK_STAT_EPLOST || decide (k + 1 ≥ s.slotN) then none else some (e + (k + 1) * s.slotLen)
  | none => none

/-- Does a response with n payload bytes that starts now end 1.0 µs before its slot does? -/
def State.fits (s : State) (d : HDue) (n : Nat) : Bool :=
  match s.slotEnd d with | some t => decide (s.now + (10 + n) * 80 + 200 ≤ t) | none => true

/-- What a response answers when it starts: the result, or none for PENDING (R540). -/
def State.dueBody (s : State) (d : HDue) : Option HBody :=
  if d.wait then none
  else
    match d.body with
    | some b => some b
    | none => match s.hlk.held.find? (fun (h : HRes) => h.tag == d.atag) with | some h => h.body | none => some (.err 0x0F000006 0)

/-- RESPONSE: the start of a response at `cyc`, or a start bit of another frame before it (`coll`). -/
def State.respondHost (s : State) (cyc : Nat) (coll : Bool) : State :=
  let s := s.at cyc
  match s.hlk.due with
  | none => s
  | some d =>
    let ta := d.ext * 8
    if coll then s.hlkCollide
    else if s.now < d.time + 400 + ta ∨ s.now > d.time + 800 + ta then s
    else
      let p := d.payload (s.dueBody d)
      let s := s.modHlk (fun h => { h with due := none })
      let send (p : List Nat) : State :=
        let f := s.hFrame d p
        let t := s.now + f.length * 80 + 8
        s.modHlk (fun h => { h with sent := f, deT := t })
      if s.fits d p.length then send p
      else if s.fits d 4 then send (d.payload none)
      else (s.bump Addr.HLK_SLOTMISS ⟨0, 32⟩).irq 5 5

/-- HOST_FRAME_ERROR (R536, R538). -/
def State.hostError (s : State) (e : HErr) : State :=
  if s.mode == .RESET then s
  else
    match e with
    | .crc => s.hlkCollide.hlkErr Fl.HLK_ERRCNT_CRC
    | .type t r => if [0x01, 0x02, 0x10, 0x11, 0x20, 0x21, 0x30, 0x31, 0x32, 0x33, 0x40].contains t then s else s.hostReq t r
    | _ => s.hlkCollide.hlkErr Fl.HLK_ERRCNT_FRM

/-- BULK_SESSION_TIMEOUT (R549). -/
def State.bulkTimeout (s : State) (cyc : Nat) : State :=
  let s := s.at cyc
  match s.hlk.bulk with
  | some (_, t) => if s.now ≥ t + 2000000000 then s.bulkAbort else s
  | none => s

end Sys2Proof.Machine
end

