-- ==== Sys2Proof/Machine/Pair.lean ====
section
/-! DEFINITION. Paired modules (chapter 15, R557–R593): roles and switchover, the pair link's packets, the state mirror sent and
applied, synchronisation; the images of role SHAFT (R370). -/

namespace Sys2Proof.Machine

def pF (n : Nat) : Nat := n % 2 ^ 32

/-- Is frame a at or before frame b, both counted modulo 2^32? -/
def frameLe (a b : Nat) : Bool := decide (pF (b + 2 ^ 32 - pF a) < 2 ^ 31)

/-- The CRC of the active bank (R109). -/
def State.ownCrc (s : State) : Nat := match s.sch.active with | some h => h.crc | none => 0

/-! ### Packets as they stand on the link (R560, R562, R566, R567) -/

/-- The CRC-32C of words, least significant byte first. -/
def wordsCrc (ws : List Word) : Word := wN (crc32c (ws.flatMap (fun w => leBytes 4 w.toNat)))

/-- A head word: packet type, version 0x01, body length in words (R560). -/
def headWord (typ len : Nat) : Word := wN (typ * 2 ^ 24 + 2 ^ 16 + len % 65536)

/-- The head word and the CRC a packet has when it arrives as it was sent. -/
def PktEnds.sound (typ : Nat) (body : List Word) : PktEnds :=
  ⟨headWord typ body.length, wordsCrc (headWord typ body.length :: body)⟩

/-- Does the CRC of a packet fit its head and body? -/
def PktEnds.crcOk (p : PktEnds) (body : List Word) : Bool := p.crc == wordsCrc (p.head :: body)

/-- Is the head one of this type, version and length? -/
def PktEnds.headOk (p : PktEnds) (typ : Nat) (body : List Word) : Bool := p.head == headWord typ body.length

/-- The body of a BEACON (R562). -/
def Beacon.words (b : Beacon) : List Word :=
  [wN (b.claim % 16 * 2 ^ 28 + b.mst % 16 * 2 ^ 24 + b.role % 8 * 2 ^ 21 + b2n b.side * 2 ^ 20 + b2n b.sync * 2 ^ 19 + b2n b.lock * 2 ^ 18),
   wN b.frame, wN b.conf]

/-- The body of a MARKER (R560). -/
def markerWords (f n : Nat) : List Word := [wN f, wN n]

/-- The place of a unit among the units. -/
def UnitSt.place : UnitSt → Nat
  | .axis n _ => n
  | .door d _ => 5 + d
  | .stop _ => 10
  | .guard _ => 11
  | .bid _ => 12

/-- Tag and value of an entry (R567). DESIGN CHOICE (log 104): which index a unit's entry has, its value word, and the tag of an object
are free values. -/
def PEnt.words : PEnt → List Word
  | .smem ix v => [wN (ix % 65536), v]
  | .reg off v => [wN (2 ^ 30 + off % 2 ^ 24), v]
  | .bank ix w v => [wN (2 ^ 31 + ix % 65536 * 2 ^ 14 + w % 2 ^ 14), v]
  | .obj ix sub v => [Config.objTag ix sub, wN v]
  | .unit u => [wN (3 * 2 ^ 30 + Config.unitIndex u.place % 65536), Config.unitWord u]

/-- The words of an image (R566): version 0x02, SIDE and entry count; frame; CRC; entries to follow; output record; positions and
speeds; three zeros; the entries, then 0 to fill. -/
def PImg.words (i : PImg) : List Word :=
  let ws := [wN (2 * 2 ^ 24 + b2n i.side * 2 ^ 16 + i.ents.length % 65536), wN i.frame, wN i.crc, wN (i.rest % 65536 * 65536), wN (i.ocmd % 2 ^ 18)] ++
    (List.range 6).flatMap (fun n => let c := i.cmp.getD n (0, 0, 0); [wN (c.2.1 % 65536 * 65536 + c.1 % 65536), wN (c.2.2 % 65536)]) ++
    (List.range 8).map (fun n => wI (i.pos.getD n 0)) ++ (List.range 8).map (fun n => wI (i.vel.getD n 0)) ++ [0, 0, 0] ++
    i.ents.flatMap (fun e => e.2.words)
  ws ++ List.replicate (i.n - ws.length) 0

/-- The body of an IMAGE packet. -/
def Img.words : Img → List Word
  | .mirror i => i.words
  | .shaft ws => ws

/-- A packet as it is sent: head word, body, CRC. -/
def PPkt.wire (p : PPkt) : List Word :=
  let typ := match p with | .beacon _ => 1 | .marker _ _ => 3 | _ => 2
  let body := match p with | .beacon b => b.words | .image i => i.words | .words ws => ws | .marker f n => markerWords f n
  let e := PktEnds.sound typ body
  e.head :: body ++ [e.crc]

/-! ### Units as the mirror carries them (R565) -/

/-- What of an axis is mirrored: the rest is replaced by reset values. -/
def AxS.core (x : AxS) : AxS :=
  { x with tab := ⟨0, []⟩, tabS := ⟨0, []⟩, tblbad := false, ired := false, wake := false, psi := 0, psiT := 0, w := 0, wNext := 0,
           staged := false, zeroW := false, lapsed := false, lastStp := 0, stopped := false, chat := [[], [], []], chLat := 0,
           swLvl := 0, m := 0, wCom := 0, back := false, dirT := 0, stq := [] }

/-- An axis that takes the mirrored part of another. -/
def AxS.take (own x : AxS) : AxS :=
  { x with tab := own.tab, tabS := own.tabS, tblbad := own.tblbad, ired := own.ired, wake := own.wake, psi := own.psi,
           psiT := own.psiT, w := own.w, wNext := own.wNext, staged := own.staged, zeroW := own.zeroW, lapsed := own.lapsed,
           lastStp := own.lastStp, stopped := own.stopped, chat := own.chat, chLat := own.chLat, swLvl := own.swLvl, m := own.m,
           wCom := own.wCom, back := own.back, dirT := own.dirT, stq := own.stq }

def DorS.core (x : DorS) : DorS := { x with cmds := [], imm := false, con := false, fest := none, fA := [], fS := [] }

def DorS.take (own x : DorS) : DorS :=
  { x with cmds := own.cmds, imm := own.imm, con := own.con, fest := own.fest, fA := own.fA, fS := own.fS }

/-- A guard that takes state, latch, counts and references of another. -/
def HdlS.take (own x : HdlS) : HdlS :=
  { own with gst := x.gst, trip := x.trip, armN := x.armN, nH := x.nH, stopRq := x.stopRq, et := x.et, es := x.es, ovS := x.ovS,
             ovT := x.ovT, ovSg := x.ovSg, wasLk := x.wasLk, pref := x.pref, miss := x.miss }

def HdlS.core (x : HdlS) : HdlS := HdlS.init.take x

def BidC.take (own x : BidC) : BidC := { own with tab := x.tab, pq := x.pq }
def BidC.core (x : BidC) : BidC := BidC.init.take x

/-- The unit states as they stand in the running frame. -/
def State.unitsNow (s : State) : List UnitSt :=
  ((List.range 6).filter (fun n => s.hasAx n)).map (fun n => .axis n (s.axS n).core) ++
  ([1, 2, 3, 4].filter (fun d => s.hasDoor d)).map (fun d => .door d (s.dorS d).core) ++
  (if s.hasUnit 4 then [.stop s.stp.w] else []) ++
  (if s.hasUnit 1 then [.guard s.hdl.core] else []) ++
  (if s.hasUnit 0 then [.bid s.bid.w.core] else [])

/-- Do two unit states belong to one unit? -/
def UnitSt.same : UnitSt → UnitSt → Bool
  | .axis n _, .axis m _ => n == m
  | .door n _, .door m _ => n == m
  | .stop _, .stop _ => true
  | .guard _, .guard _ => true
  | .bid _, .bid _ => true
  | _, _ => false

/-- A unit takes a mirrored state. -/
def State.setUnit (s : State) : UnitSt → State
  | .axis n x => s.modAx n (fun o => o.take x)
  | .door d x => s.modDor d (fun o => o.take x)
  | .stop c => s.modStp (fun p => { p with c := c, w := c })
  | .guard h => s.modHdl (fun o => o.take h)
  | .bid c => { s with bid := { s.bid with c := s.bid.c.take c, w := s.bid.w.take c } }

/-! ### Registers, banks and entries of the mirror -/

/-- Every RWF register of one page that holds configuration. -/
def pageMirror (base : Nat) (p : List RegRow × Nat × Nat) : List Nat :=
  (p.1.filter (fun r => decide (r.ilo ≤ p.2.1) && decide (p.2.1 ≤ r.ihi) && r.has .rwf)).flatMap (fun r =>
    (List.range r.count).map (fun j => base + r.off + r.stride * j))

/-- The registers the mirror carries. -/
def State.mirrorRegs (s : State) : List Nat :=
  let bases := (List.range 0x12).map (fun p => 0x40000000 + 0x1000 * p) ++ [1, 2, 3, 4].map dorBase ++
    (List.range 6).map fbBase ++ (List.range 6).map (fun n => axBase n + 0x100) ++ [fbBase 6, fbBase 7]
  let all := bases.flatMap (fun b => let p := pageOf b; pageMirror (b - p.2.2) p)
  (all.filter (fun a => s.hasPage ((a - 0x40000000) / 0x1000) && !commands a)).eraseDups

/-- Entries of rwf or rws objects that no register holds. -/
def mirrorObjs : List (Nat × Nat) := [(0x2104, 1), (0x2105, 1), (0x2105, 2)]

/-- Words of a double bank. -/
def Dbl.words : Dbl → Nat
  | .table _ => 193 | .micro _ => 256 | .coef _ => 36 | .force _ => 11 | .land => 513

/-- A word of an active bank. -/
def State.bankWord (s : State) (k : Dbl) (w : Nat) : Word :=
  match k with
  | .table n => let t := (s.axS n).tab; if w = 0 then wN t.n else wN (t.word ((w - 1) / 3) ((w - 1) % 3))
  | .micro n => wN (microAt (s.drvS n).tblA w)
  | .coef n => (s.thr.coefA.getD n coefReset).getD w 0
  | .force d => wN ((s.dorS d).fA.getD w 0)
  | .land => if w = 0 then wN s.stp.la.n else wN (s.stp.la.word ((w - 1) / 2) ((w - 1) % 2))

/-- An active bank takes a word. -/
def State.bankPutWord (s : State) (k : Dbl) (w : Nat) (v : Word) : State :=
  match k with
  | .table n => s.modAx n (fun x =>
      { x with tab := if w = 0 then { x.tab with n := v.toNat % 128 } else x.tab.setWord ((w - 1) / 3) ((w - 1) % 3) v.toNat })
  | .micro n => s.modDrv n (fun d => { d with tblA := microPut d.tblA w (v.toNat % 65536) })
  | .coef n => s.modThr (fun t => { t with coefA := setAt 6 coefReset t.coefA n (fun c => c.set w v) })
  | .force d => s.modDor d (fun x => { x with fA := x.fA.set w v.toNat })
  | .land => s.modStp (fun p =>
      { p with la := if w = 0 then { p.la with n := v.toNat % 512 } else p.la.setWord ((w - 1) / 2) ((w - 1) % 2) v.toNat })

/-- All words of the active bank of a double bank, as entries (R568). -/
def State.bankEnts (s : State) (k : Dbl) : List PEnt := (List.range k.words).map (fun w => .bank k.index w (s.bankWord k w))

/-- The double banks present. -/
def State.dbls (s : State) : List Dbl := Dbl.all.filter (fun k => k.here s)

/-- State memory in words (R47). -/
def smemWords : Nat := 65536

/-- The entry at a place of the sweep's cycle, counted behind state memory. -/
def State.sweepRest (s : State) : List PEnt :=
  s.unitsNow.map .unit ++
  s.mirrorRegs.map (fun a => .reg (a - 0x40000000) (s.rd a)) ++
  mirrorObjs.map (fun o => .obj o.1 o.2 (match s.objFind o.1 o.2 with | .ok e => s.objVal e | .error _ => 0)) ++
  s.dbls.flatMap s.bankEnts

/-- Entries of one sweep pass. -/
def State.sweepLen (s : State) : Nat := smemWords + s.sweepRest.length

/-- The entry at place k of the sweep. -/
def State.sweepAt (s : State) (rest : List PEnt) (k : Nat) : Option PEnt :=
  if k < smemWords then some (.smem k (s.sw (smemBase + 4 * k))) else rest[k - smemWords]?

/-- `n` entries of the sweep from a place on. -/
def State.sweepEnts (s : State) (rest : List PEnt) (pos n : Nat) : List PEnt :=
  (List.range n).filterMap (fun j => s.sweepAt rest ((pos + j) % (smemWords + rest.length)))

/-- Do two entries carry one item? -/
def PEnt.same : PEnt → PEnt → Bool
  | .smem a _, .smem b _ => a == b
  | .reg a _, .reg b _ => a == b
  | .bank a w _, .bank b v _ => a == b && w == v
  | .obj a i _, .obj b j _ => a == b && i == j
  | .unit u, .unit v => u.same v
  | _, _ => false

/-- The place of an item in the sweep. -/
def PEnt.sweepPlace (rest : List PEnt) : PEnt → Option Nat
  | .smem ix _ => some ix
  | e => (rest.findIdx? (fun x => x.same e)).map (· + smemWords)

/-- The entries at the end of an image that follow one another in the sweep: the place of the first, and how many. -/
def State.sweepTail (s : State) (rest ents : List PEnt) : Nat × Nat :=
  let t := smemWords + rest.length
  match ents.getLast?.bind (PEnt.sweepPlace rest) with
  | none => (0, 0)
  | some p =>
    let r := ((ents.reverse.zipIdx).takeWhile (fun x =>
      match s.sweepAt rest ((p + t - x.2 % t) % t) with | some y => y.same x.1 | none => false)).length
    ((p + t + 1 - r % t) % t, r)

/-- PAIR_SWEEP after `n` more entries of a pass of `t` (R592). -/
def State.sweepOn (s : State) (n t : Nat) : State :=
  let p := s.pair.sweep + n
  let s := s.modPair (fun x => { x with sweep := p % t })
  let s := s.wf Addr.PAIR_SWEEP Fl.PAIR_SWEEP_PASSES (s.rf Addr.PAIR_SWEEP Fl.PAIR_SWEEP_PASSES + p / t)
  s.wf Addr.PAIR_SWEEP Fl.PAIR_SWEEP_POS (p % t * 65536 / t)

/-! ### Roles (R579) -/

/-- Everything the duty still holds back is reported (R582). -/
def State.releaseAcks (s : State) (due : Nat → Bool) : State :=
  let as := s.pair.acks
  let ws := s.pair.swack
  let s := s.modPair (fun p => { p with acks := p.acks.filter (fun a => !due a.frame), swack := p.swack.filter (fun w => !due w.2) })
  let s := (as.filter (fun a => due a.frame)).foldl (fun s a => s.accessDone a.src a.tag 0 0) s
  (ws.filter (fun w => due w.2)).foldl (fun s w => s.reportEnd w.1) s

/-- A new role. What belongs to the role left goes; a standby starts from its own units, a duty with nothing sent. -/
def State.roleTo (s : State) (r : Nat) : State :=
  let old := s.role
  if r = old then s
  else
    let s := s.wf Addr.PAIR_STAT Fl.PAIR_STAT_ROLE r
    let s := if old = 2 then
        let s := ((s.setPst Fl.PAIR_STAT_SYNC false).setPst Fl.PAIR_STAT_LOCK false).wr Addr.PAIR_SYNCCNT 0
        s.modPair (fun p => { p with err := none, trim := 0, posd := none })
      else s
    let s := if old = 4 then s.modPair (fun p => { p with hand := false, owed := [], marks := [], base := [] }) else s
    match r with
    | 1 => let t := s.now; s.modPair (fun p => { p with alone := t })
    | 2 =>
      let u := s.unitsNow
      let f := s.frm
      s.modPair (fun p =>
        { p with mir := u, last := none, outR := none, imgs := [], mrx := [], swpN := 0, sweep := 0, posd := none, pdN := 0, pdA := 0,
                 err := none, trim := 0, alone := f })
    | 4 => s.modPair (fun p => { p with base := [], owed := [], marks := [], sweep := 0, hand := false })
    | _ => s

/-- Does the pair link stay silent (R563)? -/
def State.linkSilent (s : State) : Bool := decide (s.pair.bmiss ≥ s.rf Addr.PAIR_CFG Fl.PAIR_CFG_PLMISS)

/-- PAIR_LINK_LOST (R563). -/
def State.linkLost (s : State) : State :=
  if s.linkSilent && s.pst Fl.PAIR_STAT_LINKOK then
    ((s.setPst Fl.PAIR_STAT_LINKOK false).irq 4 0).raise 0xD1 0 1
  else s

/-- A frame of the receiving module ends: was a valid beacon heard in it (R563)? -/
def State.linkFrame (s : State) : State :=
  let got := s.pair.got
  let s := if !got && s.pst Fl.PAIR_STAT_LINKOK then s.bump Addr.PAIR_ERRCNT Fl.PAIR_ERRCNT_BMISS else s
  (s.modPair (fun p => { p with got := false, bmiss := if got then 0 else min 1000 (p.bmiss + 1) })).linkLost

/-- DISCORD (R578): two frames of disagreement have been counted. -/
def State.discordSet (s : State) : State :=
  if s.pair.discN ≥ 2 ∧ s.pst Fl.PAIR_STAT_DISCORD = false then ((s.setPst Fl.PAIR_STAT_DISCORD true).irq 4 6).raise 0xD3 0 1 else s

/-- A frame of agreement or disagreement between the last valid beacon and the claim line (R578); without a beacon nothing disagrees. -/
def State.discordFrame (s : State) : State :=
  let same := s.pair.bcn.isNone || s.rf Addr.PAIR_STAT Fl.PAIR_STAT_PEERCL == s.rf Addr.PAIR_STAT Fl.PAIR_STAT_LINECL
  let s := s.modPair (fun p => { p with discN := if same then 0 else min 2 (p.discN + 1), discA := if same then min 16 (p.discA + 1) else 0 })
  let s := if s.pair.discA ≥ 16 then s.setPst Fl.PAIR_STAT_DISCORD false else s
  s.discordSet

/-- A standby whose claim is 0 sees its peer drop (R584). -/
def State.noTake (s : State) : State :=
  if s.pst Fl.PAIR_STAT_NOTAKE then s else ((s.setPst Fl.PAIR_STAT_NOTAKE true).irq 4 5).raise 0xD7 0 2

/-- The takeover decision at cycle 0 of frame `f` (R584, R585, R592). -/
def State.takeover (s : State) (f : Nat) : State :=
  if s.role ≠ 2 then s
  else
    let c := s.rf Addr.PAIR_CLAIM Fl.PAIR_CLAIM_CLAIM
    let p := s.rf Addr.PAIR_STAT Fl.PAIR_STAT_PEERCL
    let line := s.rf Addr.PAIR_STAT Fl.PAIR_STAT_LINECL
    if c = 0 then (if line = 0 ∧ (p = 0 ∨ s.linkSilent = true) then s.noTake else s)
    else if line < c ∧ (p < c ∨ s.linkSilent = true) then
      let rise := !s.pst Fl.PAIR_STAT_TAKEN
      let s := (s.roleTo 3).setPst Fl.PAIR_STAT_TAKEN true
      let s := s.bump Addr.PAIR_SWCNT Fl.PAIR_SWCNT_TAKES
      let s := s.wr Addr.PAIR_TAKE (wN (f % 65536 * 65536 + p * 256 + (if p < c then 1 else 2)))
      (s.irq 4 3).raiseIf rise 0xD4 0 0
    else s

/-- TAKEOVER as a row: the decision falls at a cycle 0. -/
def State.takeoverRow (s : State) : State := if s.cyc = 0 then s.takeover s.frm else s

/-- PEER_WAIT_TIMEOUT (R579): the wait began at the entry to WAIT or with the last valid beacon. -/
def State.peerWait (s : State) (cyc : Nat) : State :=
  let s := s.at cyc
  if s.role = 1 ∧ s.pst Fl.PAIR_STAT_SIDEERR = false ∧ s.now ≥ s.pair.alone + 20000000 * s.rf Addr.PAIR_CFG Fl.PAIR_CFG_PALONE then s.roleTo 4
  else s

/-- Entries still staged on a module that becomes standby, and that a standby refuses, are refused (R580). -/
def State.refuseStaged (s : State) : State :=
  let keep (e : Staged) : Bool :=
    if e.obj then
      (match s.objFind (e.addr / 256) (e.addr % 256) with
       | .ok o => (match s.objReg o e.val with | some (a, w) => standbyTakes a w | none => false)
       | .error _ => false)
    else standbyTakes e.addr (wN e.val)
  let out := s.sch.staging.filter (fun e => !keep e)
  let s := s.modSch (fun c => { c with staging := c.staging.filter keep })
  out.foldl (fun s e => s.accessDone e.src e.tag 0x08000022 e.addr) (s.logEnds (out.map (fun e => (e, 0x08000022))))

/-- The duty gives up its role at a boundary (R579, R586). -/
def State.handOver (s : State) : State :=
  let c := s.rf Addr.PAIR_CLAIM Fl.PAIR_CLAIM_CLAIM
  let peerDuty := match s.pair.bcn with | some b => b.role == 4 && s.pst Fl.PAIR_STAT_LINKOK | none => false
  if s.role = 4 ∧ (c < s.rf Addr.PAIR_STAT Fl.PAIR_STAT_PEERCL ∨ (peerDuty && s.id.sideB) = true) then
    let s := (s.roleTo 2).refuseStaged
    let s := (s.setPst Fl.PAIR_STAT_HANDED true).bump Addr.PAIR_SWCNT Fl.PAIR_SWCNT_HANDS
    (s.irq 4 4).raise 0xD5 0 0
  else s

/-! ### The standby at a boundary (R564, R570, R581, R583) -/

/-- LOCK takes the value of the present error. -/
def State.lockUpd (s : State) : State :=
  let ok := match s.pair.err with | some e => decide (e.natAbs ≤ 16) | none => false
  let was := s.pst Fl.PAIR_STAT_LOCK
  let s := s.setPst Fl.PAIR_STAT_LOCK ok
  if was && !ok then s.syncFall else s

/-- The phase lock at the cycle 0 that falls at time `t` (R564): the error against the last MARKER, and the trim of the frame
that starts. -/
def State.phaseLock (s : State) (t : Nat) : State :=
  match s.pair.mrx.getLast? with
  | none => s.modPair (fun p => { p with trim := 0 })
  | some m =>
    let n : Int := s.ncyc
    let pht : Int := s.rf Addr.PAIR_SYNCCFG Fl.PAIR_SYNCCFG_PHT
    let d : Int := ((t : Int) - m.2.2 - pht) % max n 1
    let e := if 2 * d > n then d - n else d
    (s.modPair (fun p => { p with err := some e, trim := if e > 4 then -4 else if e < -4 then 4 else -e })).lockUpd

/-- The standby takes the duty's module state (R581). -/
def State.follow (s : State) : State :=
  match s.pair.bcn with
  | some b =>
    if s.role = 2 ∧ s.pst Fl.PAIR_STAT_LOCK = true ∧ 4 ≤ b.mst ∧ b.mst ≤ 7 ∧ b.mst ≠ s.mode.code ∧ s.mode.runs = true then
      s.enter (MSt.ofCode b.mst) 8
    else s
  | none => s

/-- The standby follows a bank switch of the duty (R583). -/
def State.followBank (s : State) : State :=
  if s.role ≠ 2 then s
  else
    match s.pair.mrx.getLast? with
    | none => s
    | some m =>
      match s.pair.imgs.find? (fun i => i.frame == m.1) with
      | none => s
      | some i =>
        if i.crc = s.ownCrc then s
        else
          let b := s.inactive
          match (s.checkBank b).2 with
          | some h =>
            if h.crc = i.crc then
              let s := ((s.bulkAbort.takeSheaf b h true).irq 1 5)
              s.record 4 b h.frate 0 h.crc h.stateId 0
            else s
          | none => s

/-- The pair at a boundary, before staging; the frame that starts has number f and its cycle 0 at time t. -/
def State.pairBefore (s : State) (f t : Nat) : State :=
  let s := s.modPair (fun p => { p with tx := [], cfg := [], trim := 0 })
  let s := if s.role = 3 then s.roleTo 4 else s
  let s := s.linkFrame.discordFrame.handOver
  let s := if s.role = 2 then
      let s := if s.pst Fl.PAIR_STAT_SYNC then s.bump Addr.PAIR_SYNCCNT ⟨0, 32⟩ else s
      (s.phaseLock t).follow
    else s
  s.takeover f

/-- The pair at a boundary, after all else: roles that begin or end with the schedule; the image of role SHAFT is latched (R30);
the BEACON of cycle 0 (R562). -/
def State.pairAfter (s : State) : State :=
  let s := if !s.running || s.pairRole != 1 then s.roleTo 0
    else if s.role = 0 then s.roleTo 1 else s
  let s := s.peerWait s.cyc
  let run := s.running
  (s.modPair (fun p => { p with ran := run, shImg := p.shNew, shNew := none })).sendBeacon

/-! ### Packets received (R560, R563, R569) -/

/-- A packet with a bad CRC (R560). -/
def State.badPacket (s : State) : State := s.bump Addr.PAIR_ERRCNT Fl.PAIR_ERRCNT_CRC

/-- What a valid beacon does in each role (R577, R579, R582, R584, R586). -/
def State.beaconRole (s : State) (b : Beacon) : State :=
  if b.side = s.id.sideB then
    let rise := !s.pst Fl.PAIR_STAT_SIDEERR
    let s := if rise then ((s.setPst Fl.PAIR_STAT_SIDEERR true).irq 4 7).raise 0xD9 0 1 else s
    if s.role = 0 then s else s.roleTo 1
  else if s.pst Fl.PAIR_STAT_SIDEERR then s
  else
    match s.role with
    | 1 =>
      if b.role = 4 ∨ b.role = 3 then s.roleTo 2
      else if (b.role = 1 ∨ b.role = 2) ∧ s.id.sideB = false then s.roleTo 4
      else let t := s.now; s.modPair (fun p => { p with alone := t })
    | 2 =>
      if s.rf Addr.PAIR_CLAIM Fl.PAIR_CLAIM_CLAIM = 0 then
        let s := if b.claim = 0 then s.noTake else s
        if b.role = 4 ∨ b.role = 3 then s else s.roleTo 1
      else s
    | 4 => if b.role = 2 then s.wr Addr.PAIR_LAST (wN b.conf) else s
    | _ => s

/-- What a beacon confirms is reported: frames up to CONFIRM while the peer is a standby in SYNC, else everything held back (R582). -/
def State.confirm (s : State) (b : Beacon) : State :=
  if b.role = 2 ∧ b.sync = true then s.releaseAcks (fun f => frameLe f b.conf) else s.releaseAcks (fun _ => true)

/-- Is a beacon valid (R563)? DEDUCED (log 100): the one that tells a change of the claim within a frame (R562, R587) is, with the frame
counter of the one before. -/
def State.beaconNew (s : State) (b : Beacon) : Bool :=
  match s.pair.bcn with | some l => pF l.frame != pF b.frame || l.claim != b.claim | none => true

/-- A packet arrives: what it does when its CRC and its head are right. DESIGN CHOICE (log 183): a head of another type, version or
length ends the packet without a count. -/
def State.packet (s : State) (cyc : Nat) (e : PktEnds) (typ : Nat) (body : List Word) (f : State → State) : State :=
  let s := s.at cyc
  if s.mode == .RESET then s
  else if !e.crcOk body then s.badPacket
  else if !e.headOk typ body then s
  else f s

/-- BEACON_RECEIVED. -/
def State.beaconReceived (s : State) (e : PktEnds) (b : Beacon) (cyc : Nat) : State :=
  s.packet cyc e 1 b.words fun s =>
  if !s.beaconNew b then s
  else
    let s := (s.wf Addr.PAIR_STAT Fl.PAIR_STAT_PEERCL b.claim).setPst Fl.PAIR_STAT_LINKOK true
    ((s.modPair (fun p => { p with bcn := some b, got := true, bmiss := 0 })).confirm b).beaconRole b

/-- IMAGE_RECEIVED: an image is held until IMG_TAKE; one of role SHAFT is latched at the next cycle 0 (R30, R33). -/
def State.imageReceived (s : State) (e : PktEnds) (i : Img) (cyc : Nat) : State :=
  s.packet cyc e 2 i.words fun s =>
    match i with
    | .mirror i => if s.role = 2 then s.modPair (fun p => { p with imgs := p.imgs ++ [i] }) else s
    | .shaft ws => if s.pairRole = 2 then s.modPair (fun p => { p with shNew := some ws }) else s

/-- MARKER_RECEIVED: its time is noted; after a frame of the standby without one it comes late (R570). -/
def State.markerReceived (s : State) (e : PktEnds) (f n cyc : Nat) : State :=
  s.packet cyc e 3 (markerWords f n) fun s =>
  if s.role ≠ 2 then s
  else
    let late := decide (s.frm ≥ s.pair.alone + 2) && s.pair.last.isSome
    let s := if late then s.syncFall else s
    let t := s.now
    let own := s.frm
    s.modPair (fun p => { p with mrx := p.mrx ++ [(pF f, n, t)], alone := own })

/-! ### IMG_TAKE (R569, R570, R585) -/

/-- One entry of the mirror is applied (R569). -/
def State.applyEnt (s : State) : PEnt → State
  | .smem ix v => if ix < smemWords then s.setBytes (smemBase + 4 * ix) (leBytes 4 v.toNat) else s
  | .reg off v =>
    let a := 0x40000000 + off
    match regRow? a with
    | some r => if r.has .rwf && !commands a && s.hasPage (off / 0x1000) then (s.regPut a v).fbFreed a ⟨0, 32⟩ else s
    | none => s
  | .bank ix w v => match dblOf ix with | some k => if k.here s && decide (w < k.words) then s.bankPutWord k w v else s | none => s
  | .obj ix sub v => match s.objFind ix sub with | .ok e => s.objPutOwn e v false | .error _ => s
  | .unit u => (s.setUnit u).modPair (fun p => { p with mir := p.mir.map (fun m => if m.same u then u else m) })

/-- The sweep entries of an image count (R568, R570, R592): those at its end that go on where the sweep stood. Where it stood is learned
from the first image of a pass, and again from a longer run than any so far (log 104). -/
def State.sweepTake (s : State) (ents : List PEnt) : State :=
  let rest := s.sweepRest
  let t := smemWords + rest.length
  let (p, r) := s.sweepTail rest ents
  let k := (p + r + t - s.pair.sweep % t) % t
  let n := s.pair.swpN
  if n ≠ 0 ∧ 1 ≤ k ∧ k ≤ r then (s.sweepOn k t).modPair (fun x => { x with swpN := min t (n + k) })
  else if n < r then ((s.modPair (fun x => { x with sweep := p })).sweepOn r t).modPair (fun x => { x with swpN := min t r })
  else s

/-- The duty's frame of one MARKER is applied (R569, R570); the last one of a repeat frame is F_L, whose mirrored items the module then
holds (R588). -/
def State.applyFrame (s : State) (m : Nat × Nat × Nat) : State :=
  let f := m.1
  let ents := (s.pair.imgs.flatMap (fun i => i.ents)).filter (fun e => pF e.1 == f)
  match s.pair.imgs.find? (fun i => pF i.frame == f) with
  | none => s.syncFall
  | some i =>
    let s := s.modPair (fun p => { p with imgs := p.imgs.filter (fun j => !frameLe j.frame f) })
    if ents.length ≠ m.2.1 then s.syncFall
    else
      let gap := match s.pair.last with | some l => f != pF (l + 1) | none => false
      let s := if gap then (s.bump Addr.PAIR_ERRCNT Fl.PAIR_ERRCNT_GAP).syncFall else s
      let dif := i.crc != s.ownCrc
      let rise := dif && !s.pst Fl.PAIR_STAT_SHEAFDIF
      let s := (s.setPst Fl.PAIR_STAT_SHEAFDIF dif).raiseIf rise 0xD6 0 1
      let s := if dif then s.syncFall else s
      let s := ((ents.map (·.2)).foldl State.applyEnt s).nbTake s
      let s := (s.sweepTake (i.ents.map (·.2))).modPair (fun p =>
        { p with last := some f, outR := some (i.ocmd, i.cmp), posd := some (i.pos, i.vel) })
      s.wr Addr.PAIR_LAST (wN f)

/-- Markers in the order of their frames. -/
def insMark (m : Nat × Nat × Nat) : List (Nat × Nat × Nat) → List (Nat × Nat × Nat)
  | [] => [m]
  | x :: t => if frameLe m.1 x.1 then m :: x :: t else x :: insMark m t

/-- SYNC sets when everything holds (R570). -/
def State.syncSet (s : State) : State :=
  if s.role = 2 ∧ s.pst Fl.PAIR_STAT_SYNC = false ∧ s.pst Fl.PAIR_STAT_LOCK = true ∧ s.pst Fl.PAIR_STAT_SHEAFDIF = false ∧
      s.pst Fl.PAIR_STAT_POSDIF = false ∧ s.pair.last.isSome = true ∧ s.pair.swpN ≥ s.sweepLen then
    ((s.setPst Fl.PAIR_STAT_SYNC true).wr Addr.PAIR_SYNCCNT 0).irq 4 1
  else s

/-- The IMG_TAKE slot: every frame whose MARKER arrived before cycle 0, in frame order; a repeat frame discards what came later
(R569, R585, R588). -/
def State.imgTake (s : State) : State :=
  if s.pairRole = 2 then
    let w := s.pair.shImg
    (s.modHdl (fun h => { h with rxImg := w })).modPair (fun p => { p with shImg := none })
  else if s.role = 2 ∨ s.role = 3 then
    let due := (s.pair.mrx.filter (fun m => decide (m.2.2 < s.ecyc))).foldr insMark []
    let s := s.modPair (fun p => { p with mrx := p.mrx.filter (fun m => !decide (m.2.2 < s.ecyc)) })
    let s := due.foldl State.applyFrame s
    if s.role = 3 then s.modPair (fun p => { p with imgs := [], mrx := [] }) else s.syncSet
  else s

/-! ### IMG_SEND and MARKER (R566–R568) -/

/-- MARKERs of frames whose entries have all been sent; `all` takes in the running frame. -/
def State.sendMarks (s : State) (all : Bool) : State :=
  let done (m : Nat × Nat) : Bool := (all || m.1 != s.frm) && !s.pair.owed.any (fun e => e.1 == m.1)
  let ms := s.pair.marks.filter done
  s.modPair (fun p => { p with marks := p.marks.filter (fun m => !done m), tx := p.tx ++ ms.map (fun m => .marker (pF m.1) m.2) })

/-- The delta of the running frame. -/
def State.delta (s : State) : List PEnt :=
  let sm := s.smem.foldl (fun (l : List (Nat × Word)) p => aput l ((p.1 - smemBase) / 4) p.2) []
  s.pair.cfg ++ sm.map (fun p => .smem p.1 p.2) ++ (s.unitsNow.filter (fun u => !s.pair.base.contains u)).map .unit

/-- The image of a duty. -/
def State.sendImage (s : State) (n : Nat) : State :=
  let f := s.frm
  let cap := (n - 36) / 2
  let d := s.delta.map (fun e => (f, e))
  let q := s.pair.owed ++ d
  let now := q.take cap
  let later := q.drop cap
  let rest := s.sweepRest
  let t := smemWords + rest.length
  let sw := (s.sweepEnts rest s.pair.sweep (cap - now.length)).map (fun e => (f, e))
  let mine := (later.filter (fun e => e.1 == f)).length
  let cmp := (List.range 6).map (fun n => let d := s.drvS n; (d.cmpS.getD (d.cmpR.getD (0, 0, 0))))
  let img : PImg := ⟨s.id.sideB, n, pF f, s.ownCrc, mine, s.outWord, cmp, (List.range 8).map (fun k => s.cs (Addr.FB_POS k)),
    (List.range 8).map (fun k => s.cs (Addr.FB_VEL k)), now ++ sw⟩
  let u := s.unitsNow
  let s := (s.sweepOn sw.length t).modPair (fun p =>
    { p with tx := p.tx ++ [.image img], owed := later, base := u, marks := p.marks ++ [(f, d.length + sw.length)] })
  let s := if mine > 0 then (s.setPst Fl.PAIR_STAT_OVF true).bump Addr.PAIR_ERRCNT Fl.PAIR_ERRCNT_OVF else s
  s.sendMarks false

/-- The IMG_SEND slot: in role SHAFT the guard record and zeros. -/
def State.imgSend (s : State) (sl : Slot) : State :=
  if s.pairRole = 2 then
    let ws := (s.hdl.own ++ List.replicate sl.n 0).take sl.n
    s.modPair (fun p => { p with tx := p.tx ++ [.words ws] })
  else if s.role = 4 ∧ s.pair.drop = 0 then s.sendImage sl.n
  else s

/-! ### Release and commit (R569, R571, R585, R586) -/

/-- The outputs of a release: those of the duty's last frame F_L in a repeat frame (R585, R588). -/
def State.releaseOut (s : State) : State :=
  match s.role, s.pair.outR with
  | 3, some (w, cs) =>
    let s := (List.range 6).foldl (fun s n => s.modDrv n (fun d => { d with cmpS := some (cs.getD n (0, 0, 0)) })) s
    (s.drvRelease.fioRelease w).setPst Fl.PAIR_STAT_YIELD false
  | 3, none => (s.drvRelease.fioRelease s.outWord).setPst Fl.PAIR_STAT_YIELD false
  | _, _ => s.drvRelease.fioRelease s.outWord

/-- Before a commit: a standby, and a module in its repeat frame, keep every mirrored word as the mirror gave it (R569, R585, R588); a
duty that dropped its claim commits nothing (R586). -/
def State.pairKeep (s : State) : State :=
  if s.role = 2 ∨ s.role = 3 then
    let s := s.pair.mir.foldl State.setUnit { s with smem := [] }
    (List.range 6).foldl (fun s n =>
      if s.hasAx n then s.pubPoint n 0xFF else s) s
  else if s.role = 4 ∧ s.pair.drop ≠ 0 then { s with sch := { s.sch with noCommit := true } }
  else s

/-- POSDIF, judged on a frame that applied an image (R571). -/
def State.posDiff (s : State) : State :=
  match s.pair.posd with
  | none => s
  | some (ps, vs) =>
    let s := s.modPair (fun p => { p with posd := none })
    if s.role ≠ 2 then s
    else
      let dt : Int := (s.tDrn + 48 + s.rf Addr.PAIR_SYNCCFG Fl.PAIR_SYNCCFG_PHT) * 5
      let tol : Int := (s.rd Addr.PAIR_PTOL).toNat
      let bad := s.usedFb.any (fun n =>
        let u := fbU (s.fbUnit n)
        decide ((((s.rs (Addr.FB_POS n) - ps.getD n 0) * 1000000000 * u - vs.getD n 0 * dt).natAbs : Int) > tol * 1000000000 * u))
      let s := s.modPair (fun p => { p with pdN := if bad then min 2 (p.pdN + 1) else 0, pdA := if bad then 0 else min 16 (p.pdA + 1) })
      let s := if s.pair.pdA ≥ 16 then s.setPst Fl.PAIR_STAT_POSDIF false else s
      if s.pair.pdN ≥ 2 ∧ s.pst Fl.PAIR_STAT_POSDIF = false then ((s.setPst Fl.PAIR_STAT_POSDIF true).raise 0xD8 0 1).syncFall else s

/-- After a commit: the frame's MARKER, and POSDIF. -/
def State.pairCommitted (s : State) : State := (s.sendMarks true).posDiff

/-- A frame without a commit sends no MARKER and its entries go (R568). -/
def State.pairNoCommit (s : State) : State :=
  let f := s.frm
  s.modPair (fun p => { p with owed := p.owed.filter (fun e => e.1 != f), marks := p.marks.filter (fun m => m.1 != f), base := [], posd := none })

/-- Data-path transmit records are handed off by a module that drives the car; a module in WAIT or STANDBY hands off its claim objects on
CANA alone, and a repeat frame no record of TX_STAGE; the others are dropped uncounted (R580, R585). -/
def State.pairHandOff (s : State) (x : Nat) : State :=
  let claim (r : Option Nat × List Word) : Bool := match r.1 with | some k => s.standby && s.isClaim x k | none => false
  if s.role = 1 ∨ s.role = 2 ∨ s.role = 3 then s.modCan x (fun c => { c with stage := c.stage.filter claim }) else s

end Sys2Proof.Machine
end

