-- ==== Sys2Proof/Machine/Frame.lean ====
section
/-! DEFINITION. The frame (chapter 02): the boundary in R98's order, the release, the commit, the check at T_END. -/

namespace Sys2Proof.Machine

/-! ### Boundary -/

/-- FAULT is entered at the boundary after a stop or trip raise (R595); the answer says whether it was. -/
def State.faultEntry (s : State) : State × Bool :=
  let due := s.flt.fltDue
  let s := s.modFlt (fun f => { f with fltDue := false })
  match s.mode with
  | .READY | .RUN | .HOLD => if due then (s.enter .FAULT 7, true) else (s, false)
  | _ => (s, false)

/-- Steps 3 to 5 of R98: a bank that boot, load, a switch or the duty's switch (R583) makes active, joint swaps, single swaps. -/
def State.bankSteps (s : State) : State :=
  let s := s.loadBoundary
  let pend := s.flag Addr.SCH_BANK Fl.SCH_BANK_SWPEND
  let s := s.switchBoundary
  let s := (if pend && !s.flag Addr.SCH_BANK Fl.SCH_BANK_SWPEND then s.discardStaging else s).followBank
  let n (s : State) (k : Dbl) : Nat := s.rf k.addr swapCnt
  let old := Dbl.all.map (n s)
  let s := s.jswBoundary.swpBoundary
  let new := (Dbl.all.zip old).filter (fun p => n s p.1 != p.2)
  if s.role = 4 then new.foldl (fun s p => let es := s.bankEnts p.1; s.modPair (fun x => { x with cfg := x.cfg ++ es })) s else s

/-- What the units do at the edge, the sources latched last (R30, R98 step 7). -/
def State.unitEdges (s : State) (i : FrameIn) (idle rate : Bool) : State :=
  let s := if s.running then s.thrBoundary.dorBoundary else s
  let s := s.stpBoundary.thetaNote.fbLatchAll
  let s := (s.drvBoundary i.adc).fioBoundary idle i.mis i.vf
  let s := s.axBoundary
  let s := (s.canBoundary 0 i.idleA).canBoundary 1 i.idleB
  ((s.bidBoundary.hdlBoundary).nrgBoundary i.sd rate).gleanBoundary

/-- FRAME_BOUNDARY (R55, R98): no frames run in RESET. The frame counter steps between the swaps and the latch of the sources
(R98 step 6). -/
def State.frameBoundary (s : State) (i : FrameIn) : State :=
  if s.mode == .RESET then s
  else
    let idle := !s.pair.ran
    let rate := s.rf Addr.SCH_CFG Fl.SCH_CFG_RATE
    let f := s.nextFrm
    let lims := (s.rd (Addr.AX_VLO 0), s.rd (Addr.AX_VHI 0))     -- a change is judged once (R291)
    let t := ((s.ecyc : Int) + s.ncyc + s.pair.trim).toNat
    let s := { s with ecyc := t, cyc := 0, hops := [] }
    let s := s.modSch (fun c => { c with aborted := false, noRelease := false, noCommit := false, fullM := [] })
    let s := s.thrWait.modStp (fun p => { p with badF := false })
    let (s, faulted) := (s.pairBefore f t).faultEntry
    let s := s.applyStaging faulted
    if s.mode == .RESET then s
    else
      let s := { s.bankSteps with frm := f }
      let s := if s.rd (Addr.AX_VLO 0) = lims.1 ∧ s.rd (Addr.AX_VHI 0) = lims.2 then s else s.landRecheck
      let s := (s.unitEdges i idle (s.rf Addr.SCH_CFG Fl.SCH_CFG_RATE != rate)).flushStep.scrubStart
      s.pairAfter

/-! ### Release (R57) -/

/-- RELEASE in cycle T_EMT; a frame of a stopped schedule passes it without one (R178, R246). -/
def State.release (s : State) : State :=
  if !s.running || s.sch.noRelease then
    (if s.mode.runs && s.sch.stopped && !s.sch.noRelease then (s.at s.tEmt).releaseMissing else s).nrgNoRelease
  else
    let s := s.at s.tEmt
    (s.releaseOut.stepRelease).nrgRelease

/-! ### Commit (R58, R39, R614) -/

/-- Everything the frame leaves undone. -/
def State.discardFrame (s : State) : State :=
  let s := { s with pend := [], smem := [], intp := [] }
  let s := (s.modCan 0 (fun c => { c with stage := [] })).modCan 1 (fun c => { c with stage := [] })
  ((s.stpDiscard.bidDiscard).nrgNoCommit).pairNoCommit

/-- Waiting status, stores and interrupt sources come in. -/
def State.mergeFrame (s : State) : State :=
  let ps := s.pend
  let ms := s.smem
  let is := s.intp
  let s := { s with pend := [], smem := [], intp := [] }
  let s := ps.foldl (fun s p => s.wr p.1 (mergeW (s.rd p.1) p.2.1 p.2.2)) s
  let s := ms.foldl (fun s p => s.setBytes p.1 (leBytes 4 p.2.toNat)) s
  is.foldl (fun s p => s.irq p.1 p.2) s

/-- The units' reports and hand-offs at a commit. -/
def State.unitCommits (s : State) : State :=
  let s := (((s.fbCommit.thrCommit.axPublish).drvPublish).dorPublish).stpCommit
  let s := ((s.hdlCommit.fioCommit).nrgCommit).bidCommit
  let s := (s.pairHandOff 0).pairHandOff 1
  ((s.canHandOff 0).canHandOff 1).pairCommitted

/-- FRAME_COMMIT in cycle T_DRN. -/
def State.frameCommit (s : State) : State :=
  if s.sch.noCommit then s.discardFrame
  else if !s.running then s
  else
    let s := (s.at s.tDrn).pairKeep
    if s.sch.noCommit then s.discardFrame else s.mergeFrame.unitCommits

/-! ### The check at T_END (R62, R63) -/

/-- One hopper that still holds words. -/
def State.residue (s : State) (h n : Nat) : State :=
  let s := s.bump Addr.SCH_HOP_RES ⟨0, 32⟩ n
  let s := if h < 32 then s.wf Addr.SCH_HOP_RMAP_LO ⟨h, 1⟩ 1 else s.wf Addr.SCH_HOP_RMAP_HI ⟨h - 32, 1⟩ 1
  ((s.wf Addr.SCH_STAT Fl.SCH_STAT_HOPR 1).irq 1 3).raise 0x14 h 0

/-- HOPPER_CHECK in cycle T_END; errors that memory words showed in the frame, the scrubber and the CRC unit's memory job use the
frame's free cycles (R70, R618). -/
def State.hopperCheck (s : State) (es : List EccEv) : State :=
  if s.mode == .RESET then s
  else
    let s := if s.running then
        let s := (s.at s.tEnd)
        let hs := s.hops
        let s := (s.wr Addr.SCH_HOP_RMAP_LO 0).wr Addr.SCH_HOP_RMAP_HI 0
        hs.foldl (fun s h => s.residue h.1 h.2.length) { s with hops := [] }
      else { s with hops := [] }
    (es.foldl State.ecc s).scrub.crcAdvance 1024

end Sys2Proof.Machine
end

