-- ==== Sys2Proof/Machine/Services.lean ====
section
/-! DEFINITION. The CiA 301 services: SDO servers (R499–R509), NMT commands, boot-up and heartbeat (R516–R520), emergency messages
(R521–R524), and where a received frame goes (R462, R500, R519). -/

namespace Sys2Proof.Machine

/-! ### SDO (R500–R508) -/

/-- Is a controller taking part in the bus? -/
def State.canPart (s : State) (x : Nat) : Bool := decide (x < 2) && s.canStat x Fl.CAN_STAT_ACTIVE

/-- Log the refusal of an SDO access. -/
def State.sdoRefuse (s : State) (x ix sub code : Nat) (wr : Bool) (at_ : Nat := sub) : State :=
  (s.violate (3 + x) true (ix * 256 + at_) wr code).sdoAbort x ix sub code

/-- A transfer closes: a segmented one, and one whose download waits for its boundary, which then answers nobody (R503). -/
def State.sdoClose (s : State) (x : Nat) : State := s.modSdo x (fun d => { d with tr := none, wait := [] })

/-- The answer to a download that was checked: at once, or after its boundary. -/
def State.sdoWritten (s : State) (x ix sub : Nat) (seg : Option Nat) (r : Nat × Bool × State) (at_ : Nat := sub) : State :=
  let tag := (s.sdoS x).next
  let (c, wait, t) := r
  if c ≠ 0 then t.sdoRefuse x ix sub c true at_
  else
    let t := t.modSdo x (fun d => { d with wait := d.wait ++ [(tag, ix, sub, seg)], next := tag + 1 })
    if wait then t else t.sdoDone x tag 0

/-- A segmented transfer that is neither of a string nor a complete access is not accepted (R502) and is logged (R552); the manual
names no abort code. -/
def State.sdoNoSeg (s : State) (x ix sub : Nat) (wr : Bool) : State :=
  let (c, s) := s.freeVal
  s.sdoRefuse x ix sub (c % 2 ^ 32) wr

/-- Open a segmented transfer. -/
def State.sdoOpen (s : State) (x : Nat) (t : SdoTr) : State := s.modSdo x (fun d => { d with tr := some t })

/-- Bit 4 of the command byte asks for a complete access. -/
def caBit (b0 : Nat) : Bool := bitOf b0 4

/-- SDO_DOWNLOAD_INITIATE: the eight bytes of the request. -/
def State.sdoDown (s : State) (x : Nat) (bs : List Nat) : State :=
  let b (k : Nat) : Nat := bs.getD k 0 % 256
  let b0 := b 0
  let ix := b 1 + 256 * b 2
  let sub := b 3
  let ca := caBit b0
  let s := s.sdoClose x
  let tag := (s.sdoS x).next
  let dat := [b 4, b 5, b 6, b 7]
  if bitOf b0 1 then
    if ca then
      let n := if bitOf b0 0 then 4 - b0 / 4 % 4 else (s.objSubs ix).foldl (fun n p => n + (match p.2 with | some e => s.objSize e | none => 0)) 0
      s.sdoWritten x ix sub none (s.objWriteAll ix sub (dat.take n) (3 + x) tag) (s.failSub ix sub (dat.take n))
    else
      let n := if bitOf b0 0 then 4 - b0 / 4 % 4 else (match s.objFind ix sub with | .ok e => s.objSize e | .error _ => 4)
      s.sdoWritten x ix sub none (s.objWrite ix sub (dat.take n) (3 + x) tag)
  else
    let len := if bitOf b0 0 then ofLE dat else 0
    if ca then
      let c := s.writeAllErr ix sub
      if c ≠ 0 then s.sdoRefuse x ix sub c true
      else (s.sdoOpen x ⟨false, ix, sub, true, [], len, 0, s.now⟩).sdoSend x ([0x60, b 1, b 2, sub])
    else
      match s.objFind ix sub with
      | .error c => s.sdoRefuse x ix sub c true
      | .ok e => if e.cls = .ro ∨ e.cls = .const then s.sdoRefuse x ix sub 0x06010002 true else s.sdoNoSeg x ix sub true

/-- SDO_UPLOAD_INITIATE. DEDUCED (log 181): a published accumulator of 0x2504, eight bytes that one read returns (R441), goes by
segments although it is no string (R502). -/
def State.sdoUp (s : State) (x : Nat) (bs : List Nat) : State :=
  let b (k : Nat) : Nat := bs.getD k 0 % 256
  let ix := b 1 + 256 * b 2
  let sub := b 3
  let ca := caBit (b 0)
  let s := s.sdoClose x
  let str : Bool := match s.objFind ix sub with | .ok e => e.typ == tStr | .error _ => false
  let (c, d, t) := if ca then s.objReadAll ix sub else s.objRead ix sub
  if c ≠ 0 then s.sdoRefuse x ix sub c false
  else if 1 ≤ d.length ∧ d.length ≤ 4 then t.sdoSend x ([0x43 + 4 * (4 - d.length), b 1, b 2, sub] ++ d)
  else if ca || str || decide (ix = 0x2504) then
    (t.sdoOpen x ⟨true, ix, sub, ca, d, d.length, 0, t.now⟩).sdoSend x ([0x41, b 1, b 2, sub] ++ leBytes 4 d.length)
  else s.sdoNoSeg x ix sub false

/-- An open transfer ends with an abort. -/
def State.sdoFail (s : State) (x : Nat) (t : SdoTr) (code : Nat) : State := (s.sdoClose x).sdoRefuse x t.ix t.sub code (!t.up)

/-- SDO_SEGMENT: a segment of the open transfer. -/
def State.sdoSeg (s : State) (x : Nat) (bs : List Nat) : State :=
  let b0 := bs.getD 0 0 % 256
  let up := decide (b0 / 32 = 3)
  let tog := b0 / 16 % 2
  match (s.sdoS x).tr with
  | none => s.sdoRefuse x 0 0 0x05040001 (!up)
  | some t =>
    if t.up != up then s.sdoFail x t 0x05040001
    else if tog ≠ t.tog then s.sdoFail x t 0x05030000
    else if up then
      let d := t.buf.take 7
      let rest := t.buf.drop 7
      let s := s.sdoSend x ([tog * 16 + (7 - d.length) * 2 + b2n rest.isEmpty] ++ d)
      if rest.isEmpty then s.sdoClose x else s.sdoOpen x { t with buf := rest, tog := 1 - tog, time := s.now }
    else
      let buf := t.buf ++ ((bs.drop 1).take (7 - b0 / 2 % 8)).map (· % 256)
      if t.len ≠ 0 ∧ (buf.length > t.len ∨ (bitOf b0 0 = true ∧ buf.length ≠ t.len)) then s.sdoFail x t 0x06070010
      else if bitOf b0 0 then
        let s := s.sdoClose x
        s.sdoWritten x t.ix t.sub (some tog) (s.objWriteAll t.ix t.sub buf (3 + x) (s.sdoS x).next) (s.failSub t.ix t.sub buf)
      else (s.sdoOpen x { t with buf := buf, tog := 1 - tog, time := s.now }).sdoSend x [0x20 + 16 * tog]

/-- A request of eight bytes reaches the server of a controller. -/
def State.sdoRequest (s : State) (x : Nat) (bs : List Nat) : State :=
  let b (k : Nat) : Nat := bs.getD k 0 % 256
  match b 0 / 32 with
  | 0 => s.sdoSeg x bs
  | 1 => s.sdoDown x bs
  | 2 => s.sdoUp x bs
  | 3 => s.sdoSeg x bs
  | 4 => s.sdoClose x
  | _ => (s.sdoClose x).sdoRefuse x (b 1 + 256 * b 2) (b 3) 0x05040001 false

/-- The request rows: a server works whenever its controller takes part in the bus (R500). -/
def State.sdoRow (s : State) (x cyc : Nat) (f : State → State) : State :=
  let s := s.at cyc
  if s.canPart x then f s else s

/-- SDO_TIMEOUT (R504). -/
def State.sdoTimeout (s : State) (x cyc : Nat) : State :=
  let s := s.at cyc
  if x < 2 then
    match (s.sdoS x).tr with
    | some t => if s.now ≥ t.time + 200000000 then s.sdoFail x t 0x05040000 else s
    | none => s
  else s

/-! ### NMT (R516–R520) -/

/-- A state command asked for by NMT is a write of PWR_MCMD (R670). -/
def State.nmtStage (s : State) (v : Nat) : State :=
  if s.flag Addr.SCH_BANK Fl.SCH_BANK_SWPEND then s
  else if s.stgFree = 0 then s.noRoom false
  else s.stage Addr.PWR_MCMD false v 5 noTag

/-- Reset of communication (R519). -/
def State.nmtComm (s : State) : State :=
  let ad := s.id.addr
  let node (v : Nat) : Nat := if v = 0 then ad + 1 else v
  s.modCia (fun c => { c with nodeA := node c.setA, nodeB := node c.setB, hist := [], boot := true })

/-- An NMT command with its mask bit set takes effect. -/
def State.nmtDo (s : State) (c : Nat) : State :=
  let m := s.mode
  let bit (k : Nat) : Bool := bitOf s.cia.nmt k
  match c with
  | 0x01 => if bit 0 && (m == .READY || m == .HOLD) then s.nmtStage 3 else s
  | 0x02 => if bit 1 && m == .RUN then s.nmtStage 4 else s
  | 0x80 => if bit 1 && m == .RUN then s.nmtStage 4 else s
  | 0x81 => if bit 2 && m != .RUN then s.nmtStage 0x5A0F else s
  | 0x82 => if bit 3 && m != .RUN then s.nmtComm else s
  | _ => s

/-- An NMT command with its node-ID (R519); the slave runs on CANA only. -/
def State.nmt (s : State) (c node : Nat) : State :=
  if s.canPart 0 && (node == 0 || node == s.cia.nodeA) then s.nmtDo c else s

/-- A service frame of CANA is queued. -/
def State.svcSend (s : State) (id : Nat) (bs : List Nat) : State :=
  s.modCan 0 (fun c => { c with svc := c.svc ++ [⟨id, false, false, false, false, bs.length, bs, 0, false⟩] })

/-- Does the NMT state of R517 let messages go? -/
def State.nmtTalks (s : State) : Bool := s.canPart 0 && s.mode != .RESET && s.mode != .LOAD

/-- BOOT_UP (R518). -/
def State.bootUp (s : State) (cyc : Nat) : State :=
  let s := s.at cyc
  if s.nmtTalks && s.cia.boot then
    let t := s.now
    (s.svcSend (0x700 + s.cia.nodeA) [0]).modCia (fun c => { c with boot := false, hb := some t })
  else s

/-- HEARTBEAT (R517, R518). -/
def State.heartbeat (s : State) (cyc : Nat) : State :=
  let s := s.at cyc
  match s.cia.hb with
  | some t =>
    let n := s.now
    if s.nmtTalks && decide (s.cia.hbt ≠ 0) && decide (n ≥ t + s.cia.hbt * 200000) then
      (s.svcSend (0x700 + s.cia.nodeA) [s.mode.nmt]).modCia (fun c => { c with hb := some n })
    else s
  | none => s

/-- EMCY_SEND (R521, R522). -/
def State.emcySend (s : State) (cyc : Nat) : State :=
  let s := s.at cyc
  match s.cia.emq with
  | [] => s
  | e :: t =>
    let n := s.now
    let free : Bool := match s.cia.emT with | some t0 => decide (n ≥ t0 + s.cia.inhib * 20000) | none => true
    if s.nmtTalks && free then
      (s.svcSend (0x80 + s.cia.nodeA) (leBytes 2 e.err ++ [e.reg, e.code, e.src, e.cls] ++ leBytes 2 e.frame)).modCia
        (fun c => { c with emq := t, emT := some n })
    else s

/-! ### Received frames -/

/-- Is a frame a service frame of a controller, taken before any message object (R462, R500, R519)? -/
def State.isNmt (_s : State) (x : Nat) (f : CanFrm) : Bool := x == 0 && !f.ide && f.id == 0
def State.isSdo (s : State) (x : Nat) (f : CanFrm) : Bool := !f.ide && f.id == 0x600 + (if x = 0 then s.cia.nodeA else s.cia.nodeB)

/-- A frame that arrived goes to a service or to the message objects. -/
def State.deliver (s : State) (x : Nat) (f : CanFrm) : State :=
  if s.isNmt x f then (if f.dlc = 2 ∧ f.fdf = false then s.nmt (f.data.getD 0 0 % 256) (f.data.getD 1 0 % 256) else s)
  else if s.isSdo x f then (if f.dlc = 8 ∧ f.fdf = false then s.sdoRequest x f.data else s)
  else s.canDeliver x f

/-- An own frame has been sent without error; the gleaner of CANB hears a report that another object sent (R608). -/
def State.frameSent (s : State) (x cyc tdc : Nat) : State :=
  let r := s.txComplete x cyc tdc
  match r.2 with
  | some f => if x = 1 then r.1.gleanHeard f else r.1
  | none => r.1

/-- CAN_FRAME_RECEIVED on controller x, complete at `cyc`, its SOF `age` fabric cycles before. -/
def State.frameReceived (s : State) (x cyc : Nat) (f : CanFrm) (age : Nat) : State :=
  if x ≥ 2 then s
  else
    let r := s.canRx x cyc f age
    let t := match r.2 with
      | none => r.1
      | some g =>
        let t := r.1.deliver x g
        if x = 1 then t.gleanHeard g else t
    t.canFrameEnd x

end Sys2Proof.Machine
end

