-- ==== Sys2Proof/Machine/Operands.lean ====
section
/-! DEFINITION. The forms in which a command of the table acts: a slot of the running sheaf, a slot that both lockstep lanes
compute, a register write or read of the control path, a command that acts at a boundary; and how every meaning ends. -/

namespace Sys2Proof.Machine

/-- How every command ends: its raises are answered, and the identity and the queue stay. -/
def State.done (s t : State) : Host.Outcome State Fault Refusal :=
  .next { ({ t with id := s.id } : State).settle with pending := s.pending }

/-- A command to the logic island does nothing in RESET (R533, R665). -/
def State.live (s : State) (f : State → State) : State := if s.mode == .RESET then s else f s

/-- A command whose number names no unit of its kind stands for nothing that can happen. -/
def State.within (s : State) (b : Bool) (f : State → State) : State := if b then f s else s

/-- A slot command: descriptor k of the running sheaf must hold the operation; it happens at the slot's START (R75). -/
def State.onSlot (s : State) (k unit op : Nat) (f : Slot → State → State) : State :=
  match s.slot? k unit op with
  | some sl => f sl (s.at sl.start)
  | none => s

/-- A slot that both lanes compute: when they differ, the mismatch is its effect (R234). -/
def State.onLane (s : State) (k unit op : Nat) (mism : Bool) (f : Slot → State → State) : State :=
  s.onSlot k unit op (fun sl t => if mism then t.laneMismatch k sl else f sl t)

/-- A slot of one of the two CAN controllers. -/
def State.onCan (s : State) (k op : Nat) (f : Nat → Slot → State → State) : State :=
  match s.slot? k 5 op with
  | some sl => f 0 sl (s.at sl.start)
  | none => s.onSlot k 6 op (f 1)

/-- A control-path write (R40). -/
def State.ctl (s : State) (a : Nat) (v : Word) : State := s.live (fun s => s.ctlWrite a v)

/-- A control-path read (R40). -/
def State.look (s : State) (a : Nat) : State := s.live (fun s => s.ctlRead a)

/-- A command register's command in the frame that applies it: judged as its write is, then carried out (R85, R712). -/
def State.command (s : State) (a : Nat) (v : Word) : State :=
  s.live (fun s =>
    let e := s.writeErr a v
    if e ≠ 0 then s.violate 0 false a true e
    else
      let r := s.applyReg a v false true false
      if r.1 = 0 then r.2 else r.2.violate 0 false a true r.1)

/-- A register value with one field set. -/
def one (f : Fld) (x : Nat := 1) : Word := setF 0 f x

/-- A command of the CRC unit: its bit, with NB left as it is (R622). -/
def State.crcCmd (s : State) (f : Fld) : State := s.ctl Addr.CRC_CTL (setF (one Fl.CRC_CTL_NB (s.rf Addr.CRC_CTL Fl.CRC_CTL_NB)) f 1)

/-- A state command (R669, R670); RESET carries its key. -/
def State.stateCmd (s : State) (c : Nat) : State :=
  s.command Addr.PWR_MCMD (setF (one Fl.PWR_MCMD_CMD c) Fl.PWR_MCMD_KEY (if c = 0xF then 0x5A else 0))

/-- HMOVE (R69): words go from one hopper to another. -/
def State.hmove (s : State) (sl : Slot) : State :=
  let (ws, s) := s.pop sl.hin sl.n
  s.push sl.hout ws

end Sys2Proof.Machine
end

