-- ==== Sys2Proof/Machine/CmdBank.lean ====
section
/-! DEFINITION. Banks and swaps (chapter 02): the meaning of each command. -/

namespace Sys2Proof.Machine

/-- VERIFY_REQUEST (R79): the request checks the inactive bank. -/
def execVerifyRequest (s : State) : Host.Outcome State Fault Refusal :=
  s.done (s.ctl Addr.SCH_BANK (one Fl.SCH_BANK_VFYREQ))

/-- SWITCH_REQUEST (R80): the request checks the inactive bank for a bank switch. -/
def execSwitchRequest (s : State) : Host.Outcome State Fault Refusal :=
  s.done (s.ctl Addr.SCH_BANK (one Fl.SCH_BANK_SWREQ))

/-- BANK_CHECK_DONE (R80): A bank check completes and sets SWPEND, leads to LOAD_FAIL or reports VCAUSE. -/
def execBankCheckDone (s : State) : Host.Outcome State Fault Refusal :=
  s.done (s.live (fun s => s.bankCheckDone))

/-- JOINT_SWAP_REQUEST (R97): A write of GO judges and starts a joint swap. -/
def execJointSwapRequest (s : State) : Host.Outcome State Fault Refusal :=
  s.done (s.ctl Addr.SCH_JSWCTL (one Fl.SCH_JSWCTL_GO))

/-- SWAP_REQUEST (R94): A write of CMD 0x01 to a SWAP object checks the shadow set. -/
def execSwapRequest (a : Nat) (s : State) : Host.Outcome State Fault Refusal :=
  s.done (if Dbl.all.any (fun k => k.addr == a) then s.ctl a 1 else s)

end Sys2Proof.Machine
end

