-- ==== Sys2Proof/Machine/CmdCan.lean ====
section
/-! DEFINITION. CAN controllers (chapter 12): the meaning of each command. -/

namespace Sys2Proof.Machine

/-- CAN_FRAME_RECEIVED (R463): A frame received without error is delivered to a service, object or queue. -/
def execCanFrameReceived (x cyc : Nat) (f : CanFrm) (age : Nat) (s : State) : Host.Outcome State Fault Refusal :=
  s.done (s.live (fun s => s.within (x < 2) (fun s => s.frameReceived x cyc f age)))

/-- TRANSMIT_START (R469): at bus idle the controller offers its lowest pending object at SOF. -/
def execTransmitStart (x cyc : Nat) (s : State) : Host.Outcome State Fault Refusal :=
  s.done (s.live (fun s => s.within (x < 2) (fun s => s.txStart x cyc)))

/-- ARBITRATION_LOST (R468): an object that lost arbitration returns to PENDING or becomes IDLE. -/
def execArbitrationLost (x cyc : Nat) (s : State) : Host.Outcome State Fault Refusal :=
  s.done (s.live (fun s => s.within (x < 2) (fun s => s.arbLost x cyc)))

/-- TRANSMIT_COMPLETE (R468): A frame ending without error makes its object IDLE with SENT or LATE. -/
def execTransmitComplete (x cyc tdc : Nat) (s : State) : Host.Outcome State Fault Refusal :=
  s.done (s.live (fun s => s.within (x < 2) (fun s => s.frameSent x cyc tdc)))

/-- ALONE (R482): ALN consecutive unacknowledged transmissions set ALONE. -/
def execAlone (x : Nat) (s : State) : Host.Outcome State Fault Refusal :=
  s.done (s.live (fun s => s.within (x < 2) (fun s => s.canAlone x)))

/-- BUS_ERROR (R480): A bus error updates the error counters and may change the error state. -/
def execBusError (x cyc : Nat) (e : BusErr) (s : State) : Host.Outcome State Fault Refusal :=
  s.done (s.live (fun s => s.within (x < 2) (fun s => s.busError x cyc e)))

/-- RELEASE_INSTANT_DUE (R468): A HELD object whose release instant is due becomes PENDING. -/
def execReleaseInstantDue (x k cyc : Nat) (s : State) : Host.Outcome State Fault Refusal :=
  s.done (s.live (fun s => s.within (x < 2) (fun s => s.releaseDue x k cyc)))

/-- REQ (R471): the request sends the selected control-path transmit object. -/
def execReq (x : Nat) (s : State) : Host.Outcome State Fault Refusal :=
  s.done (s.within (x < 2) (fun s => s.ctl (Addr.CAN_TXCTL x) (one Fl.CAN_TXCTL_REQ)))

/-- CANCEL (R472): the request cancels the selected transmit object. -/
def execCancel (x : Nat) (s : State) : Host.Outcome State Fault Refusal :=
  s.done (s.within (x < 2) (fun s => s.ctl (Addr.CAN_TXCTL x) (one Fl.CAN_TXCTL_CANCEL)))

/-- BORQ (R481): the command starts bus-off recovery. -/
def execBorq (x : Nat) (s : State) : Host.Outcome State Fault Refusal :=
  s.done (s.within (x < 2) (fun s => s.ctl (Addr.CAN_CMD x) (one Fl.CAN_CMD_BORQ)))

/-- BUS_OFF_RECOVERY_DONE (R481): 128 occurrences of 11 recessive bits end bus-off recovery. -/
def execBusOffRecoveryDone (x : Nat) (s : State) : Host.Outcome State Fault Refusal :=
  s.done (s.live (fun s => s.within (x < 2) (fun s => s.boDone x)))

/-- INTEGRATION_DONE (R458): after 11 recessive bits the controller takes part in the bus. -/
def execIntegrationDone (x : Nat) (s : State) : Host.Outcome State Fault Refusal :=
  s.done (s.live (fun s => s.within (x < 2) (fun s => s.integDone x)))

/-- SLEEP (R483): the command requests sleep outside RUN. -/
def execSleep (x : Nat) (s : State) : Host.Outcome State Fault Refusal :=
  s.done (s.within (x < 2) (fun s => s.ctl (Addr.CAN_CMD x) (one Fl.CAN_CMD_SLEEP)))

/-- SLEEP_ENTRY (R483): at the next bus idle the controller enters sleep. -/
def execSleepEntry (x : Nat) (s : State) : Host.Outcome State Fault Refusal :=
  s.done (s.live (fun s => s.within (x < 2) (fun s => s.sleepEntry x)))

/-- WAKE (R484): the command leaves sleep. -/
def execWake (x : Nat) (s : State) : Host.Outcome State Fault Refusal :=
  s.done (s.within (x < 2) (fun s => s.ctl (Addr.CAN_CMD x) (one Fl.CAN_CMD_WAKE)))

/-- WAKE_EVENT (R483): A dominant level or matching frame wakes the controller. -/
def execWakeEvent (x : Nat) (s : State) : Host.Outcome State Fault Refusal :=
  s.done (s.live (fun s => s.within (x < 2) (fun s => s.wakeLevel x)))

/-- LOCK_TIMEOUT (R467): A buffer lock held for 1.0 ms is released and sets LOCKTO. -/
def execLockTimeout (x cyc : Nat) (s : State) : Host.Outcome State Fault Refusal :=
  s.done (s.live (fun s => s.within (x < 2) (fun s => s.lockTimeout x cyc)))

/-- RX_WINDOW_READ (R467): A read of CANx_RXD0 locks the main buffer, and a read of the last word releases it. -/
def execRxWindowRead (x w : Nat) (s : State) : Host.Outcome State Fault Refusal :=
  s.done (s.within (x < 2 && w < 19) (fun s => s.look (Addr.CAN_RXD x w)))

/-- RX_SELECT (R467): A write of CANx_RXSEL selects an object and releases a held lock. -/
def execRxSelect (x k : Nat) (s : State) : Host.Outcome State Fault Refusal :=
  s.done (s.within (x < 2) (fun s => s.ctl (Addr.CAN_RXSEL x) (wN k)))

/-- HP_BUFFER_READ (R466): A read of CANx_HPD1 clears FULL. -/
def execHpBufferRead (x : Nat) (s : State) : Host.Outcome State Fault Refusal :=
  s.done (s.within (x < 2) (fun s => s.look (Addr.CAN_HPD x 1)))

end Sys2Proof.Machine
end

