-- ==== Sys2Proof/Machine/CmdCrc.lean ====
section
/-! DEFINITION. CRC unit (chapter 16): the meaning of each command. -/

namespace Sys2Proof.Machine

/-- CRC_PRESET (R621): A write of PRESET loads the parameters of a preset CRC. -/
def execCrcPreset (p : Nat) (s : State) : Host.Outcome State Fault Refusal :=
  s.done (s.ctl Addr.CRC_CFG (one Fl.CRC_CFG_PRESET p))

/-- CRC_START (R622): the command starts a memory CRC job. -/
def execCrcStart (s : State) : Host.Outcome State Fault Refusal :=
  s.done (s.crcCmd Fl.CRC_CTL_START)

/-- CRC_OPEN (R622): the command opens a feed job. -/
def execCrcOpen (s : State) : Host.Outcome State Fault Refusal :=
  s.done (s.crcCmd Fl.CRC_CTL_OPEN)

/-- CRC_DATA (R622): A write of CRC_DATA feeds its low NB bytes to the open feed job. -/
def execCrcData (v : Word) (s : State) : Host.Outcome State Fault Refusal :=
  s.done (s.ctl Addr.CRC_DATA v)

/-- CRC_CLOSE (R622): the command ends the feed job and latches the result. -/
def execCrcClose (s : State) : Host.Outcome State Fault Refusal :=
  s.done (s.crcCmd Fl.CRC_CTL_CLOSE)

/-- CRC_ABORT (R622): the command ends any job without a result. -/
def execCrcAbort (s : State) : Host.Outcome State Fault Refusal :=
  s.done (s.crcCmd Fl.CRC_CTL_ABORT)

/-- CRC_JOB_DONE (R622): A memory job completes, sets DONE and latches CRC_RES. -/
def execCrcJobDone (merr : Bool) (s : State) : Host.Outcome State Fault Refusal :=
  s.done (s.live (fun s => s.crcJobDone merr))

end Sys2Proof.Machine
end

