-- ==== Sys2Proof/Machine/CmdDoors.lean ====
section
/-! DEFINITION. Doors (chapter 06): the meaning of each command. -/

namespace Sys2Proof.Machine

/-- OPEN (R271): the door command opens the door when permitted. -/
def execDoorOpen (d : Nat) (s : State) : Host.Outcome State Fault Refusal :=
  s.done (s.within (1 ≤ d && d ≤ 4) (fun s => s.command (Addr.DOR_CMD d) (one Fl.DOR_CMD_CMD 1)))

/-- CLOSE (R271): the door command closes the door. -/
def execDoorClose (d : Nat) (s : State) : Host.Outcome State Fault Refusal :=
  s.done (s.within (1 ≤ d && d ≤ 4) (fun s => s.command (Addr.DOR_CMD d) (one Fl.DOR_CMD_CMD 2)))

/-- NUDGE (R271): the door command closes at reduced caps, ignoring the reversing input. -/
def execDoorNudge (d : Nat) (s : State) : Host.Outcome State Fault Refusal :=
  s.done (s.within (1 ≤ d && d ≤ 4) (fun s => s.command (Addr.DOR_CMD d) (one Fl.DOR_CMD_CMD 3)))

/-- STOP (R271): the door command stops the door where it stands. -/
def execDoorStop (d : Nat) (s : State) : Host.Outcome State Fault Refusal :=
  s.done (s.within (1 ≤ d && d ≤ 4) (fun s => s.command (Addr.DOR_CMD d) (one Fl.DOR_CMD_CMD 4)))

/-- FRESET (R271): the door command leaves FAULT when the door is referenced. -/
def execDoorFreset (d : Nat) (s : State) : Host.Outcome State Fault Refusal :=
  s.done (s.within (1 ≤ d && d ≤ 4) (fun s => s.command (Addr.DOR_CMD d) (one Fl.DOR_CMD_CMD 5)))

/-- HOLD_TIMER_EXPIRY (R271): the hold timer of an open door expires and the door closes. -/
def execHoldTimerExpiry (d cyc : Nat) (s : State) : Host.Outcome State Fault Refusal :=
  s.done (s.live (fun s => s.within (1 ≤ d && d ≤ 4) (fun s => s.holdTimerExpiry d cyc)))

/-- TLOCK_EXPIRY (R271): TLOCK elapses in CLOSED without the lock input and sets LOCKTO. -/
def execTlockExpiry (d cyc : Nat) (s : State) : Host.Outcome State Fault Refusal :=
  s.done (s.live (fun s => s.within (1 ≤ d && d ≤ 4) (fun s => s.tlockExpiry d cyc)))

/-- TMOVE_EXCEEDED (R268): A door move longer than TMOVE sends the door to FAULT. -/
def execTmoveExceeded (d cyc : Nat) (s : State) : Host.Outcome State Fault Refusal :=
  s.done (s.live (fun s => s.within (1 ≤ d && d ≤ 4) (fun s => s.tmoveExceeded d cyc)))

end Sys2Proof.Machine
end

