-- ==== Sys2Proof/Machine/CmdEnergy.lean ====
section
/-! DEFINITION. Energy metering (chapter 11): the meaning of each command. -/

namespace Sys2Proof.Machine

/-- CLR (R443): the command clears the energy registers outside RUN. -/
def execClr (s : State) : Host.Outcome State Fault Refusal :=
  s.done (s.command Addr.NRG_CMD (one Fl.NRG_CMD_CLR))

/-- SNAP (R441): the command latches the published energy registers into the snapshot. -/
def execSnap (s : State) : Host.Outcome State Fault Refusal :=
  s.done (s.ctl Addr.NRG_SNAPCTL (one Fl.NRG_SNAPCTL_SNAP))

/-- MODULATOR_STUCK (R427): A data pad unchanged for 1,024 SD_CLK periods sets STK. -/
def execModulatorStuck (c : Nat) (s : State) : Host.Outcome State Fault Refusal :=
  s.done (s.live (fun s => s.modulatorStuck c))

/-- FORCED_BOUNDARY (R432): no boundary for 1.4 half periods forces one and sets NOSYNC. -/
def execForcedBoundary (s : State) : Host.Outcome State Fault Refusal :=
  s.done (s.live (fun s => s.forcedBoundary))

/-- CHECKPOINT (R444): the energy unit writes a checkpoint to the loft every 900 s. -/
def execCheckpoint (s : State) : Host.Outcome State Fault Refusal :=
  s.done (s.live (fun s => s.checkpoint))

/-- PULSE_START (R447): A pending energy pulse starts at T_EMT. -/
def execPulseStart (s : State) : Host.Outcome State Fault Refusal :=
  s.done (s.live (fun s => s.pulseStart))

/-- PULSE_HIGH_END (R447): NRG_PLS goes low after W frames high. -/
def execPulseHighEnd (s : State) : Host.Outcome State Fault Refusal :=
  s.done (s.live (fun s => s.pulseHighEnd))

/-- PULSE_LOW_END (R447): the low time of W frames ends and a further pulse may start. -/
def execPulseLowEnd (s : State) : Host.Outcome State Fault Refusal :=
  s.done (s.live (fun s => s.pulseLowEnd))

end Sys2Proof.Machine
end

