-- ==== Sys2Proof/Machine/CmdFaults.lean ====
section
/-! DEFINITION. Faults and the gleaner (chapter 16): the meaning of each command. -/

namespace Sys2Proof.Machine

/-- SDLY_EXPIRED (R595): SDLY after a stop-class raise opens the selected pairs. -/
def execSdlyExpired (cyc : Nat) (s : State) : Host.Outcome State Fault Refusal :=
  s.done (s.live (fun s => (s.at cyc).handling))

/-- HANDLING_END (R601): A stop or trip handling ends at standstill or when every channel is settled. -/
def execHandlingEnd (cyc : Nat) (s : State) : Host.Outcome State Fault Refusal :=
  s.done (s.live (fun s => (s.at cyc).handling))

/-- REARM (R600): the command clears the fault capture registers. -/
def execRearm (s : State) : Host.Outcome State Fault Refusal :=
  s.done (s.ctl Addr.FLT_CMD (one Fl.FLT_CMD_REARM))

/-- ACK (R604): the command removes listed faults whose condition no longer holds. -/
def execAck (s : State) : Host.Outcome State Fault Refusal :=
  s.done (s.ctl Addr.FLT_CMD (one Fl.FLT_CMD_ACK))

/-- HOLD_OFF_END (R610): the gleaner's hold-off ends and the report is staged. -/
def execHoldOffEnd (k : Nat) (s : State) : Host.Outcome State Fault Refusal :=
  s.done (s.live (fun s => s.holdOffEnd k))

/-- WINDOW_END (R609): A coalescing window ends, writing a count record and freeing the entry. -/
def execWindowEnd (k cyc : Nat) (s : State) : Host.Outcome State Fault Refusal :=
  s.done (s.live (fun s => s.windowEnd k cyc))

/-- REPORT_DROP (R611): A report still pending GWIN after its window is removed and counted. -/
def execReportDrop (k cyc : Nat) (s : State) : Host.Outcome State Fault Refusal :=
  s.done (s.live (fun s => s.reportDrop k cyc))

end Sys2Proof.Machine
end

