-- ==== Sys2Proof/Machine/CmdFeedback.lean ====
section
/-! DEFINITION. Position feedback (chapter 03): the meaning of each command. -/

namespace Sys2Proof.Machine

/-- QUADRATURE_EDGE (R116, R117): levels on A and B with the number of samples that showed them; an accepted transition counts the
channel up or down. -/
def execQuadratureEdge (n : Nat) (a b : Pad) (cyc : Nat) (s : State) : Host.Outcome State Fault Refusal :=
  s.done (s.live (fun s => s.within (n < 8) (fun s => s.quadratureEdge n a b cyc)))

/-- HALL_TRANSITION (R116, R119): A hall code change counts along or against the sequence or sets an error. -/
def execHallTransition (n : Nat) (h : HallPads) (cyc : Nat) (s : State) : Host.Outcome State Fault Refusal :=
  s.done (s.live (fun s => s.within (n < 8) (fun s => s.hallTransition n h cyc)))

/-- QUALIFIED_INDEX (R116, R129, R131): a level on Z; a qualified index is judged against the window and may load the counter. -/
def execQualifiedIndex (n : Nat) (z : ZPad) (s : State) : Host.Outcome State Fault Refusal :=
  s.done (s.live (fun s => s.within (n < 8) (fun s => s.qualifiedIndex n z)))

/-- SERIAL_WORD (R125): A completed serial word is checked and used or discarded. -/
def execSerialWord (n : Nat) (inTime : Bool) (data : Nat) (eb wb : Bool) (crc cyc : Nat) (s : State) : Host.Outcome State Fault Refusal :=
  s.done (s.live (fun s => s.within (n < 8) (fun s => s.serialWord n inTime data eb wb crc cyc)))

/-- SERIAL_TIMEOUT (R126): TOUT consecutive missing words set TOUT and freeze position and speed. -/
def execSerialTimeout (n : Nat) (s : State) : Host.Outcome State Fault Refusal :=
  s.done (s.live (fun s => s.within (n < 8) (fun s => s.serialTimeout n)))

/-- STANDSTILL (R142): TSTILL without an edge returns the speed estimator to STILL. -/
def execStandstill (n : Nat) (s : State) : Host.Outcome State Fault Refusal :=
  s.done (s.live (fun s => s.within (n < 8) (fun s => s.standstill n)))

/-- POS_SET (R155): the command sets the counter, or the serial offset, to the preset. -/
def execPosSet (n : Nat) (s : State) : Host.Outcome State Fault Refusal :=
  s.done (s.within (n < 8) (fun s => s.command (Addr.FB_CMD n) (one Fl.FB_CMD_POSSET)))

/-- ZREF_CLR (R155): the command drops the index reference. -/
def execZrefClr (n : Nat) (s : State) : Host.Outcome State Fault Refusal :=
  s.done (s.within (n < 8) (fun s => s.command (Addr.FB_CMD n) (one Fl.FB_CMD_ZREFCLR)))

/-- ZARM (R130): the command arms the one-time index reset. -/
def execZarm (n : Nat) (s : State) : Host.Outcome State Fault Refusal :=
  s.done (s.within (n < 8) (fun s => s.command (Addr.FB_CMD n) (one Fl.FB_CMD_ZARM)))

/-- POSITION_SNAPSHOT_READ (R139): A read of FBn_POS snapshots the channel's report registers of one frame. -/
def execPositionSnapshotRead (n : Nat) (s : State) : Host.Outcome State Fault Refusal :=
  s.done (s.within (n < 8) (fun s => s.look (Addr.FB_POS n)))

end Sys2Proof.Machine
end

