-- ==== Sys2Proof/Machine/CmdField.lean ====
section
/-! DEFINITION. Field inputs and outputs (chapter 10): the meaning of each command. -/

namespace Sys2Proof.Machine

/-- INPUT_CHANGE (R392): A field-input level change reaches the winnow filter and may start a run. -/
def execInputChange (k : Nat) (b v : Bool) (cyc : Nat) (s : State) : Host.Outcome State Fault Refusal :=
  s.done (s.inputChange k b v cyc)

/-- EDGE_ACCEPTED (R392): A new level held for the filter time is accepted and one edge record written. -/
def execEdgeAccepted (k : Nat) (b : Bool) (cyc : Nat) (s : State) : Host.Outcome State Fault Refusal :=
  s.done (s.edgeAccepted k b cyc)

/-- RUN_ABANDONED (R392): the accepted level held for the filter time abandons the run. -/
def execRunAbandoned (k : Nat) (b : Bool) (cyc : Nat) (s : State) : Host.Outcome State Fault Refusal :=
  s.done (s.runAbandoned k b cyc)

/-- STALE_INPUT (R399): an input without edges for its stale time is flagged stale. -/
def execStaleInput (k cyc : Nat) (s : State) : Host.Outcome State Fault Refusal :=
  s.done (s.live (fun s => s.staleInput k cyc))

/-- STALE_FLAG_CLEAR (R399): clearing a stale flag restarts that input's stale timer. -/
def execStaleFlagClear (m : Nat) (s : State) : Host.Outcome State Fault Refusal :=
  s.done (s.ctl Addr.FIO_STALE (wN m))

/-- TAP_DISCREPANCY (R401): tap stages differing for DISCT set DISC and raise 0xA3. -/
def execTapDiscrepancy (j cyc : Nat) (s : State) : Host.Outcome State Fault Refusal :=
  s.done (s.live (fun s => s.tapDisc j cyc))

/-- READBACK_DISAGREEMENT (R408): A general output readback differing for ORBT sets FAULT. -/
def execReadbackDisagreement (k : Nat) (s : State) : Host.Outcome State Fault Refusal :=
  s.done (s.live (fun s => s.readbackDis k))

/-- SAFETY_CHANNEL_STUCK (R413): A non-conducting safety channel reading 1 for ORBT trips and clears the arm latches. -/
def execSafetyChannelStuck (k : Nat) (s : State) : Host.Outcome State Fault Refusal :=
  s.done (s.live (fun s => s.chanStuck k))

/-- SAFETY_CHANNEL_FAILED (R413): A conducting safety channel reading 0 for ORBT raises 0xAA and clears the latches. -/
def execSafetyChannelFailed (k : Nat) (s : State) : Host.Outcome State Fault Refusal :=
  s.done (s.live (fun s => s.chanFailed k))

/-- OUTPUT_OVERLOAD (R407): an output's own overload protection switches it off. -/
def execOutputOverload (k : Nat) (s : State) : Host.Outcome State Fault Refusal :=
  s.done (s.overload k)

/-- SILENT_LOGIC (R414): no heartbeat for SILN frames puts the field island in the silent-logic safe state. -/
def execSilentLogic (cyc : Nat) (s : State) : Host.Outcome State Fault Refusal :=
  s.done (s.silentLogic cyc)

/-- FIELD_START (R415): FIELD_24 first coming up starts the field island in the safe state. -/
def execFieldStart (s : State) : Host.Outcome State Fault Refusal :=
  s.done (s.fieldStart)

/-- FIELD_24_WARNING (R416): FIELD_24 below 19.2 V sets UVW. -/
def execField24Warning (s : State) : Host.Outcome State Fault Refusal :=
  s.done (s.f24Warn)

/-- FIELD_24_FAULT (R416): FIELD_24 below 16.0 V or above 33.0 V sets UVF and opens the outputs. -/
def execField24Fault (s : State) : Host.Outcome State Fault Refusal :=
  s.done (s.f24Fault)

/-- FIELD_24_RECOVERED (R416): FIELD_24 in range for 100 ms clears UVW and UVF and restarts the filters. -/
def execField24Recovered (cyc : Nat) (s : State) : Host.Outcome State Fault Refusal :=
  s.done (s.f24Rec cyc)

/-- FIELD_LOST (R418): A 50 µs gap in field-island status pulses sets FLOST. -/
def execFieldLost (s : State) : Host.Outcome State Fault Refusal :=
  s.done (s.fieldLost)

/-- FIELD_PULSES_RESUMED (R418): resumed status pulses clear FLOST and resend frame period and safe levels. -/
def execFieldPulsesResumed (cyc : Nat) (s : State) : Host.Outcome State Fault Refusal :=
  s.done (s.fieldBack cyc)

/-- ARMA (R412): the arm command for SAFE_A sets its latches when all conditions hold. -/
def execArma (s : State) : Host.Outcome State Fault Refusal :=
  s.done (s.command Addr.FIO_SCMD 1)

/-- ARMB (R412): the arm command for SAFE_B sets its latches when all conditions hold. -/
def execArmb (s : State) : Host.Outcome State Fault Refusal :=
  s.done (s.command Addr.FIO_SCMD 2)

/-- EDGE_RECORD_READ (R396): A read of FIO_EFLg removes the oldest record of a control-path group. -/
def execEdgeRecordRead (g : Nat) (s : State) : Host.Outcome State Fault Refusal :=
  s.done (s.within (g < 4) (fun s => s.look (Addr.FIO_EFL g)))

end Sys2Proof.Machine
end

