-- ==== Sys2Proof/Machine/CmdFrame.lean ====
section
/-! DEFINITION. Frame commands (chapter 02): the meaning of each command. -/

namespace Sys2Proof.Machine

/-- FRAME_BOUNDARY (R98): at each frame boundary the module discards hopper residue, applies staging, switches banks, performs joint and single swaps, counts the frame and latches INGEST. -/
def execFrameBoundary (fi : FrameIn) (s : State) : Host.Outcome State Fault Refusal :=
  s.done (s.frameBoundary fi)

/-- RELEASE (R57): in cycle T_EMT the module releases the emit shadow to all outputs in one cycle. -/
def execRelease (s : State) : Host.Outcome State Fault Refusal :=
  s.done (s.release)

/-- FRAME_COMMIT (R58): in cycle T_DRN the frame's stores and status updates become visible, provided every EMIT slot completed. -/
def execFrameCommit (s : State) : Host.Outcome State Fault Refusal :=
  s.done (s.frameCommit)

/-- ACCUMULATION_INTERVAL_END (R437): at the end of an accumulation interval the energy unit publishes its registers and powers. -/
def execAccumulationIntervalEnd (s : State) : Host.Outcome State Fault Refusal :=
  s.done (s.live State.intervalEnd)

/-- HOPPER_CHECK (R63): in cycle T_END every hopper is checked for residue and emptied. -/
def execHopperCheck (es : List EccEv) (s : State) : Host.Outcome State Fault Refusal :=
  s.done (s.hopperCheck es)

/-- FRAME_OVERRUN (R76): A slot still busy at a following start, phase boundary or T_END aborts the frame's slots and suppresses release and commit as due. -/
def execFrameOverrun (k cyc : Nat) (s : State) : Host.Outcome State Fault Refusal :=
  s.done (s.live (fun s => s.overrun k cyc))

/-- BACKGROUND_CRC_PASS (R77): A background CRC-32C pass over the active bank completes. -/
def execBackgroundCrcPass (s : State) : Host.Outcome State Fault Refusal :=
  s.done (s.live State.crcPass)

/-- HMOVE (R69): the slot moves n words from one hopper to another. -/
def execHmove (k : Nat) (s : State) : Host.Outcome State Fault Refusal :=
  s.done (s.onSlot k 1 1 (fun sl s => s.hmove sl))

/-- IN_LATCH (R394): the slot delivers the 32 filtered input levels accepted before cycle 0. -/
def execInLatch (k : Nat) (s : State) : Host.Outcome State Fault Refusal :=
  s.done (s.onSlot k 2 1 (fun sl s => s.inLatch sl))

end Sys2Proof.Machine
end

