-- ==== Sys2Proof/Machine/CmdGroup.lean ====
section
/-! DEFINITION. Group dispatch (chapter 08): the meaning of each command. -/

namespace Sys2Proof.Machine

/-- HALL_CALL_WORD (R332): A received hall-call word is announced, queued or dropped. -/
def execHallCallWord (w : Nat) (s : State) : Host.Outcome State Fault Refusal :=
  s.done (s.ctl Addr.BID_CALLIN (wN w))

/-- DUPCLR (R345): the command clears DUPCAR. -/
def execDupclr (s : State) : Host.Outcome State Fault Refusal :=
  s.done (s.command Addr.BID_CMD (one Fl.BID_CMD_DUPCLR))

/-- ANNOUNCE (R325): A taken ANNOUNCE frame opens or reopens an open-call entry. -/
def execAnnounce (f : CanFrm) (own : Bool) (s : State) : Host.Outcome State Fault Refusal :=
  s.done (s.live (fun s => s.takeRow f own))

/-- TICK (R475): A completed TICK makes held bids of its call pending. -/
def execTick (f : CanFrm) (own : Bool) (s : State) : Host.Outcome State Fault Refusal :=
  s.done (s.live (fun s => s.takeRow f own))

/-- BID (R325): A taken bid awards an open entry or reallocates under the re-bid rule. -/
def execBid (f : CanFrm) (own : Bool) (s : State) : Host.Outcome State Fault Refusal :=
  s.done (s.live (fun s => s.takeRow f own))

/-- HOLD_FRAME (R325): A taken HOLD frame updates or creates an awarded entry. -/
def execHoldFrame (f : CanFrm) (own : Bool) (s : State) : Host.Outcome State Fault Refusal :=
  s.done (s.live (fun s => s.takeRow f own))

/-- CLOSE_FRAME (R325): A taken CLOSE frame frees its entry. -/
def execCloseFrame (f : CanFrm) (own : Bool) (s : State) : Host.Outcome State Fault Refusal :=
  s.done (s.live (fun s => s.takeRow f own))

/-- STATUS (R342): A taken STATUS frame marks its car present. -/
def execStatus (f : CanFrm) (own : Bool) (s : State) : Host.Outcome State Fault Refusal :=
  s.done (s.live (fun s => s.takeRow f own))

/-- STATUS_PERIOD (R342): every TSTAT a bidding module sends STATUS. -/
def execStatusPeriod (s : State) : Host.Outcome State Fault Refusal :=
  s.done (s.live (fun s => s.statusDue))

/-- HOLD_PUBLICATION (R338): A holder publishes HOLD at least every 50 TSTAT. -/
def execHoldPublication (k : Nat) (s : State) : Host.Outcome State Fault Refusal :=
  s.done (s.live (fun s => s.holdDue k))

/-- CAR_ABSENT (R342): A car unheard for ABSN TSTAT is absent, and its entries are re-announced. -/
def execCarAbsent (n : Nat) (s : State) : Host.Outcome State Fault Refusal :=
  s.done (s.live (fun s => s.carAbsent n))

end Sys2Proof.Machine
end

