-- ==== Sys2Proof/Machine/CmdGuard.lean ====
section
/-! DEFINITION. Headland guard (chapter 09): the meaning of each command. -/

namespace Sys2Proof.Machine

/-- TRIPCLR (R384): the command clears the guard's trip latch when conditions hold. -/
def execTripclr (s : State) : Host.Outcome State Fault Refusal :=
  s.done (s.command Addr.HDL_CMD (one Fl.HDL_CMD_TRIPCLR))

/-- GUARD_ARMED (R356): sixteen valid frames inside the terminals arm the guard. -/
def execGuardArmed (s : State) : Host.Outcome State Fault Refusal :=
  s.done (s.live (fun s => s.hdlArmed))

/-- OVERSPEED (R368): speed above the limit for OVN frames is a guard stop or trip. -/
def execOverspeed (s : State) : Host.Outcome State Fault Refusal :=
  s.done (s.live (fun s => s.overspeed))

/-- ESCALATION_TRIP (R361): A gap shrinking for SHN frames during a guard stop trips. -/
def execEscalationTrip (src : Nat) (s : State) : Host.Outcome State Fault Refusal :=
  s.done (s.live (fun s => s.escTrip src))

/-- NEIGHBOUR_RECORD_MISSING (R375): missing neighbour records for IMGMISS or IMGTRIP frames stop or trip. -/
def execNeighbourRecordMissing (s : State) : Host.Outcome State Fault Refusal :=
  s.done (s.live (fun s => s.shMissing))

/-- ZONE_DISAGREEMENT (R378): zone input and position disagreeing for ZDN frames set ZDIS. -/
def execZoneDisagreement (s : State) : Host.Outcome State Fault Refusal :=
  s.done (s.live (fun s => s.zoneDis))

end Sys2Proof.Machine
end

