-- ==== Sys2Proof/Machine/CmdHost.lean ====
section
/-! DEFINITION. Host link (chapter 14): the meaning of each command. -/

namespace Sys2Proof.Machine

/-- EPOCH (R541): A broadcast EPOCH latches the epoch and may set the wall time. -/
def execEpoch (r : HReq) (s : State) : Host.Outcome State Fault Refusal :=
  s.done (s.live (fun s => s.hostEpoch r))

/-- IDENT (R538): the request returns unit presence, serial number and frame counter. -/
def execIdent (r : HReq) (s : State) : Host.Outcome State Fault Refusal :=
  s.done (s.live (fun s => s.hostReq 0x02 r))

/-- OBJ_READ (R546): the request reads an object-dictionary entry or index. -/
def execObjRead (r : HReq) (s : State) : Host.Outcome State Fault Refusal :=
  s.done (s.live (fun s => s.hostReq 0x10 r))

/-- OBJ_WRITE (R546): the request writes an object-dictionary entry or index. -/
def execObjWrite (r : HReq) (s : State) : Host.Outcome State Fault Refusal :=
  s.done (s.live (fun s => s.hostReq 0x11 r))

/-- REG_READ (R547): the request reads consecutive words from one committed frame. -/
def execRegRead (r : HReq) (s : State) : Host.Outcome State Fault Refusal :=
  s.done (s.live (fun s => s.hostReq 0x20 r))

/-- REG_WRITE (R547): the request writes consecutive words, staging RWF words as one batch. -/
def execRegWrite (r : HReq) (s : State) : Host.Outcome State Fault Refusal :=
  s.done (s.live (fun s => s.hostReq 0x21 r))

/-- BULK_OPEN (R549): the request opens a download session on the inactive bank. -/
def execBulkOpen (r : HReq) (s : State) : Host.Outcome State Fault Refusal :=
  s.done (s.live (fun s => s.hostReq 0x30 r))

/-- BULK_DATA (R549): the request writes data into the inactive bank. -/
def execBulkData (r : HReq) (s : State) : Host.Outcome State Fault Refusal :=
  s.done (s.live (fun s => s.hostReq 0x31 r))

/-- BULK_CLOSE (R549): the request closes the session and returns the computed and stored CRCs. -/
def execBulkClose (r : HReq) (s : State) : Host.Outcome State Fault Refusal :=
  s.done (s.live (fun s => s.hostReq 0x32 r))

/-- REC_READ (R550): the request returns up to 31 records from a sequence number. -/
def execRecRead (r : HReq) (s : State) : Host.Outcome State Fault Refusal :=
  s.done (s.live (fun s => s.hostReq 0x33 r))

/-- FETCH (R545): the request returns the held result of a tag. -/
def execFetch (r : HReq) (s : State) : Host.Outcome State Fault Refusal :=
  s.done (s.live (fun s => s.hostFetch r))

/-- HOST_FRAME_ERROR (R536): A frame with framing, gap, length or CRC error is discarded and counted. -/
def execHostFrameError (e : HErr) (s : State) : Host.Outcome State Fault Refusal :=
  s.done (s.live (fun s => s.hostError e))

/-- RESPONSE (R540): after the turnaround time the module sends the result or PENDING. -/
def execResponse (cyc : Nat) (coll : Bool) (s : State) : Host.Outcome State Fault Refusal :=
  s.done (s.live (fun s => s.respondHost cyc coll))

/-- EPOCH_LOST (R543): no valid EPOCH in time sets EPLOST. -/
def execEpochLost (cyc : Nat) (s : State) : Host.Outcome State Fault Refusal :=
  s.done (s.live (fun s => s.epochLost cyc))

/-- BULK_SESSION_TIMEOUT (R549): no BULK_DATA for 10 s aborts the session. -/
def execBulkSessionTimeout (cyc : Nat) (s : State) : Host.Outcome State Fault Refusal :=
  s.done (s.live (fun s => s.bulkTimeout cyc))

end Sys2Proof.Machine
end

