-- ==== Sys2Proof/Machine/CmdMotion.lean ====
section
/-! DEFINITION. Motion and drives (chapters 04, 06): the meaning of each command. -/

namespace Sys2Proof.Machine

/-- MOVE (R170): the command starts or retargets a jerk-limited move to AXn_TGT. -/
def execAxMove (n : Nat) (s : State) : Host.Outcome State Fault Refusal :=
  s.done (s.within (n < 6) (fun s => s.command (Addr.AX_PCMD n) (one Fl.AX_PCMD_CMD 1)))

/-- TABLE (R169): the command runs the active segment table from the commanded position. -/
def execAxTable (n : Nat) (s : State) : Host.Outcome State Fault Refusal :=
  s.done (s.within (n < 6) (fun s => s.command (Addr.AX_PCMD n) (one Fl.AX_PCMD_CMD 2)))

/-- HALT (R182): the command stops the axis under its run values. -/
def execAxHalt (n : Nat) (s : State) : Host.Outcome State Fault Refusal :=
  s.done (s.within (n < 6) (fun s => s.command (Addr.AX_PCMD n) (one Fl.AX_PCMD_CMD 3)))

/-- ABORT (R182): the command stops the axis immediately. -/
def execAxAbort (n : Nat) (s : State) : Host.Outcome State Fault Refusal :=
  s.done (s.within (n < 6) (fun s => s.command (Addr.AX_PCMD n) (one Fl.AX_PCMD_CMD 4)))

/-- HOME (R188): the command starts the homing sequence when its conditions hold. -/
def execAxHome (n : Nat) (s : State) : Host.Outcome State Fault Refusal :=
  s.done (s.within (n < 6) (fun s => s.command (Addr.AX_PCMD n) (one Fl.AX_PCMD_CMD 5)))

/-- CHAT_CLR (R192): the command clears latched switch chatter. -/
def execChatClr (n : Nat) (s : State) : Host.Outcome State Fault Refusal :=
  s.done (s.within (n < 6) (fun s => s.command (Addr.AX_PCMD n) (one Fl.AX_PCMD_CMD 6)))

/-- POSSET (R163): the command sets a step-only axis's commanded position and step base to HPOS. -/
def execPosset (n : Nat) (s : State) : Host.Outcome State Fault Refusal :=
  s.done (s.within (n < 6) (fun s => s.command (Addr.AX_PCMD n) (one Fl.AX_PCMD_CMD 7)))

/-- DWELL_ELAPSED (R172): the AX0 dwell ends and a new run to the latest target starts. -/
def execDwellElapsed (n : Nat) (s : State) : Host.Outcome State Fault Refusal :=
  s.done (s.live (fun s => s.within (n < 6) (fun s => s.dwellElapsed n)))

/-- HOMING_TIMEOUT (R191): HTIME exceeded makes homing fail with cause 0x4. -/
def execHomingTimeout (n cyc : Nat) (s : State) : Host.Outcome State Fault Refusal :=
  s.done (s.live (fun s => s.within (n < 6) (fun s => (s.at cyc).homingTimeout n)))

/-- CHATTER_LATCH (R192): more than CHN switch changes within CHW latch the chatter bit. -/
def execChatterLatch (n k : Nat) (s : State) : Host.Outcome State Fault Refusal :=
  s.done (s.live (fun s => s.within (n < 6) (fun s => s.chatterLatch n k)))

/-- CURRENT_REDUCTION (R193): after IREDT at standstill an internal stepper reduces its coil current. -/
def execCurrentReduction (n cyc : Nat) (s : State) : Host.Outcome State Fault Refusal :=
  s.done (s.live (fun s => s.within (n < 6) (fun s => (s.at cyc).currentReduction n)))

/-- STEP_ISSUED (R175): A carry or borrow of the phase accumulator issues one step. -/
def execStepIssued (n cyc : Nat) (s : State) : Host.Outcome State Fault Refusal :=
  s.done (s.live (fun s => s.within (n < 6) (fun s => s.stepIssued n cyc)))

/-- OVERCURRENT (R245): A current sample above IOC turns the axis's bridge off within 2 cycles. -/
def execOvercurrent (n uv cyc : Nat) (s : State) : Host.Outcome State Fault Refusal :=
  s.done (s.live (fun s => s.within (n < 6) (fun s => s.overcurrent n uv cyc)))

/-- OC_CLEAR (R245): clearing OC while the axis is IDLE re-enables the bridge. -/
def execOcClear (n : Nat) (s : State) : Host.Outcome State Fault Refusal :=
  s.done (s.within (n < 6) (fun s => s.ctl (Addr.AX_DSTAT n) (one Fl.AX_DSTAT_OC)))

/-- DRIVE_PHASE_END (R256): A coil sample reaching I_hi after TBLANK ends the drive phase. -/
def execDrivePhaseEnd (n x uv peak cyc : Nat) (s : State) : Host.Outcome State Fault Refusal :=
  s.done (s.live (fun s => s.within (n < 6) (fun s => s.drivePhaseEnd n x uv peak cyc)))

/-- DECAY_PHASE_END (R256): A coil sample falling to I_lo ends the decay phase. -/
def execDecayPhaseEnd (n x uv cyc : Nat) (s : State) : Host.Outcome State Fault Refusal :=
  s.done (s.live (fun s => s.within (n < 6) (fun s => s.decayPhaseEnd n x uv cyc)))

end Sys2Proof.Machine
end

