-- ==== Sys2Proof/Machine/CmdPair.lean ====
section
/-! DEFINITION. Paired modules (chapter 15): the meaning of each command. -/

namespace Sys2Proof.Machine

/-- BEACON_RECEIVED (R563): A valid peer beacon updates link state, peer claim and role decisions. -/
def execBeaconReceived (ends : PktEnds) (b : Beacon) (cyc : Nat) (s : State) : Host.Outcome State Fault Refusal :=
  s.done (s.live (fun s => s.beaconReceived ends b cyc))

/-- IMAGE_RECEIVED (R560): an IMAGE packet is checked and its entries held for application. -/
def execImageReceived (ends : PktEnds) (img : Img) (cyc : Nat) (s : State) : Host.Outcome State Fault Refusal :=
  s.done (s.live (fun s => s.imageReceived ends img cyc))

/-- MARKER_RECEIVED (R564): A MARKER completes a duty frame and drives the standby's frame lock. -/
def execMarkerReceived (ends : PktEnds) (frame count cyc : Nat) (s : State) : Host.Outcome State Fault Refusal :=
  s.done (s.live (fun s => s.markerReceived ends frame count cyc))

/-- PAIR_LINK_LOST (R563): no valid beacon for PLMISS frames clears LINKOK. -/
def execPairLinkLost (s : State) : Host.Outcome State Fault Refusal :=
  s.done (s.live (fun s => s.linkLost))

/-- CLAIM_WORD (R575): A valid word on CLAIM_IN sets the peer claim for the comparator. -/
def execClaimWord (w cyc : Nat) (s : State) : Host.Outcome State Fault Refusal :=
  s.done (s.claimWord w cyc)

/-- PEER_CLAIM_TIMEOUT (R575): no valid claim word for 12 µs reads the peer claim as 0. -/
def execPeerClaimTimeout (cyc : Nat) (s : State) : Host.Outcome State Fault Refusal :=
  s.done (s.claimTimeout cyc)

/-- GAP_HOLD_END (R576): after GAPH frames without allowance the general outputs go to their safe level. -/
def execGapHoldEnd (cyc : Nat) (s : State) : Host.Outcome State Fault Refusal :=
  s.done (s.gapEnd cyc)

/-- TAKEOVER (R584): A standby with a higher claim starts the repeat frame. -/
def execTakeover (s : State) : Host.Outcome State Fault Refusal :=
  s.done (s.live (fun s => s.takeoverRow))

/-- PEER_WAIT_TIMEOUT (R579): no valid beacon for PALONE makes a WAIT module DUTY. -/
def execPeerWaitTimeout (cyc : Nat) (s : State) : Host.Outcome State Fault Refusal :=
  s.done (s.live (fun s => s.peerWait cyc))

/-- DISCORD (R578): beacon and claim line disagreeing for 2 frames set DISCORD. -/
def execDiscord (s : State) : Host.Outcome State Fault Refusal :=
  s.done (s.live (fun s => s.discordSet))

/-- HANDREQ (R586): the command hands the duty over to the peer. -/
def execHandreq (s : State) : Host.Outcome State Fault Refusal :=
  s.done (s.command Addr.PAIR_CMD (one Fl.PAIR_CMD_HANDREQ))

/-- RESYNC (R570): the command drops SYNC and starts a sweep pass. -/
def execResync (s : State) : Host.Outcome State Fault Refusal :=
  s.done (s.command Addr.PAIR_CMD (one Fl.PAIR_CMD_RESYNC))

end Sys2Proof.Machine
end

