-- ==== Sys2Proof/Machine/CmdPower.lean ====
section
/-! DEFINITION. Start-up, power and reset (chapter 18): the meaning of each command. -/

namespace Sys2Proof.Machine

/-- POWER_ON_RESET (R661): power-on reset is released after the rails stay in range for 2.0 ms. -/
def execPowerOnReset (s : State) : Host.Outcome State Fault Refusal :=
  s.done (s.powerOn)

/-- BROWN_OUT (R663): A rail below its brown-out level asserts reset. -/
def execBrownOut (s : State) : Host.Outcome State Fault Refusal :=
  s.done (s.assertReset 1)

/-- RESET_PAD (R667): RST_N low for at least 1 µs resets the module. -/
def execResetPad (s : State) : Host.Outcome State Fault Refusal :=
  s.done (s.assertReset 2)

/-- RAIL_OUT_OF_RANGE (R662): A rail beyond a trip point for 2 µs raises 0xF2 and drops the claim. -/
def execRailOutOfRange (r : Nat) (high : Bool) (s : State) : Host.Outcome State Fault Refusal :=
  s.done (s.railOut r high)

/-- RAIL_RECOVERED (R662): A rail back inside its trip points sets OK again. -/
def execRailRecovered (r : Nat) (s : State) : Host.Outcome State Fault Refusal :=
  s.done (s.railBack r)

/-- OSCILLATOR_STABLE (R664): after 1,024 stable periods XOK sets. -/
def execOscillatorStable (s : State) : Host.Outcome State Fault Refusal :=
  s.done (s.oscStable)

/-- PLL_LOCK (R665): the PLL locks and gives the fabric and CAN clocks. -/
def execPllLock (us : Nat) (s : State) : Host.Outcome State Fault Refusal :=
  s.done (s.pllLock us)

/-- RESET_END (R669): at the first frame edge after lock the module leaves RESET for LOAD. -/
def execResetEnd (s : State) : Host.Outcome State Fault Refusal :=
  s.done (s.resetEnd)

/-- MEMORY_INIT_DONE (R619): the zeroing of all memories after a power-on or brown-out reset completes. -/
def execMemoryInitDone (s : State) : Host.Outcome State Fault Refusal :=
  s.done (s.memInitDone)

/-- BOOT_SLOT_CHECKED (R676): A stored slot copied into bank A is checked and accepted or refused. -/
def execBootSlotChecked (s : State) : Host.Outcome State Fault Refusal :=
  s.done (s.live (fun s => s.bootSlot))

/-- PLL_LOCK_LOST (R666): loss of PLL lock resets the module with source 5. -/
def execPllLockLost (s : State) : Host.Outcome State Fault Refusal :=
  s.done (s.lockLost)

/-- POWER_FAIL_WARNING (R679): PWR_PFW_N asserted for 2 µs latches PFW and starts flush and checkpoint. -/
def execPowerFailWarning (s : State) : Host.Outcome State Fault Refusal :=
  s.done (s.pfWarning)

/-- CONFIG_COMMAND (R669): the command moves the module from READY to CONFIG. -/
def execConfigCommand (s : State) : Host.Outcome State Fault Refusal :=
  s.done (s.stateCmd 1)

/-- READY_COMMAND (R669): the command moves the module to READY. -/
def execReadyCommand (s : State) : Host.Outcome State Fault Refusal :=
  s.done (s.stateCmd 2)

/-- RUN_COMMAND (R672): the command enters RUN when its conditions hold. -/
def execRunCommand (s : State) : Host.Outcome State Fault Refusal :=
  s.done (s.stateCmd 3)

/-- HOLD_COMMAND (R669): the command moves the module from RUN to HOLD. -/
def execHoldCommand (s : State) : Host.Outcome State Fault Refusal :=
  s.done (s.stateCmd 4)

/-- FCLR (R673): the command leaves FAULT for HOLD when its conditions hold. -/
def execFclr (s : State) : Host.Outcome State Fault Refusal :=
  s.done (s.stateCmd 5)

/-- LOAD_COMMAND (R677): the command checks the inactive bank and loads it. -/
def execLoadCommand (s : State) : Host.Outcome State Fault Refusal :=
  s.done (s.stateCmd 6)

/-- LOAD_CHECK_DONE (R677): the check of a LOAD completes and the module enters CONFIG or LOAD_FAIL. -/
def execLoadCheckDone (s : State) : Host.Outcome State Fault Refusal :=
  s.done (s.live (fun s => s.loadDone))

/-- STORE_COMMAND (R678): the command starts copying a bank into a loft slot. -/
def execStoreCommand (s : State) : Host.Outcome State Fault Refusal :=
  s.done (s.stateCmd 7)

/-- STORE_DONE (R678): A store completes or fails and writes SRES. -/
def execStoreDone (fails : Nat) (noBlock : Bool) (s : State) : Host.Outcome State Fault Refusal :=
  s.done (s.live (fun s => s.storeDone fails noBlock))

/-- RESET_COMMAND (R671): the command resets the module at its boundary. -/
def execResetCommand (s : State) : Host.Outcome State Fault Refusal :=
  s.done (s.stateCmd 15)

end Sys2Proof.Machine
end

