-- ==== Sys2Proof/Machine/CmdReads.lean ====
section
/-! DEFINITION. Reads and writes with effects: the meaning of each command. -/

namespace Sys2Proof.Machine

/-- FRAME_COUNTER_READ (R101): A read of SCH_FRM_LO latches the high bits into SCH_FRM_HI. -/
def execFrameCounterRead (s : State) : Host.Outcome State Fault Refusal :=
  s.done (s.look Addr.SCH_FRM_LO)

/-- READ_CLEAR (R496): A read of an RC register returns its value and clears it. -/
def execReadClear (a : Nat) (s : State) : Host.Outcome State Fault Refusal :=
  s.done (s.look a)

/-- WRITE_REGISTER (R38): A control-path write to a register without a row of its own takes effect at once or is staged. -/
def execWriteRegister (a : Nat) (v : Word) (s : State) : Host.Outcome State Fault Refusal :=
  s.done (s.ctl a v)

/-- RATE_READ (R197): A read of AXn_RATE_LO returns the low bits of the velocity word and latches its high bits into AXn_RATE_HI. -/
def execRateRead (n : Nat) (s : State) : Host.Outcome State Fault Refusal :=
  s.done (s.within (n < 6) (fun s => s.look (Addr.AX_RATE_LO n)))

/-- FRAME_OFFSET_READ (R592): A read of PAIR_FOFS_LO returns the low bits of the frame offset and latches PAIR_FOFS_HI. -/
def execFrameOffsetRead (s : State) : Host.Outcome State Fault Refusal :=
  s.done (s.look Addr.PAIR_FOFS_LO)

/-- FAULT_FRAME_READ (R626): A read of FLT_FFRM_LO or FLT_LFRM_LO returns frame bits 31:0 and latches the matching _HI register. -/
def execFaultFrameRead (last : Bool) (s : State) : Host.Outcome State Fault Refusal :=
  s.done (s.look (if last then Addr.FLT_LFRM_LO else Addr.FLT_FFRM_LO))

/-- WALL_TIME_READ (R658): A read of REC_WALL_LO returns wall-clock bits 31:0 and latches REC_WALL_HI. -/
def execWallTimeRead (s : State) : Host.Outcome State Fault Refusal :=
  s.done (s.look Addr.REC_WALL_LO)

/-- POWER_FAIL_WARNING_END (R680): PWR_PFW_N returns high without a reset, so PFPIN reads 0 while PFW stays latched. -/
def execPowerFailWarningEnd (s : State) : Host.Outcome State Fault Refusal :=
  s.done (s.pfEnd)

/-- MODULATOR_DATA_RESUMED (R427): the first change on a stuck SD_D data pad clears that channel's STK bit. -/
def execModulatorDataResumed (c : Nat) (s : State) : Host.Outcome State Fault Refusal :=
  s.done (s.live (fun s => s.modulatorResumed c))

end Sys2Proof.Machine
end

