-- ==== Sys2Proof/Machine/CmdRecorder.lean ====
section
/-! DEFINITION. Event recorder (chapter 17): the meaning of each command. -/

namespace Sys2Proof.Machine

/-- FLUSH (R638): the command starts a flush of unflushed records. -/
def execFlush (s : State) : Host.Outcome State Fault Refusal :=
  s.done (s.ctl Addr.REC_CMD (one Fl.REC_CMD_FLUSH))

/-- FLUSH_TIMER (R638): one second since the last flush with a record unflushed starts a flush. -/
def execFlushTimer (cyc : Nat) (s : State) : Host.Outcome State Fault Refusal :=
  s.done (s.live (fun s => s.flushTimer cyc))

/-- FLUSH_END (R638): A flush ends when no record is unflushed. -/
def execFlushEnd (bad : List Nat) (s : State) : Host.Outcome State Fault Refusal :=
  s.done (s.live (fun s => s.flushEnd bad))

/-- ERASE_DONE (R639): A background erase of a record block completes. -/
def execEraseDone (bad : Bool) (s : State) : Host.Outcome State Fault Refusal :=
  s.done (s.live (fun s => s.eraseDone bad))

/-- CLEAR (R654): the command erases every record block outside RUN. -/
def execClear (s : State) : Host.Outcome State Fault Refusal :=
  s.done (s.ctl Addr.REC_CMD (one Fl.REC_CMD_CLEAR))

/-- WALL_TIME_SET (R635): A write of REC_WALL_HI sets, slews or steps the wall clock. -/
def execWallTimeSet (hi : Word) (s : State) : Host.Outcome State Fault Refusal :=
  s.done (s.ctl Addr.REC_WALL_HI hi)

/-- RECORD_WINDOW_READ (R651): A read of REC_WIN7 with AINC advances the cursor. -/
def execRecordWindowRead (s : State) : Host.Outcome State Fault Refusal :=
  s.done (s.look (Addr.REC_WIN 7))

/-- LOFT_SCAN_DONE (R646): the loft scan after reset completes and the POWER restart record is produced. -/
def execLoftScanDone (bad : Bool) (s : State) : Host.Outcome State Fault Refusal :=
  s.done (s.live (fun s => s.loftScan bad))

end Sys2Proof.Machine
end

