-- ==== Sys2Proof/Machine/CmdServices.lean ====
section
/-! DEFINITION. CiA 301 services (chapter 13): the meaning of each command. -/

namespace Sys2Proof.Machine

/-- SDO_DOWNLOAD_INITIATE (R502): an SDO download request writes an entry or opens a segmented transfer. -/
def execSdoDownloadInitiate (x cyc : Nat) (bs : List Nat) (s : State) : Host.Outcome State Fault Refusal :=
  s.done (s.live (fun s => s.sdoRow x cyc (fun s => s.sdoDown x bs)))

/-- SDO_UPLOAD_INITIATE (R502): an SDO upload request reads an entry or opens a segmented transfer. -/
def execSdoUploadInitiate (x cyc : Nat) (bs : List Nat) (s : State) : Host.Outcome State Fault Refusal :=
  s.done (s.live (fun s => s.sdoRow x cyc (fun s => s.sdoUp x bs)))

/-- SDO_SEGMENT (R502): A segment request continues a segmented transfer. -/
def execSdoSegment (x cyc : Nat) (bs : List Nat) (s : State) : Host.Outcome State Fault Refusal :=
  s.done (s.live (fun s => s.sdoRow x cyc (fun s => s.sdoSeg x bs)))

/-- SDO_TIMEOUT (R504): no segment within 1.0 s aborts the transfer with 0x0504_0000. -/
def execSdoTimeout (x cyc : Nat) (s : State) : Host.Outcome State Fault Refusal :=
  s.done (s.live (fun s => s.sdoTimeout x cyc))

/-- START_REMOTE_NODE (R519): the NMT command requests RUN. -/
def execStartRemoteNode (node : Nat) (s : State) : Host.Outcome State Fault Refusal :=
  s.done (s.live (fun s => s.nmt 1 node))

/-- STOP_REMOTE_NODE (R519): the NMT command requests HOLD. -/
def execStopRemoteNode (node : Nat) (s : State) : Host.Outcome State Fault Refusal :=
  s.done (s.live (fun s => s.nmt 2 node))

/-- ENTER_PRE_OPERATIONAL (R519): the NMT command requests HOLD as Stop does. -/
def execEnterPreOperational (node : Nat) (s : State) : Host.Outcome State Fault Refusal :=
  s.done (s.live (fun s => s.nmt 128 node))

/-- RESET_NODE (R519): the NMT command resets the module outside RUN. -/
def execResetNode (node : Nat) (s : State) : Host.Outcome State Fault Refusal :=
  s.done (s.live (fun s => s.nmt 129 node))

/-- RESET_COMMUNICATION (R519): the NMT command takes in new node-IDs and sends boot-up outside RUN. -/
def execResetCommunication (node : Nat) (s : State) : Host.Outcome State Fault Refusal :=
  s.done (s.live (fun s => s.nmt 130 node))

/-- BOOT_UP (R518): the boot-up message is sent when CANA first takes part after reset. -/
def execBootUp (cyc : Nat) (s : State) : Host.Outcome State Fault Refusal :=
  s.done (s.live (fun s => s.bootUp cyc))

/-- HEARTBEAT (R518): A heartbeat is sent at each period of 0x1017. -/
def execHeartbeat (cyc : Nat) (s : State) : Host.Outcome State Fault Refusal :=
  s.done (s.live (fun s => s.heartbeat cyc))

/-- EMCY_SEND (R522): A waiting EMCY message is sent once the inhibit time has passed. -/
def execEmcySend (cyc : Nat) (s : State) : Host.Outcome State Fault Refusal :=
  s.done (s.live (fun s => s.emcySend cyc))

end Sys2Proof.Machine
end

