-- ==== Sys2Proof/Machine/CmdSlots.lean ====
section
/-! DEFINITION. Slots of the schedule (R69): the meaning of each command. -/

namespace Sys2Proof.Machine

/-- EDGE_POP (R396): the slot pops n edge records of its data-path group and pushes them. -/
def execEdgePop (k : Nat) (s : State) : Host.Outcome State Fault Refusal :=
  s.done (s.onSlot k 2 2 (fun sl s => s.edgePop sl))

/-- OUT_STAGE (R405): the slot pops one word commanding the sheaf-owned outputs and safety demands. -/
def execOutStage (k : Nat) (s : State) : Host.Outcome State Fault Refusal :=
  s.done (s.onSlot k 2 3 (fun sl s => s.outStage sl))

/-- FB_LATCH (R140): the slot moves the latched counter and timestamps of a channel into state memory. -/
def execFbLatch (k : Nat) (s : State) : Host.Outcome State Fault Refusal :=
  s.done (s.onSlot k 3 1 (fun sl s => s.fbLatch sl.inst))

/-- FB_SPEED (R143): the slot forms position, speed, speed bound and flags of a channel. -/
def execFbSpeed (k : Nat) (s : State) : Host.Outcome State Fault Refusal :=
  s.done (s.onSlot k 3 2 (fun sl s => s.fbSpeed sl.inst))

/-- SD_TAKE (R428): the slot takes the eight filter results and optionally pushes them. -/
def execSdTake (k : Nat) (s : State) : Host.Outcome State Fault Refusal :=
  s.done (s.onSlot k 4 1 (fun sl s => s.sdTake sl))

/-- RMS (R432): the slot marks half-cycle boundaries and computes half-cycle rms values. -/
def execRms (k : Nat) (s : State) : Host.Outcome State Fault Refusal :=
  s.done (s.onSlot k 4 2 (fun _ s => s.rmsSlot))

/-- ACC (R436): the slot forms line and DC-link power and accumulates the frame's energy. -/
def execAcc (k : Nat) (s : State) : Host.Outcome State Fault Refusal :=
  s.done (s.onSlot k 4 3 (fun _ s => s.accSlot))

/-- RX_TAKE (R464): the slot takes n received objects or queue records and pushes them. -/
def execRxTake (k : Nat) (s : State) : Host.Outcome State Fault Refusal :=
  s.done (s.onCan k 1 (fun x sl s => s.rxTake x sl))

/-- TX_STAGE (R470): the slot pops transmit records for single objects or the pool. -/
def execTxStage (k : Nat) (s : State) : Host.Outcome State Fault Refusal :=
  s.done (s.onCan k 2 (fun x sl s => s.txStage x sl))

/-- IMG_TAKE (R569): the slot applies mirrored entries of every frame whose MARKER arrived before cycle 0. -/
def execImgTake (k : Nat) (s : State) : Host.Outcome State Fault Refusal :=
  s.done (s.onSlot k 7 1 (fun _ s => s.imgTake))

/-- IMG_SEND (R568): the slot sends the frame's image words on the pair link. -/
def execImgSend (k : Nat) (s : State) : Host.Outcome State Fault Refusal :=
  s.done (s.onSlot k 7 2 (fun sl s => s.imgSend sl))

/-- FMA_BLK (R209): the slot runs an FMA program on its popped words and pushes its outputs. -/
def execFmaBlk (k : Nat) (mism : Bool) (s : State) : Host.Outcome State Fault Refusal :=
  s.done (s.onLane k 8 1 mism (fun sl s => s.fmaBlk sl))

/-- PI_LOOP (R216): the slot computes one PI loop step with anti-windup. -/
def execPiLoop (k : Nat) (mism : Bool) (s : State) : Host.Outcome State Fault Refusal :=
  s.done (s.onLane k 8 2 mism (fun sl s => s.loop sl))

/-- PID_LOOP (R216): the slot computes one PID loop step with filtered derivative. -/
def execPidLoop (k : Nat) (mism : Bool) (s : State) : Host.Outcome State Fault Refusal :=
  s.done (s.onLane k 8 3 mism (fun sl s => s.loop sl))

/-- PLAUS (R232): the slot compares measured and predicted values and counts persisting residuals. -/
def execPlaus (k : Nat) (mism : Bool) (s : State) : Host.Outcome State Fault Refusal :=
  s.done (s.onLane k 8 4 mism (fun sl s => s.plaus sl))

/-- BLEND (R231): the slot pushes the blend point's output during and after a mode hand-over. -/
def execBlend (k : Nat) (mism : Bool) (s : State) : Host.Outcome State Fault Refusal :=
  s.done (s.onLane k 8 5 mism (fun sl s => s.blend sl))

/-- SEG_EVAL (R174): the slot computes an axis's commanded point for the next frame edge. -/
def execSegEval (k : Nat) (s : State) : Host.Outcome State Fault Refusal :=
  s.done (s.onSlot k 9 1 (fun sl s => s.segEval sl.inst sl.hout))

/-- LIM_CHK (R179): the slot checks the virtual limits and limit switches of an axis. -/
def execLimChk (k : Nat) (s : State) : Host.Outcome State Fault Refusal :=
  s.done (s.onSlot k 9 2 (fun sl s => s.limChk sl.inst))

/-- HOME_STEP (R189): the slot advances the homing sequence of an axis. -/
def execHomeStep (k : Nat) (s : State) : Host.Outcome State Fault Refusal :=
  s.done (s.onSlot k 9 3 (fun sl s => s.homeStep sl.inst))

/-- ENVELOPE (R352): the slot forms the guard speed and the stopping and emergency envelopes. -/
def execEnvelope (k : Nat) (mism : Bool) (s : State) : Host.Outcome State Fault Refusal :=
  s.done (s.onLane k 10 1 mism (fun _ s => s.envelope))

/-- TERM_CHK (R366): the slot checks the terminal gaps against the envelopes. -/
def execTermChk (k : Nat) (mism : Bool) (s : State) : Host.Outcome State Fault Refusal :=
  s.done (s.onLane k 10 2 mism (fun _ s => s.termChk))

/-- OVS_CHK (R368): the slot compares guard speed with the position-dependent limit. -/
def execOvsChk (k : Nat) (mism : Bool) (s : State) : Host.Outcome State Fault Refusal :=
  s.done (s.onLane k 10 3 mism (fun _ s => s.ovsChk))

/-- SHAFT_CHK (R373): the slot checks the gap to the shared-shaft neighbour. -/
def execShaftChk (k : Nat) (mism : Bool) (s : State) : Host.Outcome State Fault Refusal :=
  s.done (s.onLane k 10 4 mism (fun _ s => s.shaftChk))

/-- ZONE_CHK (R377): the slot grants door-zone permission per deck and side. -/
def execZoneChk (k : Nat) (mism : Bool) (s : State) : Host.Outcome State Fault Refusal :=
  s.done (s.onLane k 10 5 mism (fun _ s => s.zoneChk))

/-- UCM_CHK (R380): the slot trips on car movement or speed while the doors are not locked. -/
def execUcmChk (k : Nat) (mism : Bool) (s : State) : Host.Outcome State Fault Refusal :=
  s.done (s.onLane k 10 6 mism (fun _ s => s.ucmChk))

/-- STOP_SCAN (R304): the slot applies popped call words and selects the next stop. -/
def execStopScan (k : Nat) (s : State) : Host.Outcome State Fault Refusal :=
  s.done (s.onSlot k 11 1 (fun sl s => s.stopScan sl))

/-- COMMIT (R305): the slot issues the stop table's AX0 commands and door commands. -/
def execStpCommit (k : Nat) (s : State) : Host.Outcome State Fault Refusal :=
  s.done (s.onSlot k 11 2 (fun sl s => s.stpCommitSlot sl))

/-- COST (R325): the slot applies group records in bus order and prices open calls. -/
def execCost (k : Nat) (s : State) : Host.Outcome State Fault Refusal :=
  s.done (s.onSlot k 12 1 (fun sl s => s.bidCost sl))

/-- BID_STAGE (R333): the slot stages bids, announcements and control frames. -/
def execBidStage (k : Nat) (s : State) : Host.Outcome State Fault Refusal :=
  s.done (s.onSlot k 12 2 (fun sl s => s.bidStage sl))

/-- DOOR_SEQ (R268): the slot evaluates faults, arrival, obstruction, commands and hold timer of a door. -/
def execDoorSeq (k : Nat) (s : State) : Host.Outcome State Fault Refusal :=
  s.done (s.onSlot k 13 1 (fun sl s => s.doorSeq sl))

/-- FORCE_EST (R260): the slot estimates load angle and door force. -/
def execForceEst (k : Nat) (s : State) : Host.Outcome State Fault Refusal :=
  s.done (s.onSlot k 13 2 (fun sl s => s.forceEst sl))

/-- PWM_STAGE (R249): the slot computes the three compare values of a BLDC axis. -/
def execPwmStage (k : Nat) (s : State) : Host.Outcome State Fault Refusal :=
  s.done (s.onSlot k 14 1 (fun sl s => s.pwmStage sl))

/-- STEP_STAGE (R176): the slot computes the velocity word of a step axis. -/
def execStepStage (k : Nat) (s : State) : Host.Outcome State Fault Refusal :=
  s.done (s.onSlot k 14 2 (fun sl s => s.stepStage sl.inst))

/-- CHOP_UPD (R255): the slot pops the current scale of an internal stepper. -/
def execChopUpd (k : Nat) (s : State) : Host.Outcome State Fault Refusal :=
  s.done (s.onSlot k 14 3 (fun sl s => s.chopUpd sl))

/-- SMEM_LOAD (R207): the slot reads n state-memory words into its hopper. -/
def execSmemLoad (k : Nat) (s : State) : Host.Outcome State Fault Refusal :=
  s.done (s.onSlot k 15 1 (fun sl s => s.smemLoad sl))

/-- SMEM_STORE (R207): the slot writes n words to state memory for the commit. -/
def execSmemStore (k : Nat) (s : State) : Host.Outcome State Fault Refusal :=
  s.done (s.onSlot k 15 2 (fun sl s => s.smemStore sl))

/-- COMPARE_LOAD (R249): released compare values load at the first carrier valley after T_EMT. -/
def execCompareLoad (n cyc : Nat) (s : State) : Host.Outcome State Fault Refusal :=
  s.done (s.live (fun s => s.within (n < 6) (fun s => s.compareLoad n cyc)))

end Sys2Proof.Machine
end

