-- ==== Sys2Proof/Machine/CmdStops.lean ====
section
/-! DEFINITION. Stop scheduling (chapter 07): the meaning of each command. -/

namespace Sys2Proof.Machine

/-- SET_CC (R294): the call operation sets a car call at an entry. -/
def execSetCc (e : Nat) (s : State) : Host.Outcome State Fault Refusal :=
  s.done (s.command Addr.STP_CALLQ (wN (opWord 1 e)))

/-- CLEAR_CC (R294): the call operation clears a car call at an entry. -/
def execClearCc (e : Nat) (s : State) : Host.Outcome State Fault Refusal :=
  s.done (s.command Addr.STP_CALLQ (wN (opWord 2 e)))

/-- AWARD_HU (R294): the call operation awards an up hall call to this car. -/
def execAwardHu (e : Nat) (s : State) : Host.Outcome State Fault Refusal :=
  s.done (s.command Addr.STP_CALLQ (wN (opWord 3 e)))

/-- AWARD_HD (R294): the call operation awards a down hall call to this car. -/
def execAwardHd (e : Nat) (s : State) : Host.Outcome State Fault Refusal :=
  s.done (s.command Addr.STP_CALLQ (wN (opWord 4 e)))

/-- WITHDRAW_HU (R297): the call operation withdraws an up hall call unless its stop is committed. -/
def execWithdrawHu (e : Nat) (s : State) : Host.Outcome State Fault Refusal :=
  s.done (s.command Addr.STP_CALLQ (wN (opWord 5 e)))

/-- WITHDRAW_HD (R297): the call operation withdraws a down hall call unless its stop is committed. -/
def execWithdrawHd (e : Nat) (s : State) : Host.Outcome State Fault Refusal :=
  s.done (s.command Addr.STP_CALLQ (wN (opWord 6 e)))

/-- CLEAR_EVERY_CC (R294): the call operation clears every car call. -/
def execClearEveryCc (s : State) : Host.Outcome State Fault Refusal :=
  s.done (s.command Addr.STP_CALLQ (wN (opWord 7 0)))

/-- ADD_DESTINATION_RECORD (R299): the call operation adds a destination record in destination mode. -/
def execAddDestinationRecord (e dest side pax : Nat) (s : State) : Host.Outcome State Fault Refusal :=
  s.done (s.command Addr.STP_CALLQ (wN (opWord 8 e + pax % 64 * 2 ^ 22 + dest % 256 * 2 ^ 14 + side % 2 * 2 ^ 13)))

/-- RESUME (R307): the command clears RLFAIL and lets the stop table leave HELD. -/
def execResume (s : State) : Host.Outcome State Fault Refusal :=
  s.done (s.command Addr.STP_CMD (one Fl.STP_CMD_RESUME))

/-- TSTART_EXPIRY (R307): doors not ready within TSTART set STARTTO. -/
def execTstartExpiry (cyc : Nat) (s : State) : Host.Outcome State Fault Refusal :=
  s.done (s.live (fun s => s.tstartExpiry cyc))

/-- RELEVEL_TRIGGER (R307): A levelling error beyond RLTRIG for RLNF frames starts re-levelling. -/
def execRelevelTrigger (s : State) : Host.Outcome State Fault Refusal :=
  s.done (s.live (fun s => s.relevelTrigger))

/-- RELEVEL_TIMEOUT (R307): RELEVEL longer than 5.0 s sends the stop table to HELD with RLFAIL. -/
def execRelevelTimeout (cyc : Nat) (s : State) : Host.Outcome State Fault Refusal :=
  s.done (s.live (fun s => s.relevelTimeout cyc))

end Sys2Proof.Machine
end

