-- ==== Sys2Proof/Machine/Dispatch.lean ====
section
/-! DEFINITION. One arm for each command: the meaning it calls. -/

namespace Sys2Proof.Machine

/-- A command's effect on everything but the queue. -/
def exec (i : Instr) (s : State) : Host.Outcome State Fault Refusal :=
  match i with
  | .frameBoundary fi => Sys2Proof.Machine.execFrameBoundary fi s
  | .release => Sys2Proof.Machine.execRelease s
  | .frameCommit => Sys2Proof.Machine.execFrameCommit s
  | .accumulationIntervalEnd => Sys2Proof.Machine.execAccumulationIntervalEnd s
  | .hopperCheck es => Sys2Proof.Machine.execHopperCheck es s
  | .frameOverrun k cyc => Sys2Proof.Machine.execFrameOverrun k cyc s
  | .backgroundCrcPass => Sys2Proof.Machine.execBackgroundCrcPass s
  | .hmove k => Sys2Proof.Machine.execHmove k s
  | .inLatch k => Sys2Proof.Machine.execInLatch k s
  | .edgePop k => Sys2Proof.Machine.execEdgePop k s
  | .outStage k => Sys2Proof.Machine.execOutStage k s
  | .fbLatch k => Sys2Proof.Machine.execFbLatch k s
  | .fbSpeed k => Sys2Proof.Machine.execFbSpeed k s
  | .sdTake k => Sys2Proof.Machine.execSdTake k s
  | .rms k => Sys2Proof.Machine.execRms k s
  | .acc k => Sys2Proof.Machine.execAcc k s
  | .rxTake k => Sys2Proof.Machine.execRxTake k s
  | .txStage k => Sys2Proof.Machine.execTxStage k s
  | .imgTake k => Sys2Proof.Machine.execImgTake k s
  | .imgSend k => Sys2Proof.Machine.execImgSend k s
  | .fmaBlk k mism => Sys2Proof.Machine.execFmaBlk k mism s
  | .piLoop k mism => Sys2Proof.Machine.execPiLoop k mism s
  | .pidLoop k mism => Sys2Proof.Machine.execPidLoop k mism s
  | .plaus k mism => Sys2Proof.Machine.execPlaus k mism s
  | .blend k mism => Sys2Proof.Machine.execBlend k mism s
  | .segEval k => Sys2Proof.Machine.execSegEval k s
  | .limChk k => Sys2Proof.Machine.execLimChk k s
  | .homeStep k => Sys2Proof.Machine.execHomeStep k s
  | .envelope k mism => Sys2Proof.Machine.execEnvelope k mism s
  | .termChk k mism => Sys2Proof.Machine.execTermChk k mism s
  | .ovsChk k mism => Sys2Proof.Machine.execOvsChk k mism s
  | .shaftChk k mism => Sys2Proof.Machine.execShaftChk k mism s
  | .zoneChk k mism => Sys2Proof.Machine.execZoneChk k mism s
  | .ucmChk k mism => Sys2Proof.Machine.execUcmChk k mism s
  | .stopScan k => Sys2Proof.Machine.execStopScan k s
  | .stpCommit k => Sys2Proof.Machine.execStpCommit k s
  | .cost k => Sys2Proof.Machine.execCost k s
  | .bidStage k => Sys2Proof.Machine.execBidStage k s
  | .doorSeq k => Sys2Proof.Machine.execDoorSeq k s
  | .forceEst k => Sys2Proof.Machine.execForceEst k s
  | .pwmStage k => Sys2Proof.Machine.execPwmStage k s
  | .stepStage k => Sys2Proof.Machine.execStepStage k s
  | .chopUpd k => Sys2Proof.Machine.execChopUpd k s
  | .smemLoad k => Sys2Proof.Machine.execSmemLoad k s
  | .smemStore k => Sys2Proof.Machine.execSmemStore k s
  | .compareLoad n cyc => Sys2Proof.Machine.execCompareLoad n cyc s
  | .quadratureEdge n a b cyc => Sys2Proof.Machine.execQuadratureEdge n a b cyc s
  | .hallTransition n h cyc => Sys2Proof.Machine.execHallTransition n h cyc s
  | .qualifiedIndex n z => Sys2Proof.Machine.execQualifiedIndex n z s
  | .serialWord n inTime data eb wb crc cyc => Sys2Proof.Machine.execSerialWord n inTime data eb wb crc cyc s
  | .serialTimeout n => Sys2Proof.Machine.execSerialTimeout n s
  | .standstill n => Sys2Proof.Machine.execStandstill n s
  | .posSet n => Sys2Proof.Machine.execPosSet n s
  | .zrefClr n => Sys2Proof.Machine.execZrefClr n s
  | .zarm n => Sys2Proof.Machine.execZarm n s
  | .positionSnapshotRead n => Sys2Proof.Machine.execPositionSnapshotRead n s
  | .axMove n => Sys2Proof.Machine.execAxMove n s
  | .axTable n => Sys2Proof.Machine.execAxTable n s
  | .axHalt n => Sys2Proof.Machine.execAxHalt n s
  | .axAbort n => Sys2Proof.Machine.execAxAbort n s
  | .axHome n => Sys2Proof.Machine.execAxHome n s
  | .chatClr n => Sys2Proof.Machine.execChatClr n s
  | .posset n => Sys2Proof.Machine.execPosset n s
  | .dwellElapsed n => Sys2Proof.Machine.execDwellElapsed n s
  | .homingTimeout n cyc => Sys2Proof.Machine.execHomingTimeout n cyc s
  | .chatterLatch n k => Sys2Proof.Machine.execChatterLatch n k s
  | .currentReduction n cyc => Sys2Proof.Machine.execCurrentReduction n cyc s
  | .stepIssued n cyc => Sys2Proof.Machine.execStepIssued n cyc s
  | .overcurrent n code cyc => Sys2Proof.Machine.execOvercurrent n code cyc s
  | .ocClear n => Sys2Proof.Machine.execOcClear n s
  | .drivePhaseEnd n x code peak cyc => Sys2Proof.Machine.execDrivePhaseEnd n x code peak cyc s
  | .decayPhaseEnd n x code cyc => Sys2Proof.Machine.execDecayPhaseEnd n x code cyc s
  | .doorOpen d => Sys2Proof.Machine.execDoorOpen d s
  | .doorClose d => Sys2Proof.Machine.execDoorClose d s
  | .doorNudge d => Sys2Proof.Machine.execDoorNudge d s
  | .doorStop d => Sys2Proof.Machine.execDoorStop d s
  | .doorFreset d => Sys2Proof.Machine.execDoorFreset d s
  | .holdTimerExpiry d cyc => Sys2Proof.Machine.execHoldTimerExpiry d cyc s
  | .tlockExpiry d cyc => Sys2Proof.Machine.execTlockExpiry d cyc s
  | .tmoveExceeded d cyc => Sys2Proof.Machine.execTmoveExceeded d cyc s
  | .setCc e => Sys2Proof.Machine.execSetCc e s
  | .clearCc e => Sys2Proof.Machine.execClearCc e s
  | .awardHu e => Sys2Proof.Machine.execAwardHu e s
  | .awardHd e => Sys2Proof.Machine.execAwardHd e s
  | .withdrawHu e => Sys2Proof.Machine.execWithdrawHu e s
  | .withdrawHd e => Sys2Proof.Machine.execWithdrawHd e s
  | .clearEveryCc => Sys2Proof.Machine.execClearEveryCc s
  | .addDestinationRecord e dest side pax => Sys2Proof.Machine.execAddDestinationRecord e dest side pax s
  | .resume => Sys2Proof.Machine.execResume s
  | .tstartExpiry cyc => Sys2Proof.Machine.execTstartExpiry cyc s
  | .relevelTrigger => Sys2Proof.Machine.execRelevelTrigger s
  | .relevelTimeout cyc => Sys2Proof.Machine.execRelevelTimeout cyc s
  | .hallCallWord w => Sys2Proof.Machine.execHallCallWord w s
  | .dupclr => Sys2Proof.Machine.execDupclr s
  | .announce f own => Sys2Proof.Machine.execAnnounce f own s
  | .tick f own => Sys2Proof.Machine.execTick f own s
  | .bid f own => Sys2Proof.Machine.execBid f own s
  | .holdFrame f own => Sys2Proof.Machine.execHoldFrame f own s
  | .closeFrame f own => Sys2Proof.Machine.execCloseFrame f own s
  | .status f own => Sys2Proof.Machine.execStatus f own s
  | .statusPeriod => Sys2Proof.Machine.execStatusPeriod s
  | .holdPublication k => Sys2Proof.Machine.execHoldPublication k s
  | .carAbsent n => Sys2Proof.Machine.execCarAbsent n s
  | .tripclr => Sys2Proof.Machine.execTripclr s
  | .guardArmed => Sys2Proof.Machine.execGuardArmed s
  | .overspeed => Sys2Proof.Machine.execOverspeed s
  | .escalationTrip src => Sys2Proof.Machine.execEscalationTrip src s
  | .neighbourRecordMissing => Sys2Proof.Machine.execNeighbourRecordMissing s
  | .zoneDisagreement => Sys2Proof.Machine.execZoneDisagreement s
  | .inputChange k b v cyc => Sys2Proof.Machine.execInputChange k b v cyc s
  | .edgeAccepted k b cyc => Sys2Proof.Machine.execEdgeAccepted k b cyc s
  | .runAbandoned k b cyc => Sys2Proof.Machine.execRunAbandoned k b cyc s
  | .staleInput k cyc => Sys2Proof.Machine.execStaleInput k cyc s
  | .staleFlagClear m => Sys2Proof.Machine.execStaleFlagClear m s
  | .tapDiscrepancy j cyc => Sys2Proof.Machine.execTapDiscrepancy j cyc s
  | .readbackDisagreement k => Sys2Proof.Machine.execReadbackDisagreement k s
  | .safetyChannelStuck k => Sys2Proof.Machine.execSafetyChannelStuck k s
  | .safetyChannelFailed k => Sys2Proof.Machine.execSafetyChannelFailed k s
  | .outputOverload k => Sys2Proof.Machine.execOutputOverload k s
  | .silentLogic cyc => Sys2Proof.Machine.execSilentLogic cyc s
  | .fieldStart => Sys2Proof.Machine.execFieldStart s
  | .field24Warning => Sys2Proof.Machine.execField24Warning s
  | .field24Fault => Sys2Proof.Machine.execField24Fault s
  | .field24Recovered cyc => Sys2Proof.Machine.execField24Recovered cyc s
  | .fieldLost => Sys2Proof.Machine.execFieldLost s
  | .fieldPulsesResumed cyc => Sys2Proof.Machine.execFieldPulsesResumed cyc s
  | .arma => Sys2Proof.Machine.execArma s
  | .armb => Sys2Proof.Machine.execArmb s
  | .edgeRecordRead g => Sys2Proof.Machine.execEdgeRecordRead g s
  | .clr => Sys2Proof.Machine.execClr s
  | .snap => Sys2Proof.Machine.execSnap s
  | .modulatorStuck c => Sys2Proof.Machine.execModulatorStuck c s
  | .forcedBoundary => Sys2Proof.Machine.execForcedBoundary s
  | .checkpoint => Sys2Proof.Machine.execCheckpoint s
  | .pulseStart => Sys2Proof.Machine.execPulseStart s
  | .pulseHighEnd => Sys2Proof.Machine.execPulseHighEnd s
  | .pulseLowEnd => Sys2Proof.Machine.execPulseLowEnd s
  | .canFrameReceived x cyc f age => Sys2Proof.Machine.execCanFrameReceived x cyc f age s
  | .transmitStart x cyc => Sys2Proof.Machine.execTransmitStart x cyc s
  | .arbitrationLost x cyc => Sys2Proof.Machine.execArbitrationLost x cyc s
  | .transmitComplete x cyc tdc => Sys2Proof.Machine.execTransmitComplete x cyc tdc s
  | .alone x => Sys2Proof.Machine.execAlone x s
  | .busError x cyc e => Sys2Proof.Machine.execBusError x cyc e s
  | .releaseInstantDue x k cyc => Sys2Proof.Machine.execReleaseInstantDue x k cyc s
  | .req x => Sys2Proof.Machine.execReq x s
  | .cancel x => Sys2Proof.Machine.execCancel x s
  | .borq x => Sys2Proof.Machine.execBorq x s
  | .busOffRecoveryDone x => Sys2Proof.Machine.execBusOffRecoveryDone x s
  | .integrationDone x => Sys2Proof.Machine.execIntegrationDone x s
  | .sleep x => Sys2Proof.Machine.execSleep x s
  | .sleepEntry x => Sys2Proof.Machine.execSleepEntry x s
  | .wake x => Sys2Proof.Machine.execWake x s
  | .wakeEvent x => Sys2Proof.Machine.execWakeEvent x s
  | .lockTimeout x cyc => Sys2Proof.Machine.execLockTimeout x cyc s
  | .rxWindowRead x w => Sys2Proof.Machine.execRxWindowRead x w s
  | .rxSelect x k => Sys2Proof.Machine.execRxSelect x k s
  | .hpBufferRead x => Sys2Proof.Machine.execHpBufferRead x s
  | .sdoDownloadInitiate x cyc bs => Sys2Proof.Machine.execSdoDownloadInitiate x cyc bs s
  | .sdoUploadInitiate x cyc bs => Sys2Proof.Machine.execSdoUploadInitiate x cyc bs s
  | .sdoSegment x cyc bs => Sys2Proof.Machine.execSdoSegment x cyc bs s
  | .sdoTimeout x cyc => Sys2Proof.Machine.execSdoTimeout x cyc s
  | .startRemoteNode node => Sys2Proof.Machine.execStartRemoteNode node s
  | .stopRemoteNode node => Sys2Proof.Machine.execStopRemoteNode node s
  | .enterPreOperational node => Sys2Proof.Machine.execEnterPreOperational node s
  | .resetNode node => Sys2Proof.Machine.execResetNode node s
  | .resetCommunication node => Sys2Proof.Machine.execResetCommunication node s
  | .bootUp cyc => Sys2Proof.Machine.execBootUp cyc s
  | .heartbeat cyc => Sys2Proof.Machine.execHeartbeat cyc s
  | .emcySend cyc => Sys2Proof.Machine.execEmcySend cyc s
  | .epoch r => Sys2Proof.Machine.execEpoch r s
  | .ident r => Sys2Proof.Machine.execIdent r s
  | .objRead r => Sys2Proof.Machine.execObjRead r s
  | .objWrite r => Sys2Proof.Machine.execObjWrite r s
  | .regRead r => Sys2Proof.Machine.execRegRead r s
  | .regWrite r => Sys2Proof.Machine.execRegWrite r s
  | .bulkOpen r => Sys2Proof.Machine.execBulkOpen r s
  | .bulkData r => Sys2Proof.Machine.execBulkData r s
  | .bulkClose r => Sys2Proof.Machine.execBulkClose r s
  | .recRead r => Sys2Proof.Machine.execRecRead r s
  | .fetch r => Sys2Proof.Machine.execFetch r s
  | .hostFrameError e => Sys2Proof.Machine.execHostFrameError e s
  | .response cyc coll => Sys2Proof.Machine.execResponse cyc coll s
  | .epochLost cyc => Sys2Proof.Machine.execEpochLost cyc s
  | .bulkSessionTimeout cyc => Sys2Proof.Machine.execBulkSessionTimeout cyc s
  | .beaconReceived ends b cyc => Sys2Proof.Machine.execBeaconReceived ends b cyc s
  | .imageReceived ends img cyc => Sys2Proof.Machine.execImageReceived ends img cyc s
  | .markerReceived ends frame count cyc => Sys2Proof.Machine.execMarkerReceived ends frame count cyc s
  | .pairLinkLost => Sys2Proof.Machine.execPairLinkLost s
  | .claimWord w cyc => Sys2Proof.Machine.execClaimWord w cyc s
  | .peerClaimTimeout cyc => Sys2Proof.Machine.execPeerClaimTimeout cyc s
  | .gapHoldEnd cyc => Sys2Proof.Machine.execGapHoldEnd cyc s
  | .takeover => Sys2Proof.Machine.execTakeover s
  | .peerWaitTimeout cyc => Sys2Proof.Machine.execPeerWaitTimeout cyc s
  | .discord => Sys2Proof.Machine.execDiscord s
  | .handreq => Sys2Proof.Machine.execHandreq s
  | .resync => Sys2Proof.Machine.execResync s
  | .sdlyExpired cyc => Sys2Proof.Machine.execSdlyExpired cyc s
  | .handlingEnd cyc => Sys2Proof.Machine.execHandlingEnd cyc s
  | .rearm => Sys2Proof.Machine.execRearm s
  | .ack => Sys2Proof.Machine.execAck s
  | .holdOffEnd k => Sys2Proof.Machine.execHoldOffEnd k s
  | .windowEnd k cyc => Sys2Proof.Machine.execWindowEnd k cyc s
  | .reportDrop k cyc => Sys2Proof.Machine.execReportDrop k cyc s
  | .crcPreset p => Sys2Proof.Machine.execCrcPreset p s
  | .crcStart => Sys2Proof.Machine.execCrcStart s
  | .crcOpen => Sys2Proof.Machine.execCrcOpen s
  | .crcData v => Sys2Proof.Machine.execCrcData v s
  | .crcClose => Sys2Proof.Machine.execCrcClose s
  | .crcAbort => Sys2Proof.Machine.execCrcAbort s
  | .crcJobDone merr => Sys2Proof.Machine.execCrcJobDone merr s
  | .flush => Sys2Proof.Machine.execFlush s
  | .flushTimer cyc => Sys2Proof.Machine.execFlushTimer cyc s
  | .flushEnd bad => Sys2Proof.Machine.execFlushEnd bad s
  | .eraseDone bad => Sys2Proof.Machine.execEraseDone bad s
  | .clear => Sys2Proof.Machine.execClear s
  | .wallTimeSet hi => Sys2Proof.Machine.execWallTimeSet hi s
  | .recordWindowRead => Sys2Proof.Machine.execRecordWindowRead s
  | .loftScanDone bad => Sys2Proof.Machine.execLoftScanDone bad s
  | .powerOnReset => Sys2Proof.Machine.execPowerOnReset s
  | .brownOut => Sys2Proof.Machine.execBrownOut s
  | .resetPad => Sys2Proof.Machine.execResetPad s
  | .railOutOfRange r high => Sys2Proof.Machine.execRailOutOfRange r high s
  | .railRecovered r => Sys2Proof.Machine.execRailRecovered r s
  | .oscillatorStable => Sys2Proof.Machine.execOscillatorStable s
  | .pllLock us => Sys2Proof.Machine.execPllLock us s
  | .resetEnd => Sys2Proof.Machine.execResetEnd s
  | .memoryInitDone => Sys2Proof.Machine.execMemoryInitDone s
  | .bootSlotChecked => Sys2Proof.Machine.execBootSlotChecked s
  | .pllLockLost => Sys2Proof.Machine.execPllLockLost s
  | .powerFailWarning => Sys2Proof.Machine.execPowerFailWarning s
  | .configCommand => Sys2Proof.Machine.execConfigCommand s
  | .readyCommand => Sys2Proof.Machine.execReadyCommand s
  | .runCommand => Sys2Proof.Machine.execRunCommand s
  | .holdCommand => Sys2Proof.Machine.execHoldCommand s
  | .fclr => Sys2Proof.Machine.execFclr s
  | .loadCommand => Sys2Proof.Machine.execLoadCommand s
  | .loadCheckDone => Sys2Proof.Machine.execLoadCheckDone s
  | .storeCommand => Sys2Proof.Machine.execStoreCommand s
  | .storeDone fails noBlock => Sys2Proof.Machine.execStoreDone fails noBlock s
  | .resetCommand => Sys2Proof.Machine.execResetCommand s
  | .verifyRequest => Sys2Proof.Machine.execVerifyRequest s
  | .switchRequest => Sys2Proof.Machine.execSwitchRequest s
  | .bankCheckDone => Sys2Proof.Machine.execBankCheckDone s
  | .jointSwapRequest => Sys2Proof.Machine.execJointSwapRequest s
  | .swapRequest a => Sys2Proof.Machine.execSwapRequest a s
  | .frameCounterRead => Sys2Proof.Machine.execFrameCounterRead s
  | .readClear a => Sys2Proof.Machine.execReadClear a s
  | .writeRegister a v => Sys2Proof.Machine.execWriteRegister a v s
  | .rateRead n => Sys2Proof.Machine.execRateRead n s
  | .frameOffsetRead => Sys2Proof.Machine.execFrameOffsetRead s
  | .faultFrameRead last => Sys2Proof.Machine.execFaultFrameRead last s
  | .wallTimeRead => Sys2Proof.Machine.execWallTimeRead s
  | .powerFailWarningEnd => Sys2Proof.Machine.execPowerFailWarningEnd s
  | .modulatorDataResumed c => Sys2Proof.Machine.execModulatorDataResumed c s

end Sys2Proof.Machine
end

