-- ==== Sys2Proof/Machine/Pads.lean ====
section
/-! DEFINITION. The levels of the output pads (R692–R694): what the module drives now, none where a pad is high-impedance. Serial pads show
the level at which they rest between the bits they send; the bit streams themselves are out of the model (log 127). -/

namespace Sys2Proof.Machine

/-- AXn_PWM0 to AXn_PWM5: high-impedance in RESET (R692) and while the claim comparator does not allow, and until 2.0 µs after it began
to allow (R576, log 151); driven low in LOAD, LOAD_FAIL and CONFIG (R674) and on an absent axis (R694). -/
def State.axPins (s : State) (n : Nat) : List (Option Bool) :=
  if s.mode == .RESET then List.replicate 6 none
  else if !s.hasAx n || !s.mode.runs then List.replicate 6 (some false)
  else if s.fio.allow && decide (s.fio.alwT + 400 ≤ s.now) then (s.axPads n).map some
  else List.replicate 6 none

/-- OUT0–OUT15 and the channels SAFE_A1, SAFE_A2, SAFE_B1, SAFE_B2 (R407, R410, R693). -/
def State.outPins (s : State) : Nat × Nat := (s.outLv, s.conducts)

/-- INT_N is driven low while GEN = 1 and INT_SUM is not 0, and released otherwise (R613). -/
def State.intPin (s : State) : Option Bool :=
  if s.flag Addr.INT_CFG Fl.INT_CFG_GEN && s.view Addr.INT_SUM != 0 then some false else none

/-- The sixteen bits that every word on CLAIM_OUT carries (R575), claim 0 before the first release; none, the pad low, while the field
island has no supply (R693). -/
def State.claimOut (s : State) : Option Nat :=
  let c := if s.fio.zero then 0 else s.rf Addr.PAIR_CLAIM Fl.PAIR_CLAIM_CLAIM
  if s.fio.up then some (0b1010 * 4096 + c * 256 + (15 - c) * 16 + 0b0101) else none

/-- NRG_PLS (R447). -/
def State.plsPin (s : State) : Bool := s.nrg.lvl

/-- A logic-island pad: high-impedance and without pull while VDD_IO is below its brown-out level (R692). -/
def State.logicPad {α : Type} (s : State) (v : Option α) : Option α := if s.pwr.inReset then none else v

/-- AXn_PWM0 to AXn_PWM5 on the pads. -/
def State.axPinsOut (s : State) (n : Nat) : List (Option Bool) := (s.axPins n).map s.logicPad

/-- FBn_AO, FBn_BO and FBn_ZO, bits 0 to 2: low in reset (R145, R146). -/
def State.fbOutPins (s : State) (n : Nat) : Option Nat := s.logicPad (some (if s.mode == .RESET then 0 else s.fbPads n))

/-- FBn_A: an input, but in MODE 3 and 4 a clock output that idles high (R111, R692). -/
def State.fbClkPin (s : State) (n : Nat) : Option Bool :=
  s.logicPad (if s.mode != .RESET && (s.fbMode n == 3 || s.fbMode n == 4) then some true else none)

/-- SD_CLK (R429) and NRG_PLS (R447). -/
def State.sdClkPin (s : State) : Option Bool := s.logicPad (some s.sdClk)
def State.plsPinOut (s : State) : Option Bool := s.logicPad (some s.plsPin)

/-- CANx_TXD rests high, in reset and while the controller takes no part in the bus too. -/
def State.canTxdPin (s : State) : Option Bool := s.logicPad (some true)

/-- CANx_STB: high in reset and while EN = 0, otherwise as the sleeping controller asks (R483, R484). -/
def State.canStbPin (s : State) (x : Nat) : Option Bool :=
  s.logicPad (some (s.mode == .RESET || !(s.canS x).effEn || s.canStb x))

/-- HL_TXD rests at 1; HL_DE is high from two bit times before a response until one after it (R531). -/
def State.hlTxdPin (s : State) : Option Bool := s.logicPad (some true)
def State.hlDePin (s : State) : Option Bool := s.logicPad (some (s.mode != .RESET && decide (s.now < s.hlk.deT)))

/-- PL_TX: high-impedance in reset; then the packets of the running frame, word by word (R560, R562). -/
def State.plTxPin (s : State) : Option (List (List Word)) :=
  s.logicPad (if s.mode == .RESET then none else some (s.pair.tx.map PPkt.wire))

/-- INT_N on the pad. -/
def State.intPinOut (s : State) : Option Bool := s.logicPad s.intPin

end Sys2Proof.Machine
end

