-- ==== Sys2Proof/Safety.lean ====
section
/-! DEFINITION. What claims call a safe and settled module. -/

namespace Sys2Proof.Machine

/-- Nothing is left to answer: no raised fault waits, no record waits for its number. -/
def State.quiet (s : State) : Bool := decide (s.raised = []) && decide (s.rcd.queue = [])

/-- A module that dropped its claim claims nothing (R573). -/
def State.dropHeld (s : State) : Bool := s.pair.drop == 0 || s.rf Addr.PAIR_CLAIM Fl.PAIR_CLAIM_CLAIM == 0

/-- A safety channel that conducts is armed, demanded, and open to no gate: the guard's enable, the comparator, the fault response,
the silent-logic safe state, FIELD_24 and the status pulses (R410). -/
def State.chanSafe (s : State) (i : Nat) : Bool :=
  !bitOf s.fio.cond i ||
    (bitOf s.fio.arm i && bitOf s.fio.rel (16 + i / 2) && s.guardEn && s.fio.allow && !bitOf s.fio.fgate (i / 2) && !s.fio.silent &&
      !s.fstat Fl.FIO_STAT_UVF && !s.fstat Fl.FIO_STAT_FLOST && s.fio.up)

/-- Every safety channel. -/
def State.chansSafe (s : State) : Bool := s.chanSafe 0 && s.chanSafe 1 && s.chanSafe 2 && s.chanSafe 3

/-- The outputs are allowed only to a module whose claim wins (R576) and that does not yield. -/
def State.allowSafe (s : State) : Bool := !s.fio.allow || s.compare

/-- What every command leaves (see Obligations.EveryStepKeepsSafety). -/
def State.Inv (s : State) : Prop :=
  s.frm < 2 ^ 48 ∧ s.quiet = true ∧ s.dropHeld = true ∧ s.chansSafe = true ∧ s.allowSafe = true ∧ (s.running = false → s.pst Fl.PAIR_STAT_YIELD = true)

/-- A command completes: it answers a next state of which P holds. -/
def Completes (c : Instr) (s : State) (P : State → Prop) : Prop := ∃ t, exec c s = .next t ∧ P t

/-- Slot k of the running sheaf is operation op of a unit, and may run now (R75, R76, R78). -/
def State.due (s : State) (k unit op : Nat) (sl : Slot) : Prop := s.slot? k unit op = some sl

/-- The module is out of RESET, so that the control path and the units answer. -/
def State.awake (s : State) : Prop := s.mode ≠ .RESET

/-- No bank switch is pending and the module is not the standby of a pair: writes that are applied at a boundary are accepted (R83, R580). -/
def State.taking (s : State) : Prop := s.awake ∧ s.standby = false ∧ s.flag Addr.SCH_BANK Fl.SCH_BANK_SWPEND = false

/-- Room for n more words in a hopper; 0xFF takes none (R61). -/
def State.room (s : State) (h n : Nat) : Prop := h ≠ 0xFF ∧ (s.hop h).length + n ≤ s.depth h

/-- The module rests: no raise and no record, numbered or not, waits for an answer. -/
def State.rests (s : State) : Prop := s.raised = [] ∧ s.rcd.queue = [] ∧ s.rcd.wait = []

/-- A host request is fresh: it comes to this module outside HL_DE (R531), with no response due, its TAG holds no
result and a result place is free (R544, R545). -/
def State.freshReq (s : State) (r : HReq) : Prop :=
  s.awake ∧ (s.at r.cyc).unheard r.body.length = false ∧ s.hlk.due = none ∧ r.body.length ≤ 1032 ∧ r.addr = s.id.addr ∧ s.hlk.held.find? (fun h => h.tag == r.tag) = none ∧ s.hlk.held.length < 8

/-- A module in no pair at which no boot, load or failed switch waits for the boundary. -/
def State.plain (s : State) : Prop :=
  s.awake ∧ s.role = 0 ∧ s.pwr.actDue = none ∧ s.pwr.failDue = none ∧ s.sch.failDue = none

/-- The result of a fresh request of a type is held under its TAG, and a response is due (R545). -/
def State.heldAs (s : State) (typ : Nat) (r : HReq) (b : Option HBody) (t : State) : Prop :=
  t.hlk.held = s.hlk.held ++ [⟨r.tag, reqCrc typ r, typ, b⟩] ∧
  t.hlk.due = some ⟨typ, r.tag, false, typ, r.tag, none, s.ecyc + r.cyc, b.isNone, s.rf Addr.HLK_CFG Fl.HLK_CFG_TAEXT⟩

/-! ### What the end of a command may change (see Laws/Settle.lean) -/

/-- Registers that the end of a command may write. -/
def settleReg (b : Nat) : Prop :=
  (∃ g, g < 16 ∧ b = Addr.INT_CAUSE g) ∨ b ∈ [Addr.FLT_STAT, Addr.FLT_FIRST, Addr.FLT_LAST, Addr.FLT_COUNT, Addr.FLT_GCNT, Addr.REC_STAT, Addr.REC_DROPCNT,
    Addr.REC_GEN, Addr.PAIR_CLAIM, Addr.PAIR_STAT, Addr.FIO_SSTAT, Addr.FIO_STAT]

/-- Two fields of a register that share no bit. -/
def Fld.apart (f g : Fld) : Prop := f.lo + f.w ≤ g.lo ∨ g.lo + g.w ≤ f.lo

/-- A unit's state without the parts that the end of a command may change. -/
def FioS.core (f : FioS) : FioS :=
  { f with
    allow := false, gapT := 0, gapO := false, held := 0, gPrev := false, cond := 0, arm := 0, fgate := 0, gk := 0, drv := 0, cmpT := none, alwT := 0 }
def StpS.rest (x : StpS) : StpS := { x with ext := false }
def DorS.rest (x : DorS) : DorS := { x with imm := false }
def PairS.core (p : PairS) : PairS := { p with tx := [] }
def CiaS.core (c : CiaS) : CiaS := { c with emq := [], hist := [], act := false }
def CanS.core (c : CanS) : CanS := { c with tx := [] }
def FltS.core (f : FltS) : List (Nat × Nat) × Bool × Nat × Option (Nat × Nat) × Nat := (f.corr, f.scrubOn, f.scrubW, f.crcMem, f.crcReg)
def RecS.core (r : RecS) : Nat × Nat × Nat × Bool := (r.clkW, r.clkC, r.clkE, r.pfmode)

end Sys2Proof.Machine
end

