-- ==== Sys2Proof/Frames.lean ====
section
/-! DEFINITION. What each command may change: the parts of the state (every other part stays) and the group of commands it stands in.
The end of every command (`State.settle`: captured faults, interrupt causes, records, claim and safe outputs, Keep in
Laws/Settle.lean) is left out of every part. -/

namespace Sys2Proof.Machine

/-- A part of the state: memory, frame counter, status that waits for the commit, schedule, hoppers, one per unit, the registers of a page. -/
inductive Part
| mem | frm | status | sch | hops | fb | ax | drv | dor | thr | stp | bid | nrg | hdl | fio | pair | flt | rcd | loft | pwr | hlk | sdo | cia
| can (x : Nat)
| page (p : Nat)
deriving DecidableEq, Repr

/-- Pages from `p` on. -/
def Part.pages (p n : Nat) : List Part := (List.range n).map (fun k => .page (p + k))

/-- Every part. -/
def Part.all : List Part :=
  [.mem, .frm, .status, .sch, .hops, .fb, .ax, .drv, .dor, .thr, .stp, .bid, .nrg, .hdl, .fio, .pair, .flt, .rcd, .loft, .pwr, .hlk, .sdo, .cia,
    .can 0, .can 1] ++ Part.pages 0 27

/-- An axis stands still after an immediate stop. -/
def AxS.halted (x : AxS) : Prop := x.mot = .idle ∧ x.v = 0 ∧ x.a = 0

/-- A part is the same in two states. The end of a command may stop axes for a fault of trip class (R182, R595), of which the stop table and the doors
take note (`rest`), and changes of a unit only what its `core` leaves out. -/
def State.sameIn (s t : State) : Part → Prop
  | .mem => ∀ a, t.mb a = s.mb a
  | .frm => t.frm = s.frm ∧ t.ecyc = s.ecyc
  | .status => t.pend = s.pend ∧ t.smem = s.smem ∧ t.intp = s.intp
  | .sch => t.sch = s.sch
  | .hops => t.hops = s.hops
  | .fb => t.fb = s.fb
  | .ax => ∀ n, n < 6 → t.axS n = s.axS n ∨ (t.axS n).halted
  | .drv => t.drv = s.drv
  | .dor => ∀ d, d ≤ 4 → (t.dorS d).rest = (s.dorS d).rest
  | .thr => t.thr = s.thr
  | .stp => t.stp.rest = s.stp.rest
  | .bid => t.bid = s.bid
  | .nrg => t.nrg = s.nrg
  | .hdl => t.hdl = s.hdl
  | .fio => t.fio.core = s.fio.core
  | .pair => t.pair.core = s.pair.core
  | .flt => t.flt.core = s.flt.core
  | .rcd => t.rcd.core = s.rcd.core
  | .loft => t.loft = s.loft
  | .pwr => t.pwr = s.pwr
  | .hlk => t.hlk = s.hlk
  | .sdo => t.sdo = s.sdo
  | .cia => t.cia.core = s.cia.core
  | .can x => x < 2 → (t.canS x).core = (s.canS x).core
  | .page p => (∀ b, b / 0x1000 = 0x40000 + p → ¬ settleReg b → t.rd b = s.rd b) ∧
    (p = 11 → ∀ f : Fld, f.lo + f.w ≤ 32 → Fld.apart Fl.FIO_STAT_SAFEACT f → t.rf Addr.FIO_STAT f = s.rf Addr.FIO_STAT f) ∧
    (p = 7 → ∀ f : Fld, f.lo + f.w ≤ 32 → Fld.apart Fl.PAIR_STAT_YIELD f → Fld.apart Fl.PAIR_STAT_ALLOW f → Fld.apart Fl.PAIR_STAT_LINECL f →
      t.rf Addr.PAIR_STAT f = s.rf Addr.PAIR_STAT f)

/-- The files of the meanings, by what their commands have in common. -/
inductive Group
| frame
| slots
| feedback
| motion
| doors
| stops
| group
| guard
| field
| energy
| can
| services
| host
| pair
| faults
| crc
| recorder
| power
| bank
| reads
deriving DecidableEq, Repr

/-- The group of a command. -/
def groupOf : Instr → Group
  | .frameBoundary _ | .release | .frameCommit | .accumulationIntervalEnd | .hopperCheck _ | .frameOverrun _ _ | .backgroundCrcPass | .hmove _
  | .inLatch _
    => .frame
  | .edgePop _ | .outStage _ | .fbLatch _ | .fbSpeed _ | .sdTake _ | .rms _ | .acc _ | .rxTake _ | .txStage _ | .imgTake _ | .imgSend _ | .fmaBlk _ _
  | .piLoop _ _ | .pidLoop _ _ | .plaus _ _ | .blend _ _ | .segEval _ | .limChk _ | .homeStep _ | .envelope _ _ | .termChk _ _ | .ovsChk _ _
  | .shaftChk _ _ | .zoneChk _ _ | .ucmChk _ _ | .stopScan _ | .stpCommit _ | .cost _ | .bidStage _ | .doorSeq _ | .forceEst _ | .pwmStage _
  | .stepStage _ | .chopUpd _ | .smemLoad _ | .smemStore _ | .compareLoad _ _
    => .slots
  | .quadratureEdge _ _ _ _ | .hallTransition _ _ _ | .qualifiedIndex _ _ | .serialWord _ _ _ _ _ _ _ | .serialTimeout _ | .standstill _
  | .posSet _ | .zrefClr _ | .zarm _ | .positionSnapshotRead _
    => .feedback
  | .axMove _ | .axTable _ | .axHalt _ | .axAbort _ | .axHome _ | .chatClr _ | .posset _ | .dwellElapsed _ | .homingTimeout _ _ | .chatterLatch _ _
  | .currentReduction _ _ | .stepIssued _ _ | .overcurrent _ _ _ | .ocClear _ | .drivePhaseEnd _ _ _ _ _ | .decayPhaseEnd _ _ _ _
    => .motion
  | .doorOpen _ | .doorClose _ | .doorNudge _ | .doorStop _ | .doorFreset _ | .holdTimerExpiry _ _ | .tlockExpiry _ _ | .tmoveExceeded _ _
    => .doors
  | .setCc _ | .clearCc _ | .awardHu _ | .awardHd _ | .withdrawHu _ | .withdrawHd _ | .clearEveryCc | .addDestinationRecord _ _ _ _ | .resume
  | .tstartExpiry _ | .relevelTrigger | .relevelTimeout _
    => .stops
  | .hallCallWord _ | .dupclr | .announce _ _ | .tick _ _ | .bid _ _ | .holdFrame _ _ | .closeFrame _ _ | .status _ _ | .statusPeriod
  | .holdPublication _ | .carAbsent _
    => .group
  | .tripclr | .guardArmed | .overspeed | .escalationTrip _ | .neighbourRecordMissing | .zoneDisagreement
    => .guard
  | .inputChange _ _ _ _ | .edgeAccepted _ _ _ | .runAbandoned _ _ _ | .staleInput _ _ | .staleFlagClear _ | .tapDiscrepancy _ _
  | .readbackDisagreement _ | .safetyChannelStuck _ | .safetyChannelFailed _ | .outputOverload _ | .silentLogic _ | .fieldStart | .field24Warning
  | .field24Fault | .field24Recovered _ | .fieldLost | .fieldPulsesResumed _ | .arma | .armb | .edgeRecordRead _
    => .field
  | .clr | .snap | .modulatorStuck _ | .forcedBoundary | .checkpoint | .pulseStart | .pulseHighEnd | .pulseLowEnd
    => .energy
  | .canFrameReceived _ _ _ _ | .transmitStart _ _ | .arbitrationLost _ _ | .transmitComplete _ _ _ | .alone _ | .busError _ _ _
  | .releaseInstantDue _ _ _ | .req _ | .cancel _ | .borq _ | .busOffRecoveryDone _ | .integrationDone _ | .sleep _ | .sleepEntry _ | .wake _
  | .wakeEvent _ | .lockTimeout _ _ | .rxWindowRead _ _ | .rxSelect _ _ | .hpBufferRead _
    => .can
  | .sdoDownloadInitiate _ _ _ | .sdoUploadInitiate _ _ _ | .sdoSegment _ _ _ | .sdoTimeout _ _ | .startRemoteNode _ | .stopRemoteNode _
  | .enterPreOperational _ | .resetNode _ | .resetCommunication _ | .bootUp _ | .heartbeat _ | .emcySend _
    => .services
  | .epoch _ | .ident _ | .objRead _ | .objWrite _ | .regRead _ | .regWrite _ | .bulkOpen _ | .bulkData _ | .bulkClose _ | .recRead _ | .fetch _
  | .hostFrameError _ | .response _ _ | .epochLost _ | .bulkSessionTimeout _
    => .host
  | .beaconReceived _ _ _ | .imageReceived _ _ _ | .markerReceived _ _ _ _ | .pairLinkLost | .claimWord _ _ | .peerClaimTimeout _ | .gapHoldEnd _
  | .takeover | .peerWaitTimeout _ | .discord | .handreq | .resync
    => .pair
  | .sdlyExpired _ | .handlingEnd _ | .rearm | .ack | .holdOffEnd _ | .windowEnd _ _ | .reportDrop _ _
    => .faults
  | .crcPreset _ | .crcStart | .crcOpen | .crcData _ | .crcClose | .crcAbort | .crcJobDone _
    => .crc
  | .flush | .flushTimer _ | .flushEnd _ | .eraseDone _ | .clear | .wallTimeSet _ | .recordWindowRead | .loftScanDone _
    => .recorder
  | .powerOnReset | .brownOut | .resetPad | .railOutOfRange _ _ | .railRecovered _ | .oscillatorStable | .pllLock _ | .resetEnd | .memoryInitDone
  | .bootSlotChecked | .pllLockLost | .powerFailWarning | .configCommand | .readyCommand | .runCommand | .holdCommand | .fclr | .loadCommand
  | .loadCheckDone | .storeCommand | .storeDone _ _ | .resetCommand
    => .power
  | .verifyRequest | .switchRequest | .bankCheckDone | .jointSwapRequest | .swapRequest _
    => .bank
  | .frameCounterRead | .readClear _ | .writeRegister _ _ | .rateRead _ | .frameOffsetRead | .faultFrameRead _ | .wallTimeRead | .powerFailWarningEnd
  | .modulatorDataResumed _
    => .reads

/-- The parts a command may change. -/
def touches : Instr → List Part
  | .frameBoundary _ | .powerOnReset | .brownOut | .resetPad | .pllLockLost | .resetCommand
    => Part.all
  | .release
    => [.ax, .drv, .fio, .nrg, .page 7, .page 11, .page 12] ++ Part.pages 20 6
  | .frameCommit
    => [.ax, .bid, .can 0, .can 1, .fb, .hdl, .hops, .status, .mem, .nrg, .pair, .rcd, .sch, .stp, .thr] ++ Part.pages 0 27
  | .accumulationIntervalEnd
    => [.nrg, .status, .page 12, .page 14]
  | .hopperCheck _
    => [.bid, .can 0, .can 1, .fio, .flt, .hlk, .hops, .mem, .pair, .rcd, .sch, .thr, .page 2, .page 4, .page 5, .page 6, .page 7, .page 11, .page 14, .page 15]
  | .frameOverrun _ _
    => [.ax, .drv, .hops, .pair, .sch, .page 2] ++ Part.pages 20 6
  | .backgroundCrcPass
    => [.ax, .drv, .hops, .pair, .sch] ++ Part.pages 20 6
  | .hmove _ | .inLatch _ | .smemLoad _
    => [.hops, .sch, .page 2]
  | .edgePop _ | .outStage _
    => [.fio, .hops, .sch, .page 2]
  | .fbLatch _ | .standstill _
    => [.fb]
  | .fbSpeed _
    => [.status]
  | .sdTake _
    => [.hops, .status, .nrg, .sch, .page 2, .page 12]
  | .rms _ | .forcedBoundary
    => [.status, .nrg]
  | .acc _ | .pulseHighEnd | .pulseLowEnd
    => [.nrg]
  | .rxTake _ | .txStage _
    => [.can 0, .can 1, .hops, .sch, .page 2]
  | .imgTake _
    => [.ax, .bid, .can 0, .can 1, .cia, .dor, .drv, .fb, .fio, .hdl, .nrg, .pair, .status, .rcd, .sch, .stp, .thr] ++ Part.pages 0 27
  | .imgSend _
    => [.can 0, .can 1, .cia, .pair, .status, .sch, .thr, .page 2, .page 7, .page 15, .page 17]
  | .fmaBlk _ _ | .blend _ _
    => [.ax, .drv, .hops, .pair, .sch, .status, .thr, .page 2, .page 17] ++ Part.pages 20 6
  | .piLoop _ _ | .pidLoop _ _
    => [.ax, .drv, .hops, .status, .pair, .sch, .thr, .page 2, .page 17] ++ Part.pages 20 6
  | .plaus _ _
    => [.ax, .drv, .hops, .pair, .status, .sch, .page 2, .page 17] ++ Part.pages 20 6
  | .segEval _
    => [.ax, .hdl, .hops, .status, .sch, .page 2]
  | .limChk _ | .stepStage _
    => [.ax, .status]
  | .homeStep _
    => [.ax, .dor, .fb, .stp] ++ Part.pages 20 7
  | .envelope _ _ | .termChk _ _ | .ovsChk _ _ | .shaftChk _ _ | .ucmChk _ _
    => [.ax, .drv, .hdl, .hops, .status, .pair, .sch, .page 17] ++ Part.pages 20 6
  | .zoneChk _ _
    => [.ax, .drv, .hdl, .hops, .pair, .status, .sch, .page 13, .page 17] ++ Part.pages 20 6
  | .stopScan _
    => [.hops, .status, .sch, .stp, .page 2, .page 15]
  | .stpCommit _
    => [.bid, .hops, .status, .sch, .stp, .page 2, .page 15]
  | .cost _ | .bidStage _
    => [.bid, .hops, .status, .sch, .page 2, .page 14]
  | .doorSeq _
    => [.ax, .dor, .hops, .status, .sch, .page 2, .page 18]
  | .forceEst _
    => [.ax, .dor, .drv, .hops, .status, .sch, .stp, .page 2] ++ Part.pages 20 6
  | .pwmStage _ | .chopUpd _
    => [.drv, .hops, .sch, .page 2]
  | .smemStore _
    => [.hops, .sch, .status, .page 2]
  | .compareLoad _ _
    => [.drv]
  | .quadratureEdge _ _ _ _ | .hallTransition _ _ _ | .qualifiedIndex _ _ | .serialWord _ _ _ _ _ _ _ | .serialTimeout _
    => [.fb] ++ Part.pages 20 7
  | .posSet _ | .positionSnapshotRead _
    => [.fb, .page 0]
  | .zrefClr _ | .zarm _
    => [.fb, .page 0] ++ Part.pages 20 7
  | .axMove _ | .axTable _ | .axHalt _ | .axAbort _ | .axHome _ | .chatClr _ | .posset _
    => [.ax, .dor, .status, .stp, .page 0] ++ Part.pages 20 6
  | .dwellElapsed _ | .homingTimeout _ _ | .currentReduction _ _
    => [.ax]
  | .chatterLatch _ _
    => [.ax] ++ Part.pages 20 6
  | .stepIssued _ _ | .decayPhaseEnd _ _ _ _
    => [.ax, .drv]
  | .overcurrent _ _ _
    => [.ax, .drv] ++ Part.pages 20 6
  | .ocClear _
    => [.ax, .drv, .page 0] ++ Part.pages 20 6
  | .drivePhaseEnd _ _ _ _ _
    => [.ax, .drv, .status] ++ Part.pages 20 6
  | .doorOpen _ | .doorClose _ | .doorNudge _ | .doorStop _ | .doorFreset _
    => [.ax, .dor, .status, .page 0, .page 18]
  | .holdTimerExpiry _ _
    => [.ax, .dor, .status]
  | .tlockExpiry _ _
    => [.dor, .status, .page 18]
  | .tmoveExceeded _ _
    => [.ax, .dor, .status, .page 18]
  | .setCc _ | .clearCc _ | .awardHu _ | .awardHd _ | .withdrawHu _ | .withdrawHd _ | .clearEveryCc | .addDestinationRecord _ _ _ _
    => [.status, .stp, .page 0, .page 15]
  | .resume
    => [.page 0, .page 15]
  | .tstartExpiry _ | .relevelTimeout _
    => [.status, .stp, .page 15]
  | .relevelTrigger
    => [.status, .stp]
  | .hallCallWord _
    => [.bid, .status, .page 0, .page 14]
  | .dupclr
    => [.page 0, .page 14]
  | .announce _ _ | .tick _ _ | .bid _ _ | .holdFrame _ _ | .closeFrame _ _ | .status _ _
    => [.bid, .status, .page 14]
  | .statusPeriod | .holdPublication _ | .carAbsent _
    => [.bid]
  | .tripclr
    => [.hdl, .status, .page 0]
  | .guardArmed | .overspeed | .escalationTrip _ | .neighbourRecordMissing
    => [.hdl, .status]
  | .zoneDisagreement
    => [.hdl, .status, .page 13]
  | .inputChange _ _ _ _ | .runAbandoned _ _ _ | .outputOverload _ | .silentLogic _ | .claimWord _ _ | .peerClaimTimeout _ | .gapHoldEnd _
    => [.fio]
  | .edgeAccepted _ _ _ | .tapDiscrepancy _ _ | .readbackDisagreement _ | .safetyChannelStuck _ | .safetyChannelFailed _ | .fieldStart | .field24Fault
  | .field24Recovered _ | .fieldLost | .fieldPulsesResumed _
    => [.fio, .page 11]
  | .staleInput _ _ | .field24Warning
    => [.page 11]
  | .staleFlagClear _ | .arma | .armb | .edgeRecordRead _
    => [.fio, .page 0, .page 11]
  | .clr
    => [.bid, .loft, .nrg, .status, .rcd, .page 0, .page 6, .page 12]
  | .snap
    => [.status, .page 0, .page 12]
  | .modulatorStuck _ | .modulatorDataResumed _
    => [.page 12]
  | .checkpoint
    => [.loft, .nrg, .status, .rcd, .page 6, .page 12]
  | .pulseStart
    => [.nrg, .page 12]
  | .canFrameReceived _ _ _ _
    => [.ax, .bid, .can 0, .can 1, .cia, .dor, .drv, .fb, .fio, .flt, .status, .loft, .rcd, .sch, .sdo, .stp, .thr] ++ Part.pages 0 27
  | .transmitStart _ _ | .arbitrationLost _ _
    => [.can 0, .can 1]
  | .transmitComplete _ _ _
    => [.can 0, .can 1, .flt, .page 4, .page 9, .page 10]
  | .alone _ | .integrationDone _ | .sleepEntry _
    => [.page 9, .page 10]
  | .busError _ _ _ | .busOffRecoveryDone _ | .wakeEvent _ | .lockTimeout _ _
    => [.can 0, .can 1, .page 9, .page 10]
  | .releaseInstantDue _ _ _
    => [.can 0, .can 1, .page 14]
  | .req _ | .cancel _ | .borq _ | .sleep _ | .rxWindowRead _ _
    => [.can 0, .can 1, .page 0]
  | .wake _ | .rxSelect _ _
    => [.can 0, .can 1, .page 0, .page 9, .page 10]
  | .hpBufferRead _
    => [.page 0, .page 9, .page 10]
  | .sdoDownloadInitiate _ _ _ | .sdoSegment _ _ _
    => [.ax, .bid, .can 0, .can 1, .cia, .dor, .drv, .fio, .flt, .status, .loft, .rcd, .sch, .sdo, .stp, .thr] ++ Part.pages 0 27
  | .sdoUploadInitiate _ _ _
    => [.can 0, .can 1, .cia, .fb, .fio, .status, .sch, .sdo, .thr] ++ Part.pages 0 27
  | .sdoTimeout _ _
    => [.can 0, .can 1, .sdo, .page 0]
  | .startRemoteNode _ | .stopRemoteNode _ | .enterPreOperational _ | .resetNode _ | .resetCommunication _
    => [.cia, .sch, .page 2, .page 15]
  | .bootUp _ | .emcySend _
    => [.can 0, .can 1, .cia]
  | .heartbeat _
    => [.can 0, .can 1, .cia, .sch, .page 2, .page 15]
  | .epoch _
    => [.hlk, .rcd, .page 6, .page 8]
  | .ident _ | .bulkOpen _ | .bulkClose _ | .recRead _ | .hostFrameError _
    => [.hlk, .page 0, .page 8]
  | .objRead _
    => [.can 0, .can 1, .cia, .fb, .fio, .hlk, .status, .sch, .thr] ++ Part.pages 0 27
  | .objWrite _
    => [.ax, .bid, .can 0, .can 1, .cia, .dor, .drv, .fio, .flt, .hlk, .status, .loft, .rcd, .sch, .stp, .thr] ++ Part.pages 0 27
  | .regRead _
    => [.can 0, .can 1, .fb, .fio, .hlk] ++ Part.pages 0 27
  | .regWrite _
    => [.ax, .bid, .can 0, .can 1, .dor, .drv, .fio, .flt, .hlk, .status, .loft, .rcd, .sch, .stp, .thr] ++ Part.pages 0 27
  | .bulkData _
    => [.hlk, .mem, .page 0, .page 2, .page 8]
  | .fetch _ | .response _ _
    => [.hlk, .page 8]
  | .epochLost _
    => [.page 8]
  | .bulkSessionTimeout _
    => [.hlk]
  | .beaconReceived _ _ _ | .pairLinkLost | .takeover | .peerWaitTimeout _
    => [.can 0, .can 1, .hlk, .pair, .sdo, .page 2, .page 7, .page 15, .page 17, .page 18] ++ Part.pages 20 6
  | .imageReceived _ _ _ | .markerReceived _ _ _ _
    => [.pair, .page 7]
  | .discord
    => [.page 7]
  | .handreq
    => [.pair, .page 0]
  | .resync
    => [.pair, .page 0, .page 7]
  | .sdlyExpired _ | .handlingEnd _
    => [.fio, .flt]
  | .rearm | .ack
    => [.flt, .page 0, .page 4]
  | .holdOffEnd _
    => [.flt]
  | .windowEnd _ _
    => [.flt, .rcd]
  | .reportDrop _ _
    => [.can 0, .can 1, .flt, .rcd, .page 4]
  | .crcPreset _
    => [.page 0, .page 5]
  | .crcStart | .crcOpen | .crcData _ | .crcClose | .crcAbort
    => [.flt, .page 0, .page 5]
  | .crcJobDone _
    => [.flt, .page 5]
  | .flush | .wallTimeSet _
    => [.rcd, .page 0, .page 6]
  | .flushTimer _
    => [.rcd, .page 6]
  | .flushEnd _ | .eraseDone _
    => [.loft, .rcd, .page 6]
  | .clear
    => [.loft, .rcd, .page 0, .page 6]
  | .recordWindowRead | .wallTimeRead
    => [.page 0, .page 6]
  | .loftScanDone _
    => [.bid, .nrg, .status, .pwr, .rcd, .page 1, .page 6, .page 12]
  | .railOutOfRange _ _
    => [.pair, .page 1]
  | .railRecovered _ | .powerFailWarningEnd
    => [.page 1]
  | .oscillatorStable | .pllLock _
    => [.pwr, .page 1]
  | .resetEnd
    => [.ax, .can 0, .can 1, .dor, .drv, .frm, .fio, .flt, .hops, .status, .pair, .pwr, .rcd, .sch, .page 1, .page 2, .page 9, .page 10, .page 11, .page 17] ++ Part.pages 20 6
  | .memoryInitDone
    => [.flt, .mem, .pwr, .page 1]
  | .bootSlotChecked
    => [.mem, .pwr, .page 1, .page 2]
  | .powerFailWarning
    => [.loft, .status, .pwr, .rcd, .page 1, .page 6, .page 12]
  | .configCommand | .readyCommand | .runCommand | .holdCommand
    => [.ax, .can 0, .can 1, .dor, .drv, .hops, .status, .rcd, .sch, .page 0, .page 1, .page 2, .page 9, .page 10, .page 17] ++ Part.pages 20 6
  | .fclr
    => [.ax, .can 0, .can 1, .dor, .drv, .hops, .status, .rcd, .sch, .fio, .page 0, .page 1, .page 2, .page 9, .page 10, .page 17] ++ Part.pages 20 6
  | .loadCommand
    => [.ax, .can 0, .can 1, .dor, .drv, .hops, .status, .rcd, .sch, .pwr, .page 0, .page 1, .page 2, .page 9, .page 10, .page 17] ++ Part.pages 20 6
  | .loadCheckDone
    => [.pwr, .page 2]
  | .storeCommand
    => [.pwr, .loft, .page 0, .page 1]
  | .storeDone _ _
    => [.loft, .pwr, .rcd, .page 1, .page 6]
  | .verifyRequest | .switchRequest
    => [.sch, .page 0, .page 2]
  | .bankCheckDone
    => [.sch, .hlk, .page 2]
  | .jointSwapRequest
    => [.sch, .thr, .page 0, .page 2, .page 15, .page 17, .page 18] ++ Part.pages 20 6
  | .swapRequest _
    => [.sch, .thr, .page 0, .page 15, .page 17, .page 18] ++ Part.pages 20 6
  | .frameCounterRead
    => [.page 0, .page 2]
  | .readClear _
    => [.can 0, .can 1, .fb, .fio] ++ Part.pages 0 27
  | .writeRegister _ _
    => [.ax, .bid, .can 0, .can 1, .dor, .drv, .fio, .flt, .status, .loft, .rcd, .sch, .stp, .thr] ++ Part.pages 0 27
  | .rateRead _
    => [.page 0] ++ Part.pages 20 6
  | .frameOffsetRead
    => [.page 0, .page 7]
  | .faultFrameRead _
    => [.page 0, .page 4]

/-- A command, where it answers a next state, changes only the parts `touches` gives it. -/
def framed (c : Instr) (s : State) : Prop := ∀ t, exec c s = .next t → ∀ p, p ∉ touches c → s.sameIn t p

end Sys2Proof.Machine
end

