-- ==== Sys2Proof/Certificates/Slice0/Obligations.lean ====
section
/-! DEFINITION. The statements for the provers. `Completes c s P` says that the command answers a next state of which P holds. -/

open Sys2Proof Sys2Proof.Machine

/-! ### The step, the queue, reset -/

/-- A step takes the command at the front of the queue and is that command on the state with the queue's rest; with an empty queue
the block idles (log entry 2). -/
def Obligations.StepRunsTheFrontCommand : Prop :=
  (∀ (c : Instr) (rest : List Instr) (s : State), step { s with pending := c :: rest } = exec c { s with pending := rest }) ∧
  (∀ s : State, s.pending = [] → step s = .next s)

/-- Every command, whatever its operands and the state, answers a next state with the same identity (R7), the same queue, no raised fault
and no record left to answer (R594, R631). -/
def Obligations.EveryCommandAnswers : Prop :=
  ∀ (c : Instr) (s : State), Completes c s (fun t => t.id = s.id ∧ t.pending = s.pending ∧ t.quiet = true)

/-- HEADLINE. What every command keeps: no raise and no record is left over; a module that dropped its claim claims 0 (R573); a safety
channel conducts only while it is armed, demanded and open to no gate (R410); the outputs are allowed only to a module whose claim
wins (R576); a module whose schedule does not run yields (R579). -/
def Obligations.EveryStepKeepsSafety : Prop :=
  ∀ (s t : State), s.Inv → step s = .next t → t.Inv

/-- The module right after reset is safe in the sense of `State.Inv`. -/
def Obligations.ResetIsSafe : Prop :=
  State.reset.Inv

/-- The module right after reset: module state RESET (R669), frame counter 0 (R55), every byte of the memories 0 (R619), no word in a
hopper (R60), staging empty (R667), role OFF and claim 0 (R667), no fault listed (R604), and memory in canonical form. -/
def Obligations.ResetState : Prop :=
  State.reset.mode = .RESET ∧ State.reset.frm = 0 ∧ (∀ a, State.reset.mb a = 0) ∧ (∀ h, State.reset.hop h = []) ∧
  State.reset.sch.staging = [] ∧ State.reset.role = 0 ∧ State.reset.rf Addr.PAIR_CLAIM Fl.PAIR_CLAIM_CLAIM = 0 ∧ State.reset.flt.act = [] ∧
  Memory.wf State.reset.mem = true ∧ State.reset.pending = []

/-- No command to the logic island has an effect in RESET: the parts of the state that the end of a command does not evaluate anew stay
(R533, R665). Said of a boundary, a register write, a read, a host request, a CAN frame, an edge of a position input and of every
state command. -/
def Obligations.ResetTakesNoCommand : Prop :=
  ∀ (s : State) (c : Instr), s.mode = .RESET →
    (∃ i, c = .frameBoundary i) ∨ (∃ a v, c = .writeRegister a v) ∨ (∃ a, c = .readClear a) ∨ (∃ r, c = .regWrite r) ∨ (∃ r, c = .objWrite r) ∨
      (∃ x y f g, c = .canFrameReceived x y f g) ∨ (∃ n a b y, c = .quadratureEdge n a b y) ∨ c = .configCommand ∨ c = .readyCommand ∨
      c = .runCommand ∨ c = .holdCommand ∨ c = .fclr ∨ c = .loadCommand ∨ c = .storeCommand →
    Completes c s (fun t => t.mem = s.mem ∧ t.frm = s.frm ∧ t.hops = s.hops ∧ t.sch = s.sch ∧ t.fb = s.fb ∧ t.drv = s.drv ∧ t.hlk = s.hlk ∧
      t.loft = s.loft ∧ t.pwr = s.pwr ∧ t.canS 0 = s.canS 0 ∧ t.rd Addr.PWR_MSTATE = s.rd Addr.PWR_MSTATE ∧ t.rd Addr.SCH_CFG = s.rd Addr.SCH_CFG)

/-! ### The frame (chapter 02) -/

/-- The frame counter (R55): 0 at the first frame edge after the PLL locks, plus 1 modulo 2^48 at every frame boundary in every module state but RESET (a boundary that resets the module aside), and nothing else counts
it: not time, not a bank switch, not any other command but a reset. -/
def Obligations.FrameCounter : Prop :=
  (∀ (s : State), s.mode = .RESET → s.pwr.lock = true → Completes .resetEnd s (fun t => t.frm = 0)) ∧
  (∀ (s : State) (i : FrameIn), s.awake → Completes (.frameBoundary i) s (fun t => t.mode ≠ .RESET → t.frm = (s.frm + 1) % 2 ^ 48)) ∧
  (∀ (c : Instr) (s : State), c ≠ .resetEnd → (∀ i, c ≠ .frameBoundary i) → Completes c s (fun t => t.mode ≠ .RESET → t.frm = s.frm))

/-- FRAME_COMMIT (R58): stores and waiting status of the frame come in, in the order in which the slots gave them, for a duty or single
module whose frame completed.
FRAME_COMMIT of a frame whose commit is suppressed (R58, R76): stores, status and interrupts of the frame are discarded, and no byte of
memory changes. -/
def Obligations.FrameCommitActs : Prop :=
  (∀ (s : State), s.running = true → s.sch.noCommit = false → s.role ≠ 2 → s.role ≠ 3 → ¬ (s.role = 4 ∧ s.pair.drop ≠ 0) →
    Completes .frameCommit s (fun t => t.pend = [] ∧ t.smem = [] ∧ t.intp = [] ∧
      ∀ a, t.mb a = ({ s with mem := s.smem.foldl (fun m p => putBytes m p.1 (leBytes 4 p.2.toNat)) s.mem } : State).mb a)) ∧
  (∀ (s : State), s.sch.noCommit = true →
    Completes .frameCommit s (fun t => t.pend = [] ∧ t.smem = [] ∧ t.intp = [] ∧ ∀ a, t.mb a = s.mb a))

/-- FRAME_BOUNDARY acts on the staged state (R98), said of a module in no pair: accepted entries take effect in their order, the last write of a register standing, and their accesses are answered, while an entry accepted late waits for
the next boundary (R85, R87); the frame starts at its new time. A switch that is due makes its sheaf and its bank the running ones, at that sheaf's frame rate, and discards what is still staged (R82, R83). Joint and single
swaps that passed their checks take effect, each counted, and no other (R94, R96). A fault of stop or trip class of READY, RUN or HOLD enters FAULT with cause 7 and cancels a switch (R81, R595). A LOAD or boot that passed enters
READY or CONFIG with its sheaf, one that failed LOAD_FAIL with the word of its check (R669, R677). -/
def Obligations.BoundaryActs : Prop :=
  (∀ (s : State) (i : FrameIn), s.plain → s.flag Addr.SCH_BANK Fl.SCH_BANK_SWPEND = false →
    let due := s.sch.staging.filter (fun e => !e.late)
    (∀ e ∈ due, e.obj = false ∧ ∃ n, n < 6 ∧ e.addr ∈ [Addr.AX_VRUN n, Addr.AX_ARUN n, Addr.AX_JRUN n]) →
    Completes (.frameBoundary i) s (fun t =>
      (∀ n, n < 6 → ∀ a ∈ [Addr.AX_VRUN n, Addr.AX_ARUN n, Addr.AX_JRUN n],
        t.rd a = (match (due.filter (fun e => e.addr == a)).getLast? with | some e => wN e.val | none => s.rd a)) ∧
      t.sch.staging = (s.sch.staging.filter (fun e => e.late)).map (fun e => { e with late := false }) ∧
      (due ≠ [] → t.rd Addr.SCH_STG_FRM = wN s.nextFrm) ∧
      t.hlk.held = s.hlk.held.map (fun r => if r.body.isNone && due.any (fun e => decide (e.src ≤ 1) && e.tag == r.tag) then { r with body := some (.ok []) } else r) ∧
      t.cyc = 0 ∧ (s.pair.trim = 0 → t.ecyc = s.ecyc + s.ncyc) ∧ t.sch.noRelease = false ∧ t.sch.noCommit = false ∧ t.sch.aborted = false)) ∧
  (∀ (s : State) (i : FrameIn) (h : Sheaf), s.plain → s.mode = .READY ∨ s.mode = .HOLD → s.flt.fltDue = false → s.flag Addr.SCH_BANK Fl.SCH_BANK_SWPEND = true → s.sch.next = some h →
    (∀ e ∈ s.sch.staging, e.late = true ∧ (e.obj = true ∨ e.addr ≠ Addr.STP_CALLQ)) →
    Completes (.frameBoundary i) s (fun t => t.sch.active = some h ∧ t.ncyc = ncycOf h.frate ∧ t.rf Addr.SCH_BANK Fl.SCH_BANK_ACT = s.inactive ∧
      t.flag Addr.SCH_BANK Fl.SCH_BANK_SWPEND = false ∧ t.sch.staging = [] ∧ t.mode = s.mode ∧
      t.rd Addr.SCH_STG_REF = wN (satU 32 ((s.rd Addr.SCH_STG_REF).toNat + s.sch.staging.length)))) ∧
  (∀ (s : State) (i : FrameIn), s.plain → s.flag Addr.SCH_BANK Fl.SCH_BANK_SWPEND = false → s.sch.staging = [] → (∀ a ∈ s.sch.jswDue, a ∉ s.sch.swpDue) →
    let due (k : Dbl) : Prop := k.addr ∈ s.sch.jswDue ∨ k.addr ∈ s.sch.swpDue
    Completes (.frameBoundary i) s (fun t => t.sch.jswDue = [] ∧ t.sch.swpDue = [] ∧
      (∀ k ∈ Dbl.all, due k → t.rf k.addr swapCnt = (s.rf k.addr swapCnt + 1) % 65536 ∧ t.rf k.addr swapAct = 1 - s.rf k.addr swapAct ∧ t.rf k.addr swapCmd = 2) ∧
      (∀ k ∈ Dbl.all, ¬ due k → t.rd k.addr = s.rd k.addr) ∧
      (∀ n, n < 6 → due (.table n) → (t.axS n).tab = (s.axS n).tabS ∧ (t.axS n).tabS = (s.axS n).tab) ∧
      (s.sch.jswDue ≠ [] → t.rf Addr.SCH_JSWCTL Fl.SCH_JSWCTL_PEND = 0 ∧ t.rf Addr.SCH_JSWCTL Fl.SCH_JSWCTL_DONE = 1))) ∧
  (∀ (s : State) (i : FrameIn), s.plain → s.mode = .READY ∨ s.mode = .RUN ∨ s.mode = .HOLD → s.flt.fltDue = true → s.sch.staging = [] →
    Completes (.frameBoundary i) s (fun t => t.mode = .FAULT ∧ t.rf Addr.PWR_MSTATE Fl.PWR_MSTATE_PREV = s.mode.code ∧ t.rf Addr.PWR_MSTATE Fl.PWR_MSTATE_CAUSE = 7 ∧
      t.sch.active = s.sch.active ∧ t.rf Addr.SCH_BANK Fl.SCH_BANK_ACT = s.rf Addr.SCH_BANK Fl.SCH_BANK_ACT ∧
      (s.flag Addr.SCH_BANK Fl.SCH_BANK_SWPEND = true → t.flag Addr.SCH_BANK Fl.SCH_BANK_SWPEND = false ∧ t.flag Addr.SCH_BANK Fl.SCH_BANK_CANC = true))) ∧
  (∀ (s : State) (i : FrameIn), s.mode = .LOAD → s.role = 0 → s.sch.staging = [] → s.sch.failDue = none → s.flag Addr.SCH_BANK Fl.SCH_BANK_SWPEND = false →
    (∀ (b c : Nat) (rdy : Bool) (h : Sheaf), b < 2 → c < 16 → s.pwr.actDue = some (b, rdy, c, h) → Completes (.frameBoundary i) s (fun t =>
      t.mode = (if rdy then .READY else .CONFIG) ∧ t.rf Addr.PWR_MSTATE Fl.PWR_MSTATE_CAUSE = c ∧ t.rf Addr.PWR_MSTATE Fl.PWR_MSTATE_PREV = MSt.LOAD.code ∧
      t.sch.active = some h ∧ t.ncyc = ncycOf h.frate ∧ t.rf Addr.SCH_BANK Fl.SCH_BANK_ACT = b ∧ t.pwr.actDue = none)) ∧
    (∀ c w : Nat, c < 16 → s.pwr.actDue = none → s.pwr.failDue = some (c, w) → Completes (.frameBoundary i) s (fun t =>
      t.mode = .LOAD_FAIL ∧ t.rf Addr.PWR_MSTATE Fl.PWR_MSTATE_CAUSE = c ∧ t.rd Addr.SCH_LDCAUSE = wN w ∧ t.sch.active = s.sch.active ∧ t.pwr.failDue = none)))

/-- RELEASE (R57): with the schedule running and the release not suppressed, outside the repeat frame of a take-over, every output and safety demand
takes its owner's command: the word of OUT_STAGE where the sheaf owns it, FIO_HCMD elsewhere (R404–R406), and a member of a parallel group the
command of the group's lowest output (R403). A suppressed release changes no command (R76). -/
def Obligations.ReleaseDrivesTheOutputs : Prop :=
  (∀ (s : State), s.running = true → s.sch.noRelease = false → s.role ≠ 3 →
    Completes .release s (fun t => ∀ k, k < 18 → ∀ j, j = (if k < 16 then lowOf (s.rd Addr.FIO_PAR).toNat k else k) →
      bitOf t.fio.rel k = (if bitOf s.fioOwn j then bitOf s.fio.shadow j else bitOf (s.rd Addr.FIO_HCMD).toNat j))) ∧
  (∀ (s : State), s.sch.noRelease = true → Completes .release s (fun t => t.fio.rel = s.fio.rel))

/-- FRAME_OVERRUN (R76): the frame's slots are aborted, no slot runs from the next boundary on, words in hoppers are lost, the release is
suppressed up to T_EMT and the commit up to T_DRN, and the claim is dropped with cause 3 (R573) unless it had been dropped.
BACKGROUND_CRC_PASS (R77): a pass that finds the stored CRC leaves the schedule alone; one that does not drops the claim with cause 5 and
stops the slots. ACCUMULATION_INTERVAL_END (R437): an interval that ended publishes its registers, and is over. -/
def Obligations.OverrunAndPasses : Prop :=
  (∀ (s : State) (k cyc : Nat) (sh : Sheaf) (sl : Slot), s.running = true → s.sch.aborted = false → s.sch.active = some sh → sh.slots[k]? = some sl →
    Completes (.frameOverrun k cyc) s (fun t => t.sch.aborted = true ∧ t.sch.stopped = true ∧ t.hops = [] ∧
      (cyc ≤ s.tEmt → t.sch.noRelease = true) ∧ (cyc ≤ s.tDrn → t.sch.noCommit = true) ∧
      t.pair.drop = (if s.pair.drop = 0 then 3 else s.pair.drop) ∧
      t.rd Addr.SCH_OVR_INFO = wN (k % 65536 + 65536 * sl.phase) ∧ t.rf Addr.SCH_OVR_CNT ⟨0, 32⟩ = satU 32 (s.rf Addr.SCH_OVR_CNT ⟨0, 32⟩ + 1))) ∧
  ((∀ (s : State) (sh : Sheaf), s.awake → s.sch.active = some sh →
    crc32c (s.bytes (bankBase (s.rf Addr.SCH_BANK Fl.SCH_BANK_ACT)) (sh.imgLen - 4)) = sh.crc →
    Completes .backgroundCrcPass s (fun t => t.sch = s.sch ∧ t.pair.drop = s.pair.drop)) ∧
  (∀ (s : State) (sh : Sheaf), s.running = true → s.sch.active = some sh →
    crc32c (s.bytes (bankBase (s.rf Addr.SCH_BANK Fl.SCH_BANK_ACT)) (sh.imgLen - 4)) ≠ sh.crc →
    Completes .backgroundCrcPass s (fun t => t.sch.stopped = true ∧ t.pair.drop = (if s.pair.drop = 0 then 5 else s.pair.drop))) ∧
  (∀ (s : State), s.awake → s.nrg.iend = true →
    Completes .accumulationIntervalEnd s (fun t => t.nrg.iend = false ∧ t.rd Addr.NRG_PUBFRM = wN s.frm ∧
      t.nrg.pubW = (List.range 8).map (fun r => (s.nrg.c.reg.getD r NReg.init).wr))))

/-- HOPPER_CHECK in cycle T_END (R63): every hopper is empty afterwards, whatever errors memories showed, and no word outlives a frame boundary. A hopper that still held words adds them to SCH_HOP_RES (R62; said of a frame without memory errors). -/
def Obligations.HopperCheckEmptiesHoppers : Prop :=
  (∀ (s : State) (es : List EccEv), s.awake → Completes (.hopperCheck es) s (fun t => ∀ h, t.hop h = [])) ∧
  (∀ (s : State) (i : FrameIn), s.awake → Completes (.frameBoundary i) s (fun t => ∀ h, t.hop h = [])) ∧
  (∀ (s : State) (h : Nat) (ws : List Word), s.running = true → s.hops = [(h, ws)] → h < 64 →
    Completes (.hopperCheck []) s (fun t => t.rf Addr.SCH_HOP_RES ⟨0, 32⟩ = satU 32 (s.rf Addr.SCH_HOP_RES ⟨0, 32⟩ + ws.length) ∧
      t.rf Addr.SCH_STAT Fl.SCH_STAT_HOPR = 1))

/-! ### Slots that move words (R61, R69) -/

/-- HMOVE moves n waiting words to a hopper with room, in order, and touches no other hopper and no memory. IN_LATCH delivers the levels latched at the frame
edge (R394), EDGE_POP the oldest records of its group (R396), SMEM_LOAD n words of committed state memory (R207).
OUT_STAGE takes one word as the command of the frame's release (R405), SMEM_STORE n words as stores that wait for the commit (R58, R207): no byte of
memory changes before it. CHOP_UPD clamps the scale of a coil current to 0…1 (R255).
A push that finds its hopper full discards the word, counts it and sets HOPF; the hopper 0xFF takes none (R61, R62). Said of IN_LATCH. -/
def Obligations.SlotsMoveWords : Prop :=
  ((∀ (s : State) (k : Nat) (sl : Slot), s.due k 1 1 sl → sl.hin ≠ 0xFF → sl.hin ≠ sl.hout → sl.n ≤ (s.hop sl.hin).length → s.room sl.hout sl.n →
    Completes (.hmove k) s (fun t => t.hop sl.hout = s.hop sl.hout ++ (s.hop sl.hin).take sl.n ∧ t.hop sl.hin = (s.hop sl.hin).drop sl.n ∧
      (∀ h, h ≠ sl.hin → h ≠ sl.hout → t.hop h = s.hop h) ∧ ∀ a, t.mb a = s.mb a)) ∧
  (∀ (s : State) (k : Nat) (sl : Slot), s.due k 2 1 sl → s.room sl.hout 1 →
    Completes (.inLatch k) s (fun t => t.hop sl.hout = s.hop sl.hout ++ [wN s.fio.lat])) ∧
  (∀ (s : State) (k : Nat) (sl : Slot), s.due k 2 2 sl → s.room sl.hout (edgeTake s.frm sl.n (s.fio.fifo.getD (sl.arg % 4) [])).1.length →
    Completes (.edgePop k) s (fun t =>
      t.hop sl.hout = s.hop sl.hout ++ (edgeTake s.frm sl.n (s.fio.fifo.getD (sl.arg % 4) [])).1 ∧
      t.fio.fifo.getD (sl.arg % 4) [] = (edgeTake s.frm sl.n (s.fio.fifo.getD (sl.arg % 4) [])).2)) ∧
  (∀ (s : State) (k : Nat) (sl : Slot), s.due k 15 1 sl → s.room sl.hout sl.n →
    Completes (.smemLoad k) s (fun t => t.hop sl.hout = s.hop sl.hout ++ (List.range sl.n).map (fun j => s.mw (sl.arg + 4 * j)) ∧
      ∀ a, t.mb a = s.mb a))) ∧
  ((∀ (s : State) (k : Nat) (sl : Slot) (w : Word) (q : List Word), s.due k 2 3 sl → sl.hin ≠ 0xFF → s.hop sl.hin = w :: q →
    Completes (.outStage k) s (fun t => t.fio.shadow = w.toNat % 2 ^ 18 ∧ t.hop sl.hin = q ∧ t.fio.rel = s.fio.rel)) ∧
  (∀ (s : State) (k : Nat) (sl : Slot), s.due k 15 2 sl → sl.hin ≠ 0xFF → sl.n ≤ (s.hop sl.hin).length →
    Completes (.smemStore k) s (fun t => t.smem = s.smem ++ (((s.hop sl.hin).take sl.n).zipIdx).map (fun x => (sl.arg + 4 * x.2, x.1)) ∧
      t.hop sl.hin = (s.hop sl.hin).drop sl.n ∧ ∀ a, t.mb a = s.mb a)) ∧
  (∀ (s : State) (k : Nat) (sl : Slot) (w : Word) (q : List Word), s.due k 14 3 sl → sl.inst < 6 → sl.hin ≠ 0xFF → s.hop sl.hin = w :: q → f32 w ≠ .nan →
    Completes (.chopUpd k) s (fun t => (t.drvS sl.inst).sclS =
      some (if fvLt (f32 w) Fv.zero then 0 else if fvLt (f32 0x3F800000) (f32 w) then 0x3F800000 else w)))) ∧
  ((∀ (s : State) (k : Nat) (sl : Slot), s.due k 2 1 sl → sl.hout ≠ 0xFF → s.depth sl.hout ≤ (s.hop sl.hout).length →
    Completes (.inLatch k) s (fun t => t.hops = s.hops ∧ t.rf Addr.SCH_STAT Fl.SCH_STAT_HOPF = 1 ∧
      t.rf Addr.SCH_HOP_FULL ⟨0, 32⟩ = satU 32 (s.rf Addr.SCH_HOP_FULL ⟨0, 32⟩ + 1) ∧ t.rf (Addr.INT_CAUSE 1) ⟨2, 1⟩ = 1)) ∧
  (∀ (s : State) (k : Nat) (sl : Slot), s.due k 2 1 sl → sl.hout = 0xFF → Completes (.inLatch k) s (fun t => t.hops = s.hops)))

/-! ### Slots that report (R39, R58): their results wait for the commit -/

/-- FB_LATCH (R136, R140) moves what cycle 0 latched on to FB_SPEED; FB_SPEED (R143) reports the position, the speed, the speed bound and the
saturation that they give, whatever the channel's mode; a serial channel in time-out reports no position and no speed (R126).
SD_TAKE (R428) takes the eight results of the sinc3 filters over the bits sampled (R425), scaled; RMS (R432) counts the sample into the running half-cycle when no boundary falls; ACC (R436) counts
the frame into the interval with its two powers. In a frame that is not used after a rate change RMS and ACC leave the unit as it is (R430).
RX_TAKE (R464) of one single object of controller x pushes the record of the frame latched at the frame edge and clears its NEW; of one queue record
it pops the oldest one that completed before the frame (R465). TX_STAGE (R470) stages the records it pops for the commit.
In the role SHAFT IMG_TAKE hands the image received last to the guard, and IMG_SEND sends the guard's record in n words (R372, R571). -/
def Obligations.UnitSlots : Prop :=
  ((∀ (s : State) (k : Nat) (sl : Slot), s.due k 3 1 sl → sl.inst < 8 →
    Completes (.fbLatch k) s (fun t => t.fbS sl.inst = { s.fbS sl.inst with m := (s.fbS sl.inst).l } ∧ t.pend = s.pend ∧ ∀ n, n < 8 → n ≠ sl.inst → t.fbS n = s.fbS n)) ∧
  (∀ (s : State) (k : Nat) (sl : Slot), s.due k 3 2 sl → (s.fbS sl.inst).tout = false ∨ s.fbMode sl.inst < 3 →
    Completes (.fbSpeed k) s (fun t => (Addr.FB_VBND sl.inst, BitVec.allOnes 32, wN (s.fbForm sl.inst).bnd) ∈ t.pend ∧
      (Addr.FB_POS sl.inst, BitVec.allOnes 32, wI (s.fbForm sl.inst).pos) ∈ t.pend ∧ (Addr.FB_VEL sl.inst, BitVec.allOnes 32, wI (s.fbForm sl.inst).vel) ∈ t.pend ∧
      (Addr.FB_STAT sl.inst, Fl.FB_STAT_POSSAT.mask, setF 0 Fl.FB_STAT_POSSAT (b2n (s.fbForm sl.inst).sat)) ∈ t.pend)) ∧
  (∀ (s : State) (k : Nat) (sl : Slot), s.due k 3 2 sl → (s.fbS sl.inst).tout = true → 3 ≤ s.fbMode sl.inst →
    Completes (.fbSpeed k) s (fun t => t.pend.length = s.pend.length + 3 ∧
      (Addr.FB_VBND sl.inst, BitVec.allOnes 32, wN (s.fbForm sl.inst).bnd) ∈ t.pend))) ∧
  ((∀ (s : State) (k : Nat) (sl : Slot), s.due k 4 1 sl →
    Completes (.sdTake k) s (fun t => t.nrg.w.x = (List.range 8).map (fun c => s.nrgScale c (sdClamp (sdCode (s.ncyc / 10) (sincSum (s.ncyc / 10) (s.nrg.sd.getD c 0))))))) ∧
  (∀ (s : State) (k : Nat) (sl : Slot), s.due k 4 2 sl → s.nrg.skip = 0 → s.nrg.w.sgn = 0 → s.nrgForceDue = false →
    Completes (.rms k) s (fun t => t.nrg.w.half.n = s.nrg.w.half.n + 1 ∧
      t.nrg.w.half.sq = (List.range 6).map (fun c => s.nrg.w.half.sq.getD c 0 + (s.nrg.w.x.getD c 0) ^ 2))) ∧
  (∀ (s : State) (k : Nat) (sl : Slot), s.due k 4 3 sl → s.nrg.skip = 0 →
    Completes (.acc k) s (fun t => t.nrg.w.nI = s.nrg.w.nI + 1 ∧ t.nrg.w.sumL = s.nrg.w.sumL + s.nrgPower.1 ∧ t.nrg.w.sumD = s.nrg.w.sumD + s.nrgPower.2)) ∧
  (∀ (s : State) (k : Nat) (sl : Slot), s.nrg.skip ≠ 0 →
    (s.due k 4 2 sl → Completes (.rms k) s (fun t => t.nrg = s.nrg)) ∧ (s.due k 4 3 sl → Completes (.acc k) s (fun t => t.nrg = s.nrg)))) ∧
  ((∀ (s : State) (x k : Nat) (sl : Slot), x < 2 → s.due k (5 + x) 1 sl → bitOf sl.arg 15 = false → sl.n = 1 → s.room sl.hout 4 →
    Completes (.rxTake k) s (fun t => t.hop sl.hout = s.hop sl.hout ++ (s.oTake x (sl.arg % 128)).1 ∧
      ((t.canS x).rxO (sl.arg % 128)).lnew = false ∧ ((t.canS x).rxO (sl.arg % 128)).lovr = false)) ∧
  (∀ (s : State) (x k : Nat) (sl : Slot) (f : CanFrm) (own : Bool) (fr : Nat) (q : List (CanFrm × Bool × Nat)), x < 2 → s.due k (5 + x) 1 sl →
    bitOf sl.arg 15 = true → sl.n = 1 → s.room sl.hout 4 → (s.canS x).q = (f, own, fr) :: q → fr < s.frm →
    Completes (.rxTake k) s (fun t => t.hop sl.hout = s.hop sl.hout ++ recWords f own false ∧ (t.canS x).q = q)) ∧
  (∀ (s : State) (x k : Nat) (sl : Slot), x < 2 → s.due k (5 + x) 2 sl → sl.hin ≠ 0xFF → 4 * sl.n ≤ (s.hop sl.hin).length →
    Completes (.txStage k) s (fun t => (t.canS x).stage.length = (s.canS x).stage.length + sl.n ∧ t.hop sl.hin = (s.hop sl.hin).drop (4 * sl.n)))) ∧
  ((∀ (s : State) (k : Nat) (sl : Slot), s.due k 7 1 sl → s.pairRole = 2 →
    Completes (.imgTake k) s (fun t => t.hdl.rxImg = s.pair.shImg ∧ t.pair.shImg = none)) ∧
  (∀ (s : State) (k : Nat) (sl : Slot), s.due k 7 2 sl → s.pairRole = 2 →
    Completes (.imgSend k) s (fun t => PPkt.words ((s.hdl.own ++ List.replicate sl.n 0).take sl.n) ∈ t.pair.tx)))

/-! ### Engine slots (chapter 05) -/

/-- PI_LOOP and PID_LOOP (R216): the loop's output goes to the slot's hopper and, with the loop's 16 words, to state memory at the commit (R221).
FMA_BLK (R209) pushes as many words as its program has outputs. PLAUS (R232): a finite residual within its bound ends the count, one beyond counts
it up to 255. BLEND (R231) outside a hand-over passes its source through. -/
def Obligations.EngineSlots : Prop :=
  (∀ (s : State) (k : Nat) (sl : Slot) (rec : SRec), sl.hin ≠ 0xFF → sl.hin ≠ sl.hout → 3 ≤ (s.hop sl.hin).length → s.room sl.hout 1 →
    (s.recsOf 0x0102).find? (fun r => r.b 1 4 0 == sl.arg % 32) = some rec →
    (s.due k 8 2 sl → Completes (.piLoop k false) s (fun t => ∃ u, t.hop sl.hout = s.hop sl.hout ++ [u] ∧ (thrL (sl.arg % 32) 0xC, u) ∈ t.smem ∧
      t.smem.length = s.smem.length + 16)) ∧
    (s.due k 8 3 sl → Completes (.pidLoop k false) s (fun t => ∃ u, t.hop sl.hout = s.hop sl.hout ++ [u] ∧ (thrL (sl.arg % 32) 0xC, u) ∈ t.smem ∧
      t.smem.length = s.smem.length + 16))) ∧
  ((∀ (s : State) (k : Nat) (sl : Slot) (r : SRec), s.due k 8 1 sl → (s.recsOf 0x0101).find? (fun r => r.b 1 7 0 == sl.arg % 256) = some r →
    sl.hin ≠ 0xFF → sl.hin ≠ sl.hout → r.fma.nin ≤ (s.hop sl.hin).length → s.room sl.hout r.fma.outs.length →
    Completes (.fmaBlk k false) s (fun t => ∃ ws, ws.length = r.fma.outs.length ∧ t.hop sl.hout = s.hop sl.hout ++ ws)) ∧
  (∀ (s : State) (k : Nat) (sl : Slot) (rec : SRec) (m q : Word) (rest : List Word), s.due k 8 4 sl → sl.hin ≠ 0xFF → s.hop sl.hin = m :: q :: rest →
    (s.recsOf 0x0104).find? (fun r => r.b 1 3 0 == sl.arg % 16) = some rec →
    Completes (.plaus k false) s (fun t =>
      let c := sl.arg % 16
      let res := (sub32 (f32 m) (f32 q)).abs
      let v := (s.sw (thrC c)).toNat
      let beyond := !res.isFin || fvLt (f32 (s.rd (Addr.THR_PTH c))) res
      let cnt := if beyond then min (v % 256 + 1) 255 else 0
      t.smem = s.smem ++ [(thrC c, wN (cnt + 256 * b2n (decide (cnt ≥ s.rf (Addr.THR_PCFG c) Fl.THR_PCFG_PNF) || (bitOf v 8 && decide (cnt > 0)))))])) ∧
  (∀ (s : State) (k : Nat) (sl : Slot) (b : Nat × Nat × List Nat) (w : Word) (rest : List Word), s.due k 8 5 sl → sl.hin ≠ 0xFF → sl.hin ≠ sl.hout →
    s.hop sl.hin = w :: rest → s.room sl.hout 1 → s.blends.find? (fun b => b.1 == sl.arg % 16) = some b →
    s.thrStop b.2.1 (24 + sl.arg % 16) = false → bBlend (s.sw (thrB (sl.arg % 16) 8)) = false →
    b.2.2.getD (bMode (s.sw (thrB (sl.arg % 16) 8))) 0xFE = 0xFE →
    Completes (.blend k false) s (fun t => t.hop sl.hout = s.hop sl.hout ++ [w] ∧ (thrB (sl.arg % 16) 4, w) ∈ t.smem)))

/-- Lockstep (R234): when the two lanes differ in a slot, its result is not used: the frame stops, no slot runs from the next boundary on and the
claim drops with cause 1 unless it had been dropped. Said of every operation that both lanes compute. -/
def Obligations.LaneMismatchStops : Prop :=
  ∀ (s : State) (k unit op : Nat) (sl : Slot) (c : Instr), s.due k unit op sl →
    (c = .fmaBlk k true ∧ unit = 8 ∧ op = 1) ∨ (c = .piLoop k true ∧ unit = 8 ∧ op = 2) ∨ (c = .pidLoop k true ∧ unit = 8 ∧ op = 3) ∨
      (c = .plaus k true ∧ unit = 8 ∧ op = 4) ∨ (c = .blend k true ∧ unit = 8 ∧ op = 5) ∨ (c = .envelope k true ∧ unit = 10 ∧ op = 1) ∨
      (c = .termChk k true ∧ unit = 10 ∧ op = 2) ∨ (c = .ovsChk k true ∧ unit = 10 ∧ op = 3) ∨ (c = .shaftChk k true ∧ unit = 10 ∧ op = 4) ∨
      (c = .zoneChk k true ∧ unit = 10 ∧ op = 5) ∨ (c = .ucmChk k true ∧ unit = 10 ∧ op = 6) →
    Completes c s (fun t => t.sch.stopped = true ∧ t.sch.aborted = true ∧ t.hops = [] ∧ t.smem = s.smem ∧
      t.pair.drop = (if s.pair.drop = 0 then 1 else s.pair.drop) ∧ t.rf Addr.THR_STAT Fl.THR_STAT_LSMM = 1)

/-! ### Motion and drive slots (chapters 04, 06) -/

/-- SEG_EVAL (R174): an idle axis at rest reports speed 0; a segment table past its last point ends there, at rest; the axis's commanded point
goes to the slot's hopper in three words, position, speed and acceleration (the model's choice, log entry 135). LIM_CHK (R179): a move beyond the upper virtual limit
and still going up reports LIMV; an axis that does not move reports nothing. HOME_STEP (R189): the index found ends homing in DONE. -/
def Obligations.MotionSlotsAdvance : Prop :=
  (∀ (s : State) (k : Nat) (sl : Slot), s.due k 9 1 sl → sl.inst < 6 → ¬ (sl.inst = 0 ∧ s.guardDue = true) → (s.axS sl.inst).mot = .idle →
    (s.axS sl.inst).wake = false → (s.axS sl.inst).v = 0 →
    Completes (.segEval k) s (fun t => (Addr.AX_CVEL sl.inst, BitVec.allOnes 32, 0) ∈ t.pend ∧
      (s.room sl.hout 3 → ∃ p a, t.hop sl.hout = s.hop sl.hout ++ [p, 0, a]))) ∧
  (∀ (s : State) (k : Nat) (sl : Slot), s.due k 9 1 sl → sl.inst < 6 → s.raised = [] → ¬ (sl.inst = 0 ∧ s.guardDue = true) → (s.axS sl.inst).mot = .table →
    (s.axS sl.inst).wake = false → 200 * ((s.axS sl.inst).tab.pt ((s.axS sl.inst).tab.n - 1)).1 ≤ ((s.axS sl.inst).tK + 1) * s.ncyc →
    Completes (.segEval k) s (fun t => (t.axS sl.inst).mot = .idle ∧ (t.axS sl.inst).v = 0 ∧ (t.axS sl.inst).a = 0 ∧
      (t.axS sl.inst).s = (s.axS sl.inst).tStart + ((s.axS sl.inst).tab.pt ((s.axS sl.inst).tab.n - 1)).2.1 * sc)) ∧
  (∀ (s : State) (k : Nat) (sl : Slot), s.due k 9 2 sl → sl.inst < 6 → (s.axS sl.inst).mot = .move → s.rs (Addr.AX_VLO sl.inst) < s.rs (Addr.AX_VHI sl.inst) →
    (s.axS sl.inst).spd > 0 → (s.axS sl.inst).pos > s.rs (Addr.AX_VHI sl.inst) * sc →
    Completes (.limChk k) s (fun t => (Addr.AX_STAT sl.inst, Fl.AX_STAT_LIMV.mask, setF 0 Fl.AX_STAT_LIMV 1) ∈ t.pend)) ∧
  (∀ (s : State) (k : Nat) (sl : Slot), s.due k 9 2 sl → (s.axS sl.inst).mot = .idle → Completes (.limChk k) s (fun t => t.pend = s.pend)) ∧
  (∀ (s : State) (k : Nat) (sl : Slot), s.due k 9 3 sl → sl.inst < 6 → s.raised = [] → (s.axS sl.inst).mot = .home → (s.axS sl.inst).hst = .find →
    (s.axFeedback sl.inst = true → s.flag (Addr.FB_STAT sl.inst) Fl.FB_STAT_VALID = true) → (s.fbS sl.inst).zarmed = false →
    Completes (.homeStep k) s (fun t => (t.axS sl.inst).hst = .done))

/-- STEP_STAGE (R176) of a step axis stages a velocity word no larger than the greatest that its pulse width allows (R177). PWM_STAGE (R249) stages three compare values
from 0 to PER. COMPARE_LOAD (R249) loads released compare values at a carrier valley, and nothing elsewhere.
FORCE_EST (R260): an axis with neither a BLDC drive nor a stepper fast enough for an estimate leaves no force; a BLDC axis of a door leaves one and pushes the
two currents and the force. -/
def Obligations.DriveSlots : Prop :=
  ((∀ (s : State) (k : Nat) (sl : Slot), s.due k 14 2 sl → sl.inst < 6 → s.raised = [] → 1 ≤ s.axDrive sl.inst → s.axDrive sl.inst ≤ 4 →
    Completes (.stepStage k) s (fun t => (t.axS sl.inst).staged = true ∧ (t.axS sl.inst).wNext ≤ s.wMax sl.inst ∧ - s.wMax sl.inst ≤ (t.axS sl.inst).wNext)) ∧
  (∀ (s : State) (k : Nat) (sl : Slot), s.due k 14 1 sl → sl.inst < 6 → sl.hin ≠ 0xFF → 2 ≤ (s.hop sl.hin).length →
    Completes (.pwmStage k) s (fun t => ∃ u v w, (t.drvS sl.inst).cmpS = some (u, v, w) ∧ u ≤ s.rf (Addr.AX_PWMCFG sl.inst) Fl.AX_PWMCFG_PER ∧
      v ≤ s.rf (Addr.AX_PWMCFG sl.inst) Fl.AX_PWMCFG_PER ∧ w ≤ s.rf (Addr.AX_PWMCFG sl.inst) Fl.AX_PWMCFG_PER)) ∧
  (∀ (s : State) (n cyc : Nat) (c : Nat × Nat × Nat), s.awake → n < 6 → (s.drvS n).cmpR = some c → s.axDrive n = 5 →
    0 < s.rf (Addr.AX_PWMCFG n) Fl.AX_PWMCFG_PER → (s.ecyc + cyc - (s.drvS n).car0) % (2 * s.rf (Addr.AX_PWMCFG n) Fl.AX_PWMCFG_PER) = 0 →
    Completes (.compareLoad n cyc) s (fun t => (t.drvS n).cmp = c ∧ (t.drvS n).cmpR = none ∧ (t.drvS n).cmpP = (s.drvS n).cmp)) ∧
  (∀ (s : State) (n cyc : Nat), s.awake → (s.ecyc + cyc - (s.drvS n).car0) % (2 * s.rf (Addr.AX_PWMCFG n) Fl.AX_PWMCFG_PER) ≠ 0 →
    Completes (.compareLoad n cyc) s (fun t => t.drv = s.drv))) ∧
  ((∀ (s : State) (k : Nat) (sl : Slot), s.due k 13 2 sl → 1 ≤ sl.inst → sl.inst ≤ 4 → s.axDrive sl.inst ≠ 5 → s.axDrive sl.inst ≠ 2 → s.axDrive sl.inst ≠ 4 →
    Completes (.forceEst k) s (fun t => (t.dorS sl.inst).fest = none)) ∧
  (∀ (s : State) (k : Nat) (sl : Slot), s.due k 13 2 sl → 1 ≤ sl.inst → sl.inst ≤ 4 → s.axDrive sl.inst = 5 → s.room sl.hout 3 →
    Completes (.forceEst k) s (fun t => (t.dorS sl.inst).fest.isSome = true ∧ ∃ d q f, t.hop sl.hout = s.hop sl.hout ++ [d, q, f])))

/-! ### Guard slots (chapter 09) -/

/-- ENVELOPE (R352) forms guard position and speed and both envelopes and reports the envelopes; TERM_CHK (R366) forms the terminal gap against the stopping envelope;
OVS_CHK (R368) at speed 0 ends every count of overspeed; ZONE_CHK (R377) reports the permissions; UCM_CHK (R380) with the doors locked arms the next
unlocking.
A guard that is not active takes no cause: TERM_CHK, OVS_CHK, SHAFT_CHK and UCM_CHK leave its state and its trip latch (R356, R383). SHAFT_CHK reports the
neighbour's record (R373). -/
def Obligations.GuardSlots : Prop :=
  ((∀ (s : State) (k : Nat) (sl : Slot), s.due k 10 1 sl →
    Completes (.envelope k false) s (fun t => t.hdl.p = s.cs (Addr.FB_POS 0) ∧
      (s.cf (Addr.FB_SPD 0) Fl.FB_SPD_LOWCONF = 0 → t.hdl.v = s.cs (Addr.FB_VEL 0)) ∧ t.hdl.dstop = s.envStop t.hdl.v ∧ t.hdl.demg = s.envEmg t.hdl.v ∧
      (Addr.HDL_DSTOP, BitVec.allOnes 32, wN t.hdl.dstop) ∈ t.pend ∧ (Addr.HDL_DEMG, BitVec.allOnes 32, wN t.hdl.demg) ∈ t.pend)) ∧
  (∀ (s : State) (k : Nat) (sl : Slot), s.due k 10 2 sl →
    Completes (.termChk k false) s (fun t => t.hdl.gterm = (if s.hdl.v > 0 then s.termHi - s.hdl.p - s.hdl.dstop
      else if s.hdl.v < 0 then s.hdl.p - s.termLo - s.hdl.dstop
      else min (s.termHi - s.hdl.p) (s.hdl.p - s.termLo) - (s.rd Addr.HDL_MARGIN).toNat) ∧
      (Addr.HDL_GTERM, BitVec.allOnes 32, wI (satS 32 t.hdl.gterm)) ∈ t.pend)) ∧
  (∀ (s : State) (k : Nat) (sl : Slot), s.due k 10 3 sl → s.hdl.v = 0 →
    Completes (.ovsChk k false) s (fun t => t.hdl.ovS = 0 ∧ t.hdl.ovT = 0)) ∧
  (∀ (s : State) (k : Nat) (sl : Slot), s.due k 10 5 sl →
    Completes (.zoneChk k false) s (fun t => ∃ w, (Addr.HDL_PERM, BitVec.allOnes 32, w) ∈ t.pend ∧ (s.hdl.gst ≠ 2 → w.toNat % 16 = 0))) ∧
  (∀ (s : State) (k : Nat) (sl : Slot), s.due k 10 6 sl → s.hdlLocked = true →
    Completes (.ucmChk k false) s (fun t => t.hdl.wasLk = true ∧ t.hdl.pref = none ∧ t.pend = s.pend ++ [(Addr.HDL_PREF, BitVec.allOnes 32, 0)]))) ∧
  (∀ (s : State) (k : Nat) (sl : Slot), s.hdl.act = false →
    (s.due k 10 2 sl → Completes (.termChk k false) s (fun t => t.hdl.gst = s.hdl.gst ∧ t.hdl.trip = s.hdl.trip)) ∧
    (s.due k 10 3 sl → Completes (.ovsChk k false) s (fun t => t.hdl.gst = s.hdl.gst ∧ t.hdl.trip = s.hdl.trip)) ∧
    (s.due k 10 4 sl → Completes (.shaftChk k false) s (fun t => t.hdl.gst = s.hdl.gst ∧ t.hdl.trip = s.hdl.trip ∧
      ∃ w, (Addr.HDL_NSTAT, BitVec.allOnes 32, w) ∈ t.pend)) ∧
    (s.due k 10 6 sl → Completes (.ucmChk k false) s (fun t => t.hdl.gst = s.hdl.gst ∧ t.hdl.trip = s.hdl.trip)))

/-! ### Slots of the stop table, of dispatch and of the doors (chapters 06–08) -/

/-- STOP_SCAN (R295, R304) takes its call words and leaves the stop table as the words, START and the selection leave it, and reports the distance; a SET of a car call sets it. COMMIT
(R305, R307) makes the stop state's step, notes which car doors are shut and pushes one command word for each door; a RUN with its stop committed becomes COMMITTED. COST (R318, R325) takes its records, prices
and pushes the operations it owes, padded with 0 to the number the slot names; BID_STAGE (R333) forms the records it owes and pushes the first of them, four words each; a standby's sends none (R580). DOOR_SEQ (R268) of an enabled door
decides by items 1 to 5 on the commands that waited and the word of its hopper, and leaves none waiting. -/
def Obligations.TableSlotsAnswer : Prop :=
  (∀ (s : State) (k : Nat) (sl : Slot), s.due k 11 1 sl →
    let r := (s.at sl.start).popOpt sl.hin (sl.arg % 256)
    Completes (.stopScan k) s (fun t => t.stp.w = (r.2.scanWords r.1).stpSelect.stp.w ∧ ∃ w, (Addr.STP_DIST, BitVec.allOnes 32, w) ∈ t.pend)) ∧
  (∀ (s : State) (k e : Nat) (sl : Slot) (w : Word) (q : List Word), s.due k 11 1 sl → sl.arg % 256 = 1 → sl.hin ≠ 0xFF → s.hop sl.hin = w :: q → e < 1024 →
    w.toNat = 2 ^ 28 + e → s.stp.la.open_ e = true → Completes (.stopScan k) s (fun t => bitOf (t.stp.w.flags e) 0 = true ∧ t.hop sl.hin = q)) ∧
  (∀ (s : State) (k : Nat) (sl : Slot), s.due k 11 2 sl →
    let r := (s.at sl.start).stpStep
    Completes (.stpCommit k) s (fun t => t.stp.w = r.1.stp.w ∧ t.stp.drs = r.1.doorsShut ∧
      (s.room sl.hout 4 → t.hop sl.hout = s.hop sl.hout ++ [1, 2, 3, 4].map (fun d => if r.2.contains d then 1 else 0)))) ∧
  (∀ (s : State) (k : Nat) (sl : Slot), s.due k 11 2 sl → s.stp.w.cst = 3 → s.ax0Foreign = false → s.stp.w.commit = true →
    Completes (.stpCommit k) s (fun t => t.stp.w.cst = 4 ∧ t.stp.w.tab = s.stp.w.tab)) ∧
  (∀ (s : State) (k : Nat) (sl : Slot), s.due k 12 1 sl → s.bidPart = true →
    let r := (s.at sl.start).popOpt sl.hin (4 * (sl.arg % 256))
    let u := r.2.costRecords r.1 sl.n
    let n := sl.arg / 256 % 256
    Completes (.cost k) s (fun t => t.bid.w = { u.bid.w with ops := u.bid.w.ops.drop n } ∧
      (u.room sl.hout n → t.hop sl.hout = u.hop sl.hout ++ ((u.bid.w.ops.take n).map wN ++ List.replicate (n - (u.bid.w.ops.take n).length) 0)))) ∧
  (∀ (s : State) (k : Nat) (sl : Slot), s.due k 12 2 sl → s.bidPart = true → s.standby = false →
    let r := (s.at sl.start).popOpt sl.hin (sl.arg / 256 % 64)
    let u := r.2.bidRecords r.1
    let n := sl.arg % 64
    Completes (.bidStage k) s (fun t => t.bid.w = { u.bid.w with out := u.bid.w.out.drop n } ∧
      (u.room sl.hout (4 * n) → t.hop sl.hout = u.hop sl.hout ++ recordsOut n u.bid.w.out))) ∧
  (∀ (s : State) (k : Nat) (sl : Slot), s.bidPart = false → sl.hin = 0xFF →
    (s.due k 12 1 sl → s.room sl.hout (sl.arg / 256 % 256) →
      Completes (.cost k) s (fun t => t.bid = s.bid ∧ t.hop sl.hout = s.hop sl.hout ++ List.replicate (sl.arg / 256 % 256) 0)) ∧
    (s.due k 12 2 sl → s.room sl.hout (4 * (sl.arg % 64)) →
      Completes (.bidStage k) s (fun t => t.bid = s.bid ∧ t.hop sl.hout = s.hop sl.hout ++ recordsOut (sl.arg % 64) []))) ∧
  (∀ (s : State) (k : Nat) (sl : Slot), s.standby = true → s.bidPart = true → sl.hin = 0xFF → s.due k 12 2 sl → s.room sl.hout (4 * (sl.arg % 64)) →
    Completes (.bidStage k) s (fun t => t.bid.w.out = [] ∧ t.bid.w.tab = s.bid.w.tab ∧ t.hop sl.hout = s.hop sl.hout ++ recordsOut (sl.arg % 64) [])) ∧
  (∀ (s : State) (k : Nat) (sl : Slot), s.due k 13 1 sl → 1 ≤ sl.inst → sl.inst ≤ 4 → s.dorEn sl.inst = true →
    sl.hin = 0xFF ∨ (∃ w q, s.hop sl.hin = w :: q ∧ w.toNat % 16 < 6) →
    let d := sl.inst
    let r := (s.at sl.start).popOpt sl.hin 1
    let u := (r.2.dorCounts d).dorItems d (r.2.dorWords d r.1)
    Completes (.doorSeq k) s (fun t => (t.dorS d).st = (u.dorS d).st ∧ (t.dorS d).axc = (u.dorS d).axc ∧ (t.dorS d).reo = (u.dorS d).reo ∧
      (t.dorS d).con = s.dorClosed d ∧ (t.dorS d).cmds = []))

/-! ### Feedback (chapter 03) -/

/-- QUADRATURE_EDGE: a level counts when it has stood for FILT + 1 samples (R116); in quadrature mode a step of the accepted levels along 00, A, AB, B counts up, one against it down, and the edge's time
is noted (R117); a double step counts nothing, sets QERR and counts in QCNT (R118). The counter keeps 48 bits where no index is qualified by the same edge. HALL_TRANSITION (R119) does the same along the six codes;
the accepted codes 0 and 7 set HALLERR and count nothing.
QUALIFIED_INDEX: the index condition begins at an accepted level of Z (R129); the first index, or one inside the window, becomes the reference, ends the count of misses and loads the preset in ZMODE 1 or
when armed; ZLAT takes the accumulated count, ZDEV the deviation (R131, R132); an index outside the window sets ZWIN and counts as missed; a level that begins no index leaves all this. SERIAL_WORD (R123, R126, R127): a word in
time with a right CRC and no encoder error gives the position and ends a time-out; one out of time or with a wrong CRC moves nothing and sets its bit. SERIAL_TIMEOUT (R126) and STANDSTILL (R142) set TOUT and
return the estimator to STILL. -/
def Obligations.FeedbackEvents : Prop :=
  ((∀ (s : State) (n : Nat) (a b : Pad) (cyc : Nat), s.awake → s.fbMode n = 1 →
    let f := s.rf (Addr.FB_CTL n) Fl.FB_CTL_FILT
    let old := (s.fbS n).lvl
    let a' := if f < a.run then a.lvl else bitOf old 0
    let b' := if f < b.run then b.lvl else bitOf old 1
    let step := (quadPos a' b' + 4 - quadPos (bitOf old 0) (bitOf old 1)) % 4
    let d : Int := if step = 1 then 1 else if step = 3 then -1 else 0
    let lv := b2n a' + 2 * b2n b' + 4 * b2n (bitOf old 2)
    Completes (.quadratureEdge n a b cyc) s (fun t => (t.fbS n).lvl = lv ∧ (t.fbS n).acc = (s.fbS n).acc + d ∧
      (t.fbS n).tLast = (if d = 0 then (s.fbS n).tLast else s.ecyc + cyc) ∧
      ((s.indexOn n lv && !s.indexOn n old) = false → d ≠ 0 → (t.fbS n).cnt = sext 48 (enc 48 ((s.fbS n).cnt + d))) ∧
      ((s.indexOn n lv && !s.indexOn n old) = false → d = 0 → (t.fbS n).cnt = (s.fbS n).cnt) ∧
      (step = 2 → t.rf (Addr.FB_STAT n) Fl.FB_STAT_QERR = 1 ∧
        t.rf (Addr.FB_ERRCNT n) Fl.FB_ERRCNT_QCNT = satU Fl.FB_ERRCNT_QCNT.w (s.rf (Addr.FB_ERRCNT n) Fl.FB_ERRCNT_QCNT + 1)) ∧
      ∀ k, k < 8 → k ≠ n → t.fbS k = s.fbS k)) ∧
  (∀ (s : State) (n cyc : Nat) (h : HallPads), s.awake → s.fbMode n = 2 →
    let lv := s.filterPads n h.h1 h.h2 h.h3
    let move := match hallPos lv, hallPos (s.rf (Addr.FB_STAT n) Fl.FB_STAT_HCODE) with | some p, some q => (p + 6 - q) % 6 | _, _ => 0
    let d : Int := if lv = (s.fbS n).lvl then 0 else if move = 1 then 1 else if move = 5 then -1 else 0
    Completes (.hallTransition n h cyc) s (fun t => (t.fbS n).lvl = lv ∧ (t.fbS n).acc = (s.fbS n).acc + d ∧
      (d ≠ 0 → (t.fbS n).cnt = sext 48 (enc 48 ((s.fbS n).cnt + d)) ∧ (t.fbS n).tLast = s.ecyc + cyc) ∧ (d = 0 → (t.fbS n).cnt = (s.fbS n).cnt) ∧
      (lv ≠ (s.fbS n).lvl → hallPos lv ≠ none → t.rf (Addr.FB_STAT n) Fl.FB_STAT_HCODE = lv) ∧
      (lv ≠ (s.fbS n).lvl → 2 ≤ move → move ≤ 4 → t.rf (Addr.FB_STAT n) Fl.FB_STAT_QERR = 1) ∧
      (lv ≠ (s.fbS n).lvl → hallPos lv = none → t.rf (Addr.FB_STAT n) Fl.FB_STAT_HALLERR = 1 ∧
        t.rf (Addr.FB_STAT n) Fl.FB_STAT_HCODE = s.rf (Addr.FB_STAT n) Fl.FB_STAT_HCODE) ∧
      ∀ k, k < 8 → k ≠ n → t.fbS k = s.fbS k))) ∧
  ((∀ (s : State) (n : Nat) (z : ZPad), s.awake → s.fbMode n = 1 →
    let old := (s.fbS n).lvl
    let lv := s.filterPads n Pad.unsaid Pad.unsaid z.pad
    let dev := indexDev ((s.fbS n).acc - (s.fbS n).ref) (s.rd (Addr.FB_ZCPR n)).toNat
    (s.indexOn n lv = true → s.indexOn n old = false → (s.fbS n).zref = false ∨ (s.rd (Addr.FB_ZCPR n)).toNat = 0 ∨
        dev.natAbs ≤ s.rf (Addr.FB_ZCFG n) Fl.FB_ZCFG_ZTOL →
      Completes (.qualifiedIndex n z) s (fun t => (t.fbS n).zref = true ∧ (t.fbS n).ref = (s.fbS n).acc ∧ (t.fbS n).miss = 0 ∧
        (t.fbS n).zlat = (s.fbS n).acc ∧ (t.fbS n).zdev = (if (s.fbS n).zref = false ∨ (s.rd (Addr.FB_ZCPR n)).toNat = 0 then 0 else dev) ∧
        (t.fbS n).cnt = (if s.rf (Addr.FB_CTL n) Fl.FB_CTL_ZMODE = 1 ∨ (s.rf (Addr.FB_CTL n) Fl.FB_CTL_ZMODE = 2 ∧ (s.fbS n).zarmed = true)
          then s.rs (Addr.FB_PRE n) else (s.fbS n).cnt))) ∧
    (s.indexOn n lv = true → s.indexOn n old = false → (s.fbS n).zref = true → (s.rd (Addr.FB_ZCPR n)).toNat ≠ 0 →
      s.rf (Addr.FB_ZCFG n) Fl.FB_ZCFG_ZTOL < dev.natAbs →
      Completes (.qualifiedIndex n z) s (fun t => t.rf (Addr.FB_STAT n) Fl.FB_STAT_ZWIN = 1 ∧ (t.fbS n).miss = min ((s.fbS n).miss + 1) 255 ∧
        (t.fbS n).cnt = (s.fbS n).cnt ∧ (t.fbS n).ref = (s.fbS n).ref ∧ (t.fbS n).zlat = (s.fbS n).acc ∧ (t.fbS n).zdev = dev)) ∧
    (s.indexOn n lv = false ∨ s.indexOn n old = true →
      Completes (.qualifiedIndex n z) s (fun t => t.fbS n = { s.fbS n with lvl := lv }))) ∧
  (∀ (s : State) (n data crc cyc : Nat) (eb wb : Bool), s.awake → s.fbMode n = 3 ∨ s.fbMode n = 4 → (s.fbS n).xfer = true →
    let d := data % 2 ^ s.rf (Addr.FB_SER n) Fl.FB_SER_DBITS
    let inTime := (s.fbS n).xferT = s.ecyc ∧ cyc + 1 < s.ncyc
    (inTime → s.serialCrcOk n d eb wb crc = true → (s.fbMode n = 3 → eb = true) →
      (s.fbMode n = 4 → s.flag (Addr.FB_SER n) Fl.FB_SER_ERRBIT = true → eb ≠ s.flag (Addr.FB_SER n) Fl.FB_SER_ERRLVL) →
      Completes (.serialWord n true data eb wb crc cyc) s (fun t =>
        (t.fbS n).word = some (if s.fbMode n = 4 ∧ s.flag (Addr.FB_OUT n) Fl.FB_OUT_GRAY = true then grayDecode d else d) ∧
        (t.fbS n).seen = true ∧ (t.fbS n).got = true ∧ (t.fbS n).tout = false ∧ (t.fbS n).missing = 0 ∧ (t.fbS n).xfer = false ∧
        t.rd (Addr.FB_SRAW_LO n) = wN d)) ∧
    Completes (.serialWord n false data eb wb crc cyc) s (fun t => t.rf (Addr.FB_STAT n) Fl.FB_STAT_TRUNC = 1 ∧ (t.fbS n).cnt = (s.fbS n).cnt ∧ (t.fbS n).xfer = false) ∧
    (inTime → s.serialCrcOk n d eb wb crc = false →
      Completes (.serialWord n true data eb wb crc cyc) s (fun t => t.rf (Addr.FB_STAT n) Fl.FB_STAT_CRCERR = 1 ∧ (t.fbS n).cnt = (s.fbS n).cnt ∧
        (t.fbS n).word = (s.fbS n).word))) ∧
  (∀ (s : State) (n : Nat), s.awake → 3 ≤ s.fbMode n → s.rf (Addr.FB_SER n) Fl.FB_SER_TOUT ≤ (s.fbS n).missing →
    Completes (.serialTimeout n) s (fun t => (t.fbS n).tout = true ∧ (t.fbS n).cnt = (s.fbS n).cnt)) ∧
  (∀ (s : State) (n t0 : Nat) (p : Int) (es : List (Int × Nat)), s.awake → n < 8 → (s.fbS n).l.e.est ≠ .still → (s.fbS n).l.e.edges = (p, t0) :: es →
    20000 * s.rf (Addr.FB_SPDCFG n) Fl.FB_SPDCFG_TSTILL ≤ (s.fbS n).l.tfe - t0 →
    Completes (.standstill n) s (fun t => (t.fbS n).l.e.est = .still ∧ (t.fbS n).l.e.edges = [] ∧ (t.fbS n).cnt = (s.fbS n).cnt)))

/-- POS_SET, ZREF_CLR and ZARM (R155) of a present channel, and a read of FBn_POS (R139), which keeps its companions for later reads. -/
def Obligations.FeedbackCommandsAct : Prop :=
  ∀ (s : State) (n : Nat), s.taking → s.hasFb n = true →
    Completes (.posSet n) s (fun t => (t.fbS n).cnt = s.rs (Addr.FB_PRE n) ∧ ∀ k, k < 8 → k ≠ n → t.fbS k = s.fbS k) ∧
    Completes (.zrefClr n) s (fun t => (t.fbS n).zref = false ∧ (t.fbS n).cnt = (s.fbS n).cnt) ∧
    (s.fbMode n = 1 → s.rf (Addr.FB_CTL n) Fl.FB_CTL_ZMODE = 2 → Completes (.zarm n) s (fun t => (t.fbS n).zarmed = true ∧ (t.fbS n).cnt = (s.fbS n).cnt)) ∧
    Completes (.positionSnapshotRead n) s (fun t => t.ctlData = [s.shown (Addr.FB_POS n)] ∧
      (t.fbS n).snap = [s.rd (Addr.FB_CNT n), s.rd (Addr.FB_VEL n), s.rd (Addr.FB_SPD n), s.rd (Addr.FB_VBND n), s.rd (Addr.FB_TS n),
        s.rd (Addr.FB_TFE n), s.rd (Addr.FB_ZLAT n), s.rd (Addr.FB_ZDEV n)] ∧ (∀ a, t.mb a = s.mb a) ∧ t.sch = s.sch)

/-! ### Motion and drives (chapters 04, 05) -/

/-- Axis commands in RUN, on an axis in no group, held by no enabled door, stop table or guard stop, with nothing raised (R163–R165, R306, R360): MOVE from rest goes to AXn_TGT, or stays at rest when it is there; TABLE runs the active
table (R169); HOME seeks the reference switch (R188). In another module state they are refused: CMDREF, and no axis changes (R164). -/
def Obligations.AxisRunsStart : Prop :=
  (∀ (s : State) (n : Nat), s.taking → s.hasAx n = true → s.mode = .RUN → s.grpOf n = [n] → s.dorEn n = false → (n = 0 → s.stpHolds = false) → s.guardHolds n = false →
    s.raised = [] → (s.axS n).mot = .idle →
    (s.shaftHolds n = false → (s.axS n).poslost = false → s.tgtOk n (s.axTgt n) = true →
      Completes (.axMove n) s (fun t => (t.axS n).tgt = s.axTgt n ∧ (t.axS n).mot = (if s.axTgt n = (s.axS n).pos then .idle else .move) ∧
        ∀ k, k < 6 → k ≠ n → t.axS k = s.axS k)) ∧
    ((s.axS n).tblbad = false → (s.axS n).poslost = false → 2 ≤ (s.axS n).tab.n →
      s.tgtOk n ((s.axS n).pos + ((s.axS n).tab.pt ((s.axS n).tab.n - 1)).2.1 * sc) = true →
      Completes (.axTable n) s (fun t => (t.axS n).mot = .table ∧ (t.axS n).tK = 0 ∧ (t.axS n).tStart = (s.axS n).pos)) ∧
    (s.flag (Addr.AX_HCFG n) Fl.AX_HCFG_REFEN = true → (s.axS n).chLat = 0 → s.flag (Addr.AX_HCFG n) Fl.AX_HCFG_HIDX = false →
      (s.axFeedback n = true → s.flag (Addr.FB_STAT n) Fl.FB_STAT_VALID = true) →
      Completes (.axHome n) s (fun t => (t.axS n).mot = .home ∧ (t.axS n).hst = .seek ∧ (t.axS n).homed = false))) ∧
  (∀ (s : State) (n : Nat) (c : Instr), s.taking → s.hasAx n = true → s.mode ≠ .RUN → s.guardHolds n = false → s.raised = [] → c = .axMove n ∨ c = .axTable n ∨ c = .axHome n →
    Completes c s (fun t => t.rf (Addr.AX_STAT n) Fl.AX_STAT_CMDREF = 1 ∧ t.ax = s.ax))

/-- HALT stops a moving axis under its run values, ABORT at once (R165, R182); CHAT_CLR clears latched chatter (R192); POSSET gives a step-only axis the position
AXn_HPOS (R163). On an axis in no group while frames run.
Axis events, with nothing raised: the dwell of AX0 ends in a run to the latest target (R172), homing that lasts too long fails with cause 4 (R191), a switch that changed too often
latches its chatter bit (R192), an axis at rest reduces its current (R193); a step moves the multiplier up to the present cycle (R175). -/
def Obligations.AxisStopsAndEvents : Prop :=
  (∀ (s : State) (n : Nat), s.taking → s.hasAx n = true → s.running = true → s.grpOf n = [n] → s.raised = [] →
    (s.guardHolds n = false → (s.axS n).mot = .move ∨ (s.axS n).mot = .table → Completes (.axHalt n) s (fun t => (t.axS n).mot = .halt ∧ (t.axS n).again = false)) ∧
    Completes (.axAbort n) s (fun t => (t.axS n).mot = .idle ∧ (t.axS n).v = 0 ∧ (t.axS n).a = 0 ∧ (t.axS n).plan = none) ∧
    Completes (.chatClr n) s (fun t => (t.axS n).chLat = 0 ∧ (t.axS n).mot = (s.axS n).mot) ∧
    (s.axStepOnly n = true → (s.axS n).mot ≠ .limstop →
      Completes (.posset n) s (fun t => (t.axS n).pos = s.rs (Addr.AX_HPOS n) * sc ∧ (t.axS n).poslost = false))) ∧
  (∀ (s : State) (n : Nat), s.awake → n < 6 → s.raised = [] →
    ((s.axS n).mot = .dwell → (s.axS n).dwell = 0 → Completes (.dwellElapsed n) s (fun t => (t.axS n).tgt = (s.axS n).tgt ∧
      (t.axS n).mot = (if (s.axS n).tgt = (s.axS n).pos then .idle else .move))) ∧
    (∀ cyc, (s.axS n).mot = .home → (s.axS n).hst ≠ .fail → (s.axS n).hStart + 20000000 * s.rf (Addr.AX_HTIME n) Fl.AX_HTIME_HTIME ≤ s.ecyc + cyc →
      Completes (.homingTimeout n cyc) s (fun t => (t.axS n).hst = .fail ∧ (t.axS n).hcause = 4)) ∧
    (∀ k, k < 3 → s.rf (Addr.AX_LSW n) Fl.AX_LSW_CHN < ((s.axS n).chat.getD k []).length →
      Completes (.chatterLatch n k) s (fun t => (t.axS n).chLat = (s.axS n).chLat ||| 2 ^ k)) ∧
    (∀ cyc, s.axDrive n = 2 ∨ s.axDrive n = 4 → (s.axS n).v = 0 → s.rf (Addr.AX_IRED n) Fl.AX_IRED_IREDP < 100 →
      (s.axS n).lastStp + 200000 * s.rf (Addr.AX_IRED n) Fl.AX_IRED_IREDT ≤ s.ecyc + cyc →
      Completes (.currentReduction n cyc) s (fun t => (t.axS n).ired = true)) ∧
    (∀ cyc, (s.axS n).lapsed = false → (s.axS n).psiT ≤ s.ecyc + cyc →
      Completes (.stepIssued n cyc) s (fun t => (t.axS n).psi = (s.axS n).psi + (s.axS n).w * ((s.ecyc + cyc - (s.axS n).psiT : Nat) : Int) ∧
        (t.axS n).psiT = s.ecyc + cyc)))

/-- A sample (its pad's voltage in µV) above IOC turns the bridge of an internal drive off and sets OC (R245); clearing OC of an idle axis lets it go on. A coil sample at or above the upper threshold
after TBLANK ends the drive phase, one at or below the lower threshold the decay phase (R256). -/
def Obligations.DriveEventsAct : Prop :=
  (∀ (s : State) (n uv cyc : Nat), s.awake → s.hasAx n = true → s.axInt n = true →
    1000 * s.rf (Addr.AX_IOC n) Fl.AX_IOC_IOC < (s.uA n uv).natAbs →
    Completes (.overcurrent n uv cyc) s (fun t => (t.drvS n).offOC = true ∧ t.rf (Addr.AX_DSTAT n) Fl.AX_DSTAT_OC = 1)) ∧
  (∀ (s : State) (n : Nat), s.awake → s.hasAx n = true →
    Completes (.ocClear n) s (fun t => t.rf (Addr.AX_DSTAT n) Fl.AX_DSTAT_OC = 0 ∧ ((s.axS n).mot = .idle → (t.drvS n).offOC = false))) ∧
  (∀ (s : State) (n x uv peak cyc : Nat), s.awake → n < 6 → x < 2 → s.axStp n = true →
    let u := (s.at cyc).coilSync n
    let c := (u.drvS n).coils.getD x CoilS.init
    c.ph = 1 → c.t0 + s.rf (Addr.AX_CHOP n) Fl.AX_CHOP_TBLANK ≤ s.ecyc + cyc →
    1000 * (2 * (u.coilTgt n x).natAbs + s.rf (Addr.AX_CHOP n) Fl.AX_CHOP_HYST - 2 * c.ofs) ≤ 2 * (s.uA n uv * c.dir) →
    Completes (.drivePhaseEnd n x uv peak cyc) s (fun t => ((t.drvS n).coils.getD x CoilS.init).ph = 2 ∧
      ((t.drvS n).coils.getD x CoilS.init).ofs ≤ s.rf (Addr.AX_ICOIL n) Fl.AX_ICOIL_OFSMAX)) ∧
  (∀ (s : State) (n x uv cyc : Nat), s.awake → n < 6 → x < 2 → s.axStp n = true →
    let u := (s.at cyc).coilSync n
    let c := (u.drvS n).coils.getD x CoilS.init
    c.ph = 2 → 2 * (s.uA n uv * c.dir) ≤ 1000 * (2 * (u.coilTgt n x).natAbs - s.rf (Addr.AX_CHOP n) Fl.AX_CHOP_HYST - 2 * c.ofs) →
    Completes (.decayPhaseEnd n x uv cyc) s (fun t => ((t.drvS n).coils.getD x CoilS.init).ph = 1))

/-! ### Doors (chapter 06) -/

/-- Door commands (R265–R267, R271). The rows OPEN, CLOSE, NUDGE, STOP and FRESET of an enabled door: the command waits for the door's DOOR_SEQ, whatever the module state, and no door does anything yet; for a door not enabled, or while
no schedule runs, it is refused with CMDREF. DOOR_SEQ then decides once for all that wait, where none of items 1 to 3 of R268 ends the frame's evaluation: in RUN, OPEN of a closed or locked door opens it where the zone permits, and is
refused by ZREF elsewhere; STOP of a moving one holds it where it stands, unless OPEN waits too; NUDGE nudges, unless OPEN or STOP wait; CLOSE alone of an open one closes it, or nudges after NREO reopens. Outside
RUN the four are refused. FRESET takes a referenced door out of FAULT.
The timers of an enabled door while frames run (R268, R271): the hold timer closes it, or nudges after NREO reopens, TLOCK without the lock input sets LOCKTO, a move longer than TMOVE ends in FAULT with cause 3. -/
def Obligations.DoorsAct : Prop :=
  ((∀ (s : State) (d k : Nat) (c : Instr), s.taking → 1 ≤ d → d ≤ 4 → (k, c) ∈ [(1, Instr.doorOpen d), (2, .doorClose d), (3, .doorNudge d), (4, .doorStop d), (5, .doorFreset d)] →
    (s.dorEn d = true → s.running = true → Completes c s (fun t => (t.dorS d).rest = { (s.dorS d).rest with cmds := (s.dorS d).cmds ++ [k] } ∧
      ∀ e, 1 ≤ e → e ≤ 4 → e ≠ d → (t.dorS e).rest = (s.dorS e).rest)) ∧
    (s.hasDoor d = true → s.dorEn d = false ∨ s.running = false → Completes c s (fun t => (∀ e, e ≤ 4 → (t.dorS e).rest = (s.dorS e).rest) ∧
      (if s.running = true then (Addr.DOR_STAT d, Fl.DOR_STAT_CMDREF.mask, setF 0 Fl.DOR_STAT_CMDREF 1) ∈ t.pend else t.rf (Addr.DOR_STAT d) Fl.DOR_STAT_CMDREF = 1)))) ∧
  (∀ (s : State) (k : Nat) (sl : Slot), s.due k 13 1 sl → sl.hin = 0xFF → 1 ≤ sl.inst → sl.inst ≤ 4 → s.dorEn sl.inst = true →
    let d := sl.inst
    let v := s.at sl.start
    let u := v.dorCounts d
    let cs := v.dorWords d []
    let st := (s.dorS d).st
    (st = 7 ∨ u.dorItem1 d = none) → u.dorItem2 d = none → u.dorItem3 d = none →
    (s.mode = .RUN → st = 0 ∨ st = 6 → 1 ∈ cs → (s.flag (Addr.DOR_CFG d) Fl.DOR_CFG_ZPERM = true → s.dorZone d = true) →
      Completes (.doorSeq k) s (fun t => (t.dorS d).st = 1 ∧ (t.dorS d).axc = some (some (s.dorOpen d)) ∧ (t.dorS d).cmds = [])) ∧
    (s.mode = .RUN → st = 0 ∨ st = 6 → 1 ∈ cs → s.flag (Addr.DOR_CFG d) Fl.DOR_CFG_ZPERM = true → s.dorZone d = false →
      Completes (.doorSeq k) s (fun t => (t.dorS d).st ≠ 1 ∧ (t.dorS d).axc = (s.dorS d).axc ∧ (Addr.DOR_STAT d, Fl.DOR_STAT_ZREF.mask, setF 0 Fl.DOR_STAT_ZREF 1) ∈ t.pend)) ∧
    (s.mode = .RUN → st = 1 ∨ st = 3 ∨ st = 4 → 4 ∈ cs → 1 ∉ cs →
      Completes (.doorSeq k) s (fun t => (t.dorS d).st = 2 ∧ (t.dorS d).part = true ∧ (t.dorS d).axc = some none)) ∧
    (s.mode = .RUN → st = 1 ∨ st = 2 ∨ st = 3 → 3 ∈ cs → 1 ∉ cs → 4 ∉ cs → Completes (.doorSeq k) s (fun t => (t.dorS d).st = 4)) ∧
    (s.mode = .RUN → st = 2 → 2 ∈ cs → 1 ∉ cs → 3 ∉ cs → 4 ∉ cs → s.dorRev d = false → Completes (.doorSeq k) s (fun t =>
      (t.dorS d).st = (if s.rf (Addr.DOR_TIM d) Fl.DOR_TIM_NREO > 0 ∧ (s.dorS d).reo ≥ s.rf (Addr.DOR_TIM d) Fl.DOR_TIM_NREO then 4 else 3) ∧
      (t.dorS d).axc = some (some (s.dorClose d)))) ∧
    (s.mode ≠ .RUN → st ≠ 7 → (∃ c ∈ cs, 1 ≤ c ∧ c ≤ 4) → 
      Completes (.doorSeq k) s (fun t => (t.dorS d).cmds = [] ∧ (Addr.DOR_STAT d, Fl.DOR_STAT_CMDREF.mask, setF 0 Fl.DOR_STAT_CMDREF 1) ∈ t.pend)) ∧
    (st = 7 → 5 ∈ cs → s.dorRefd d = true → s.flag (Addr.DOR_IN d) Fl.DOR_IN_CLSEN = true →
      Completes (.doorSeq k) s (fun t => (t.dorS d).st = (if s.dorClosed d then 0 else 2))))) ∧
  (∀ (s : State) (d cyc : Nat), s.dorEn d = true → s.running = true →
    ((s.at cyc).holdOver d = true → s.dorHoldIn d = false → s.dorRev d = false →
      Completes (.holdTimerExpiry d cyc) s (fun t => (t.dorS d).st =
        (if s.rf (Addr.DOR_TIM d) Fl.DOR_TIM_NREO > 0 ∧ (s.dorS d).reo ≥ s.rf (Addr.DOR_TIM d) Fl.DOR_TIM_NREO then 4 else 3))) ∧
    ((s.at cyc).lockOver d = true → Completes (.tlockExpiry d cyc) s (fun t => (t.dorS d).lockTo = true ∧
      (Addr.DOR_STAT d, Fl.DOR_STAT_LOCKTO.mask, setF 0 Fl.DOR_STAT_LOCKTO 1) ∈ t.pend)) ∧
    ((s.at cyc).tmoveOver d = true → Completes (.tmoveExceeded d cyc) s (fun t => (t.dorS d).st = 7 ∧ (t.dorS d).fcause = 3)))

/-! ### Stop table (chapter 07) -/

/-- Call operations on an entry of the landing table (R294–R297): SET and CLEAR of the car call in every mode, awards and withdrawals of hall calls in collective mode outside the committed stop. Only the
named entry changes. CLEAR_EVERY_CC clears every car call.
RESUME clears RLFAIL; TSTART, the re-levelling trigger and the re-levelling time-out act on the stop state while frames run (R307). -/
def Obligations.StopTableActs : Prop :=
  ((∀ (s : State) (e : Nat), s.taking → s.hasUnit 4 = true → e < 1024 → s.stp.la.open_ e = true →
    Completes (.setCc e) s (fun t => bitOf (t.stp.w.flags e) 0 = true ∧ ∀ k, k ≠ e → t.stp.w.flags k = s.stp.w.flags k) ∧
    Completes (.clearCc e) s (fun t => bitOf (t.stp.w.flags e) 0 = false ∧ ∀ k, k ≠ e → t.stp.w.flags k = s.stp.w.flags k) ∧
    (s.cmode = 0 → Completes (.awardHu e) s (fun t => bitOf (t.stp.w.flags e) 1 = true ∧ ∀ k, k ≠ e → t.stp.w.flags k = s.stp.w.flags k) ∧
      Completes (.awardHd e) s (fun t => bitOf (t.stp.w.flags e) 2 = true ∧ ∀ k, k ≠ e → t.stp.w.flags k = s.stp.w.flags k) ∧
      (s.committedEntries.contains e = false →
        Completes (.withdrawHu e) s (fun t => bitOf (t.stp.w.flags e) 1 = false ∧ ∀ k, k ≠ e → t.stp.w.flags k = s.stp.w.flags k) ∧
        Completes (.withdrawHd e) s (fun t => bitOf (t.stp.w.flags e) 2 = false ∧ ∀ k, k ≠ e → t.stp.w.flags k = s.stp.w.flags k)) ∧
      (s.committedEntries.contains e = true → bitOf (s.stp.w.flags e) 1 = true →
        Completes (.withdrawHu e) s (fun t => t.stp.w = s.stp.w ∧
          t.rf Addr.STP_WDREF Fl.STP_WDREF_COUNT = satU Fl.STP_WDREF_COUNT.w (s.rf Addr.STP_WDREF Fl.STP_WDREF_COUNT + 1))))) ∧
  (∀ (s : State), s.taking → s.hasUnit 4 = true → Completes .clearEveryCc s (fun t => ∀ e, bitOf (t.stp.w.flags e) 0 = false)) ∧
  (∀ (s : State) (e dest side pax k : Nat), s.taking → s.hasUnit 4 = true → s.cmode = 2 → e < 1024 → dest < 256 → side < 2 → 0 < pax → pax < 64 →
    s.stp.la.open_ e = true → s.stp.la.open_ (4 * dest + 2 * (e / 2 % 2) + side) = true → dest ≠ e / 4 →
    (List.range 64).find? (fun k => (aget s.stp.w.recs k).isNone) = some k →
    Completes (.addDestinationRecord e dest side pax) s (fun t =>
      aget t.stp.w.recs k = some (1, pax * 2 ^ 22 + dest * 2 ^ 14 + side * 2 ^ 13 + e) ∧ ∀ j, j ≠ k → aget t.stp.w.recs j = aget s.stp.w.recs j))) ∧
  ((∀ (s : State), s.taking → s.hasUnit 4 = true → Completes .resume s (fun t => t.rf Addr.STP_STAT Fl.STP_STAT_RLFAIL = 0 ∧ t.stp.rest = s.stp.rest)) ∧
  (∀ (s : State) (cyc : Nat), s.hasUnit 4 = true → s.running = true →
    ((s.at cyc).tstartOver = true → Completes (.tstartExpiry cyc) s (fun t => t.stp.w.stTo = true ∧
      (Addr.STP_STAT, Fl.STP_STAT_STARTTO.mask, setF 0 Fl.STP_STAT_STARTTO 1) ∈ t.pend)) ∧
    (s.relevelDue = true → Completes .relevelTrigger s (fun t => t.stp.w.cst = 6)) ∧
    ((s.at cyc).relevelOver = true → Completes (.relevelTimeout cyc) s (fun t => t.stp.w.cst = 7 ∧ t.stp.w.commit = false ∧ t.stp.w.next = none))))

/-! ### Group dispatch (chapter 08) -/

/-- Group frames that a part-taking module takes, by their kind (R319–R325): ANNOUNCE opens an entry, TICK marks it, a bid of its round awards it, HOLD brings its cost and
commitment up to date, CLOSE frees it, STATUS notes the car as heard. A module that takes no part ignores all six (R315). -/
def Obligations.GroupFramesAct : Prop :=
  (∀ (s : State) (f : CanFrm) (own : Bool) (g : Grp) (k : Nat), s.awake → s.bidPart = true → gfrmOf f = some g → g.pcl = 0 → g.kind = 1 →
    s.bid.w.hasId (ofLE ((List.range 4).map (fun j => f.data.getD j 0 % 256))) = false → s.bid.w.bySeq g.seq = none → s.bid.w.freeK = some k →
    Completes (.announce f own) s (fun t => ∃ e, aget t.bid.w.tab k = some e ∧ e.st = 1 ∧ e.seq = g.seq ∧ e.round = g.round ∧
      e.idw = idClean (ofLE ((List.range 4).map (fun j => f.data.getD j 0 % 256))))) ∧
  (∀ (s : State) (f : CanFrm) (own : Bool) (g : Grp) (k : Nat) (e : BidE), s.awake → s.bidPart = true → gfrmOf f = some g →
    s.bid.w.bySeq g.seq = some (k, e) → aget s.bid.w.tab k = some e →
    (g.pcl = 0 → g.kind = 2 → e.round = g.round → Completes (.tick f own) s (fun t => aget t.bid.w.tab k = some { e with tick := true })) ∧
    (g.pcl ≠ 0 → g.rebid = false → e.round = g.round → e.st = 1 → Completes (.bid f own) s (fun t => ∃ e', aget t.bid.w.tab k = some e' ∧ e'.st = 2 ∧
      e'.hold = f.id % 64 ∧ e'.hcost = f.id / 64 % 2 ^ 20 ∧ e'.seq = e.seq)) ∧
    (g.pcl = 0 → g.kind = 3 → e.round = ofLE ((List.range 4).map (fun j => f.data.getD (4 + j) 0 % 256)) / 2 ^ 27 % 4 →
      Completes (.holdFrame f own) s (fun t => aget t.bid.w.tab k = some { e with
        hcost := ofLE ((List.range 4).map (fun j => f.data.getD (4 + j) 0 % 256)) % 2 ^ 20
        cmt := bitOf (ofLE ((List.range 4).map (fun j => f.data.getD (4 + j) 0 % 256))) 23 })) ∧
    (g.pcl = 0 → g.kind = 4 → e.round = g.round → Completes (.closeFrame f own) s (fun t => aget t.bid.w.tab k = none))) ∧
  (∀ (s : State) (f : CanFrm) (own : Bool) (g : Grp), s.awake → s.bidPart = true → gfrmOf f = some g → g.pcl = 0 → g.kind = 5 →
    Completes (.status f own) s (fun t => aget t.bid.w.cars (f.id % 64) =
      some (s.now, bitOf (f.data.getD 6 0 % 256) 0, bitOf (f.data.getD 6 0 % 256) 1))) ∧
  (∀ (s : State) (f : CanFrm) (own : Bool) (c : Instr), s.bidPart = false →
    c = .announce f own ∨ c = .tick f own ∨ c = .bid f own ∨ c = .holdFrame f own ∨ c = .closeFrame f own ∨ c = .status f own →
    Completes c s (fun t => t.bid = s.bid))

/-- A new hall-call word is announced by a module that takes part, is not alone and sees no second car of its number (R332); a word of a call it holds already changes nothing. DUPCLR clears DUPCAR
(R345). STATUS_PERIOD and HOLD_PUBLICATION stage one record each when due, unless the module is a standby (R338, R342, R580); an unheard car is forgotten (R342). -/
def Obligations.DispatchEventsAct : Prop :=
  (∀ (s : State) (w k : Nat), s.awake → s.standby = false → s.bidPart = true → w < 2 ^ 32 → idType w ≠ 0 →
    (s.bid.w.hasId w = true → Completes (.hallCallWord w) s (fun t => t.bid = s.bid)) ∧
    (s.bid.w.hasId w = false → s.bid.w.freeK = some k → s.alone = false → s.dupcar = false →
      Completes (.hallCallWord w) s (fun t => t.bid.w.tab = s.bid.w.tab ∧ ∃ r, t.bid.w.out = s.bid.w.out ++ [r] ∧ r.2.2.1 = idClean w % 2 ^ 32))) ∧
  (∀ (s : State), s.taking → s.hasUnit 0 = true → Completes .dupclr s (fun t => t.rf Addr.BID_STAT Fl.BID_STAT_DUPCAR = 0 ∧ t.bid = s.bid)) ∧
  (∀ (s : State), s.awake → s.standby = false → s.bidPart = true → s.dupcar = false → s.bid.w.stt + s.tstat ≤ s.now →
    Completes .statusPeriod s (fun t => (∃ r, t.bid.w.out = s.bid.w.out ++ [r]) ∧ t.bid.w.stt = s.now ∧ t.bid.w.stn = (s.bid.w.stn + 1) % 65536)) ∧
  (∀ (s : State) (k : Nat) (e : BidE), s.awake → s.standby = false → s.bidPart = true → s.alone = false → s.dupcar = false → aget s.bid.w.tab k = some e → e.mine = true → e.st = 2 → e.clsd = false → e.pubT + 50 * s.tstat ≤ s.now →
    Completes (.holdPublication k) s (fun t => (∃ r, t.bid.w.out = s.bid.w.out ++ [r]) ∧ ∃ e', aget t.bid.w.tab k = some e' ∧ e'.pubT = s.now ∧ e'.st = 2)) ∧
  (∀ (s : State) (n : Nat), s.awake → s.bidPart = true → (aget s.bid.w.cars n).isSome = true → s.carPresent n = false →
    Completes (.carAbsent n) s (fun t => aget t.bid.w.cars n = none))

/-! ### Guard (chapter 09) -/

/-- TRIPCLR takes a tripped guard back to ARMING at standstill outside RUN, and is refused elsewhere (R384); sixteen valid frames arm the guard (R356); an active guard stops on overspeed (R368) and on a missing neighbour record, and trips when
the stop does not hold the gap (R361) or the record stays away (R375); zones that disagree set ZDIS (R378). -/
def Obligations.GuardEventsAct : Prop :=
  (∀ (s : State), s.taking → s.hasUnit 1 = true →
    (s.tripClrOk = true → Completes .tripclr s (fun t => t.hdl.gst = 1 ∧ t.hdl.trip = false ∧ t.hdl.armN = 0)) ∧
    (s.tripClrOk = false → Completes .tripclr s (fun t => t.hdl = s.hdl ∧ t.rd Addr.HIF_VIOL_CODE = 0x08000022))) ∧
  (∀ (s : State), s.awake → s.hdl.gst = 1 → 16 ≤ s.hdl.armN → Completes .guardArmed s (fun t => t.hdl.gst = 2 ∧ t.hdl.wasLk = true)) ∧
  (∀ (s : State), s.awake → s.hdl.act = true →
    (s.hdl.gst = 2 → s.rf Addr.HDL_OVCFG Fl.HDL_OVCFG_OVN ≤ s.hdl.ovS → s.hdl.ovS ≠ 0 → s.hdl.ovT = 0 →
      Completes .overspeed s (fun t => t.hdl.gst = 3 ∧ t.hdl.stopRq = some s.frm ∧ t.hdl.trip = s.hdl.trip)) ∧
    (s.hdl.gst = 2 ∨ s.hdl.gst = 3 → s.rf Addr.HDL_OVCFG Fl.HDL_OVCFG_OVN ≤ s.hdl.ovT → s.hdl.ovT ≠ 0 →
      Completes .overspeed s (fun t => t.hdl.gst = 4 ∧ t.hdl.trip = true)) ∧
    (s.hdl.gst = 3 → s.hdl.esc = true → s.nrf < s.hdl.nH → s.rf Addr.HDL_ESCCFG Fl.HDL_ESCCFG_SHN ≤ s.hdl.et.cnt →
      Completes (.escalationTrip 1) s (fun t => t.hdl.gst = 4 ∧ t.hdl.trip = true)) ∧
    (s.hdl.gst = 2 → s.shToward = true → s.rf Addr.HDL_SHCFG Fl.HDL_SHCFG_IMGMISS ≤ s.hdl.miss → s.hdl.miss < s.rf Addr.HDL_SHCFG Fl.HDL_SHCFG_IMGTRIP →
      Completes .neighbourRecordMissing s (fun t => t.hdl.gst = 3 ∧ t.hdl.trip = s.hdl.trip)) ∧
    (s.hdl.gst = 2 ∨ s.hdl.gst = 3 → s.shToward = true → s.rf Addr.HDL_SHCFG Fl.HDL_SHCFG_IMGTRIP ≤ s.hdl.miss →
      Completes .neighbourRecordMissing s (fun t => t.hdl.gst = 4 ∧ t.hdl.trip = true))) ∧
  (∀ (s : State), s.running = true → s.flag Addr.HDL_ZIN Fl.HDL_ZIN_EN = true → s.rf Addr.HDL_ZIN Fl.HDL_ZIN_ZDN ≤ s.hdl.zdN → s.hdl.zdN ≠ 0 →
    Completes .zoneDisagreement s (fun t => (Addr.HDL_STAT, Fl.HDL_STAT_ZDIS.mask, setF 0 Fl.HDL_STAT_ZDIS 1) ∈ t.pend ∧ t.hdl = { s.hdl with zdOn := true }))

/-! ### Field inputs and outputs (chapter 10) -/

/-- INPUT_CHANGE opens a run of the input's filter while the island judges (R392); EDGE_ACCEPTED of an input without stages takes the new level and writes one edge record (R392, R395), or
counts it lost when the group's buffer is full (R397); RUN_ABANDONED ends the run and takes nothing; a read of a group answers and removes its oldest record (R396), and is refused for a group that the sheaf reads.
Timers and flags of the field inputs (R399, R401): STALE_INPUT sets the flag of an enabled input that stayed too long, a mask clears flags and starts the timers of those it clears anew, stages of a tap that differ too long set its bit. -/
def Obligations.FieldInputsAct : Prop :=
  ((∀ (s : State) (k : Nat) (b v : Bool) (cyc : Nat), k < 32 → (s.fio.filt (filtIx k b)).raw ≠ v →
    Completes (.inputChange k b v cyc) s (fun t => (t.fio.filt (filtIx k b)).raw = v ∧ (t.fio.filt (filtIx k b)).acc = (s.fio.filt (filtIx k b)).acc ∧
      (s.judging = true → (s.fio.filt (filtIx k b)).run = false → (s.fio.filt (filtIx k b)).acc ≠ v →
        (t.fio.filt (filtIx k b)).run = true ∧ (t.fio.filt (filtIx k b)).merged = false ∧ (t.fio.filt (filtIx k b)).since = s.ecyc + cyc))) ∧
  (∀ (s : State) (k cyc : Nat) (w : WinF), k < 24 → s.fio.filt k = w → w.run = true → w.raw ≠ w.acc → w.since + s.deb k ≤ s.ecyc + cyc →
    Completes (.edgeAccepted k false cyc) s (fun t => (t.fio.filt k).acc = w.raw ∧ (t.fio.filt k).run = false ∧
      ((s.fio.fifo.getD (k / 8) []).length < 64 → t.fio.fifo.getD (k / 8) [] = s.fio.fifo.getD (k / 8) [] ++
        [(2 ^ 31 + 2 ^ 30 * b2n w.merged + 2 ^ 29 * b2n (s.fio.lossP.getD (k / 8) false) + 2 ^ 28 * b2n w.raw + 2 ^ 24 * (k % 8) + 65536 * w.ofs,
          w.fr % 2 ^ 32, s.frm)]) ∧
      (64 ≤ (s.fio.fifo.getD (k / 8) []).length → t.fio.fifo = s.fio.fifo ∧ t.rf Addr.FIO_STAT Fl.FIO_STAT_EOVF = 1))) ∧
  (∀ (s : State) (k cyc : Nat) (b : Bool) (w : WinF), k < 32 → s.fio.filt (filtIx k b) = w → w.run = true → w.raw = w.acc → w.since + s.deb k ≤ s.ecyc + cyc →
    Completes (.runAbandoned k b cyc) s (fun t => t.fio.filt (filtIx k b) = { w with run := false } ∧ t.fio.fifo = s.fio.fifo)) ∧
  (∀ (s : State) (g w0 fr f : Nat) (q : List (Nat × Nat × Nat)), s.awake → g < 4 → s.fio.fifo.getD g [] = (w0, fr, f) :: q →
    (s.dpGroup g = false → Completes (.edgeRecordRead g) s (fun t => t.ctlData = [wN w0] ∧ t.fio.fifo.getD g [] = q ∧ t.rd (Addr.FIO_EFH g) = wN fr)) ∧
    (s.dpGroup g = true → Completes (.edgeRecordRead g) s (fun t => t.ctlData = [] ∧ t.fio.fifo = s.fio.fifo ∧ t.rd Addr.HIF_VIOL_CODE = 0x0F010003)))) ∧
  ((∀ (s : State) (k cyc : Nat), s.awake → k < 32 → bitOf (s.rd Addr.FIO_STLEN).toNat k = true →
    s.fio.stl.getD k 0 + 200000000 * s.rf Addr.FIO_STLT ⟨8 * (k / 8), 8⟩ ≤ s.ecyc + cyc →
    Completes (.staleInput k cyc) s (fun t => bitOf (t.rd Addr.FIO_STALE).toNat k = true)) ∧
  (∀ (s : State) (m : Nat), s.awake → Completes (.staleFlagClear m) s (fun t => t.rd Addr.FIO_STALE = s.rd Addr.FIO_STALE &&& ~~~ wN m ∧
    ∀ k, k < 32 → t.fio.stl.getD k 0 = (if bitOf (s.rd Addr.FIO_STALE &&& wN m).toNat k then s.now else s.fio.stl.getD k 0))) ∧
  (∀ (s : State) (j cyc t0 : Nat), s.awake → j < 8 → s.fio.tapT.getD j none = some t0 → bitOf s.fio.tapL j = false →
    t0 + 200000 * s.rf Addr.FIO_TAPCFG ⟨0, 8⟩ ≤ s.ecyc + cyc →
    Completes (.tapDiscrepancy j cyc) s (fun t => bitOf t.fio.tapL j = true ∧ t.rf Addr.FIO_STAT Fl.FIO_STAT_TAPD = 1 ∧ t.rf Addr.FIO_TAP ⟨24 + j, 1⟩ = 1)))

/-- Field outputs (R407–R414): a readback that disagrees sets FAULT, a safety channel stuck or failed clears the latches of its pair too; an overload locks its output; silent logic gives
the safe state. Field supply (R415–R418): start, warning, fault, recovery, lost and resumed pulses set and clear their bits, and loss of supply or link leaves no channel armed.
ARM_A and ARM_B (R412): with the conditions met and nothing else under way the two latches of the pair are set and its readback failure is forgotten; otherwise ARMREF is set, the refusal
is logged and no latch of the pair changes from 0. -/
def Obligations.FieldOutputsAct : Prop :=
  ((∀ (s : State) (k : Nat), s.awake → k < 16 → s.compares = true →
    Completes (.readbackDisagreement k) s (fun t => t.fio.dis = true ∧ bitOf t.fio.mis k = true ∧ t.rf Addr.FIO_STAT Fl.FIO_STAT_FAULT = 1)) ∧
  (∀ (s : State) (i : Nat), s.awake → i < 4 → s.compares = true →
    (bitOf s.conducts i = false → Completes (.safetyChannelStuck i) s (fun t => bitOf t.fio.a9 i = true ∧ bitOf t.fio.rbf (i / 2) = true ∧
      bitOf t.fio.arm i = false ∧ t.rf Addr.FIO_STAT Fl.FIO_STAT_FAULT = 1)) ∧
    (bitOf s.conducts i = true → Completes (.safetyChannelFailed i) s (fun t => bitOf t.fio.rbf (i / 2) = true ∧ bitOf t.fio.arm i = false ∧
      t.rf Addr.FIO_STAT Fl.FIO_STAT_FAULT = 1))) ∧
  (∀ (s : State) (k : Nat), k < 16 → Completes (.outputOverload k) s (fun t => bitOf t.fio.olock k = true ∧ bitOf t.outLv k = false)) ∧
  (∀ (s : State) (cyc : Nat), s.fio.up = true → s.fio.silent = false →
    s.fio.hb * 100 + 98 * (s.rf Addr.FIO_OCFG Fl.FIO_OCFG_SILN * s.fio.per) ≤ (s.ecyc + cyc) * 100 →
    Completes (.silentLogic cyc) s (fun t => t.fio.silent = true ∧ t.fio.arm = 0)) ∧
  (∀ (s : State), Completes .fieldStart s (fun t => t.fio.up = true ∧ t.fio.silent = true ∧ t.fio.arm = 0 ∧ t.rf Addr.FIO_STAT Fl.FIO_STAT_UVF = 1)) ∧
  (∀ (s : State), Completes .field24Warning s (fun t => t.rf Addr.FIO_STAT Fl.FIO_STAT_UVW = 1)) ∧
  (∀ (s : State), s.fstat Fl.FIO_STAT_UVF = false → Completes .field24Fault s (fun t => t.rf Addr.FIO_STAT Fl.FIO_STAT_UVF = 1 ∧
    t.rf Addr.FIO_STAT Fl.FIO_STAT_FAULT = 1 ∧ t.fio.arm = 0)) ∧
  (∀ (s : State) (cyc : Nat), Completes (.field24Recovered cyc) s (fun t => t.rf Addr.FIO_STAT Fl.FIO_STAT_UVW = 0 ∧ t.rf Addr.FIO_STAT Fl.FIO_STAT_UVF = 0)) ∧
  (∀ (s : State), s.fstat Fl.FIO_STAT_FLOST = false → Completes .fieldLost s (fun t => t.rf Addr.FIO_STAT Fl.FIO_STAT_FLOST = 1 ∧ t.fio.arm = 0)) ∧
  (∀ (s : State) (cyc : Nat), Completes (.fieldPulsesResumed cyc) s (fun t => t.rf Addr.FIO_STAT Fl.FIO_STAT_FLOST = 0))) ∧
  (∀ (s : State), s.taking →
    let armed (p : Nat) (t : State) : Prop := bitOf t.fio.arm (2 * p) = true ∧ bitOf t.fio.arm (2 * p + 1) = true ∧ bitOf t.fio.rbf p = false
    let refused (p : Nat) (t : State) : Prop := t.rf Addr.FIO_STAT Fl.FIO_STAT_ARMREF = 1 ∧ t.rd Addr.HIF_VIOL_CODE = 0x08000022 ∧ t.fio.rbf = s.fio.rbf ∧ (bitOf s.fio.arm (2 * p) = false → bitOf t.fio.arm (2 * p) = false)
    (s.armOk 0 = true → s.rests → s.flt.hcls = 0 → Completes .arma s (armed 0)) ∧
    (s.armOk 1 = true → s.rests → s.flt.hcls = 0 → Completes .armb s (armed 1)) ∧
    (s.armOk 0 = false → Completes .arma s (refused 0)) ∧
    (s.armOk 1 = false → Completes .armb s (refused 1)))

/-! ### Energy (chapter 11) -/

/-- CLR outside RUN clears the registers and writes a checkpoint with its CRC, and is refused in RUN (R443, R444); SNAP copies the published registers (R441); a CHECKPOINT of an active unit whose 900 s end in the
running frame holds them (R444). The checkpoint is said of a loft with blocks in its checkpoint region and a spare.
Events of the energy unit: while SD_CLK runs a stuck pad of a judged channel sets its bit and data that change again clear it (R427); 1.4 half periods without a crossing force a boundary (R432); a pending pulse starts and its two phases end (R447). -/
def Obligations.EnergyUnitActs : Prop :=
  ((∀ (s : State), s.taking → s.hasUnit 3 = true →
    let c : Ckpt := ⟨List.replicate 8 0, List.replicate 8 0, (s.rd Addr.NRG_PUBFRM).toNat, false, 0⟩
    (s.mode ≠ .RUN → Completes .clr s (fun t => t.nrg.pub = List.replicate 8 0 ∧ t.nrg.pubW = List.replicate 8 0 ∧
      t.nrg.c.reg = List.replicate 8 NReg.init ∧ (s.loft.ckReg ≠ [] → s.loft.spares ≠ [] → t.loft.ckpts.head? = some { c with crc := c.sum }))) ∧
    (s.mode = .RUN → Completes .clr s (fun t => t.nrg = s.nrg ∧ t.loft = s.loft ∧ t.rd Addr.HIF_VIOL_CODE = 0x08000022))) ∧
  (∀ (s : State), s.awake → s.hasUnit 3 = true → Completes .snap s (fun t => t.nrg = s.nrg ∧ t.rd Addr.NRG_SFRM = s.rd Addr.NRG_PUBFRM ∧
    ∀ r, r < 8 → t.rd (Addr.NRG_SNAP_LO r) = wN (s.nrg.pub.getD r 0) ∧ t.rd (Addr.NRG_SNAP_HI r) = wN (s.nrg.pub.getD r 0 / 2 ^ 32))) ∧
  (∀ (s : State), s.awake → s.nrgActive = true → s.nrg.ckT + 180000000000 < s.ecyc + s.ncyc → s.loft.ckReg ≠ [] → s.loft.spares ≠ [] →
    let c : Ckpt := ⟨s.nrg.pub, s.nrg.pubW, (s.rd Addr.NRG_PUBFRM).toNat, false, 0⟩
    Completes .checkpoint s (fun t => t.rd Addr.NRG_CKFRM = wN s.frm ∧ t.nrg.ckT = s.nrg.ckT + 180000000000 ∧
      t.loft.ckpts.head? = some { c with crc := c.sum })) ∧
  (∀ (s : State), s.awake → s.ecyc + s.ncyc ≤ s.nrg.ckT + 180000000000 → Completes .checkpoint s (fun t => t.nrg = s.nrg ∧ t.loft = s.loft))) ∧
  ((∀ (s : State) (c : Nat), s.awake → s.nrg.clk = true → s.judged c = true → Completes (.modulatorStuck c) s (fun t => t.rf Addr.NRG_STAT ⟨24 + c, 1⟩ = 1)) ∧
  (∀ (s : State) (c : Nat), s.awake → c < 8 → Completes (.modulatorDataResumed c) s (fun t => t.rf Addr.NRG_STAT ⟨24 + c, 1⟩ = 0)) ∧
  (∀ (s : State), s.awake → s.nrgActive = true → s.nrg.skip = 0 → s.nrgForceDue = true → Completes .forcedBoundary s (fun t => t.nrg.w.tB = s.ecyc ∧ t.nrg.w.qual = 0 ∧
    t.nrg.w.prev.forc = true ∧ t.nrg.w.half = NHalf.init (s.frm + 1))) ∧
  (∀ (s : State), s.awake → s.nrgActive = true → s.nrg.pph = 0 → 0 < s.nrg.pend →
    Completes .pulseStart s (fun t => t.nrg.pph = 1 ∧ t.nrg.lvl = true ∧ t.nrg.pend = s.nrg.pend - 1)) ∧
  (∀ (s : State), s.awake → s.nrg.pph = 1 → s.nrg.pt0 + s.nrg.pw ≤ s.frm → Completes .pulseHighEnd s (fun t => t.nrg.pph = 2 ∧ t.nrg.lvl = false)) ∧
  (∀ (s : State), s.awake → s.nrg.pph = 2 → s.nrg.pt0 + s.nrg.pw ≤ s.frm → Completes .pulseLowEnd s (fun t => t.nrg.pph = 0)))

/-! ### CAN controllers (chapter 12) -/

/-- Frames of controller x (0 CANA, 1 CANB): one received without error that is no service frame goes to its object, with the time of its SOF (R462, R463); the pending frame of least key starts (R469); losing arbitration it waits again, or is
removed when a cancel came (R468); sent, it leaves its object idle; an error notes its code and the object waits again (R468, R480). A held frame is released at its instant (R468). -/
def Obligations.CanFramesMove : Prop :=
  (∀ (s : State) (x cyc age : Nat) (f : CanFrm) (r : SRec), x < 2 → s.awake → s.canStat x Fl.CAN_STAT_SLEEPING = false → s.canStat x Fl.CAN_STAT_ACTIVE = true →
    f.rtr = false →
    (f.fdf = true → s.canCfg x Fl.CAN_CFG_FDEN ≠ 0) → s.isNmt x f = false → s.isSdo x f = false → s.rxObj? x f = some r →
    (oOwner r = 1 → (s.canS x).q.length < 64 → Completes (.canFrameReceived x cyc f age) s (fun t =>
      (t.canS x).q = (s.canS x).q ++ [({ f with ts := (s.ecyc + cyc - age) / 200 % 2 ^ 32 }, false, s.frm)])) ∧
    (oOwner r = 2 → s.lockedObj x ≠ some (oObj r) → Completes (.canFrameReceived x cyc f age) s (fun t =>
      ((t.canS x).rxO (oObj r)).frm = some { f with ts := (s.ecyc + cyc - age) / 200 % 2 ^ 32 } ∧ ((t.canS x).rxO (oObj r)).new = true))) ∧
  (∀ (s : State) (x cyc k : Nat) (f : CanFrm), x < 2 → s.awake → s.canMaySend x = true → leastOffer (s.offers x) = some (k, f) → k < 128 →
    Completes (.transmitStart x cyc) s (fun t => (t.canS x).cur = some ⟨k, (s.at cyc).sentFrm x k f, s.ecyc + cyc⟩ ∧ ((t.canS x).txO k).st = 3)) ∧
  (∀ (s : State) (x cyc : Nat) (u : CCur), x < 2 → s.awake → (s.canS x).cur = some u → u.obj < 128 →
    ((s.at cyc).inBus x = false → Completes (.arbitrationLost x cyc) s (fun t => (t.canS x).cur = none ∧
      ((t.canS x).txO u.obj).st = (if ((s.canS x).txO u.obj).cancel then 0 else 2))) ∧
    (∀ tdc, ((s.canS x).txO u.obj).st = 3 → Completes (.transmitComplete x cyc tdc) s (fun t => (t.canS x).cur = none ∧ ((t.canS x).txO u.obj).st = 0)) ∧
    (∀ e : BusErr, s.canStat x Fl.CAN_STAT_ACTIVE = true → ((s.canS x).txO u.obj).st = 3 → ((s.canS x).txO u.obj).cancel = false → e.dataPh = false →
      Completes (.busError x cyc e) s (fun t => (t.canS x).cur = none ∧ ((t.canS x).txO u.obj).st = 2 ∧
        t.rf (Addr.CAN_LEC x) Fl.CAN_LEC_LEC = e.code % 2 ^ Fl.CAN_LEC_LEC.w))) ∧
  (∀ (s : State) (x k cyc : Nat), x < 2 → s.awake → k ≠ 128 → ((s.canS x).txO k).st = 1 → (s.at cyc).instDue ((s.canS x).txO k).inst = true →
    Completes (.releaseInstantDue x k cyc) s (fun t => ((t.canS x).txO k).st = 2 ∧ ((t.canS x).txO k).notick = ((s.canS x).txO k).th))

/-- Bus states of a controller (R458, R480–R484): ALONE after ALN lone errors, bus-off recovery, integration, sleep and wake. -/
def Obligations.CanBusStates : Prop :=
  ∀ (s : State) (x : Nat), x < 2 → s.awake →
    (s.canCfg x Fl.CAN_CFG_ALN ≤ (s.canS x).aln → Completes (.alone x) s (fun t => t.rf (Addr.CAN_STAT x) Fl.CAN_STAT_ALONE = 1)) ∧
    (s.canStat x Fl.CAN_STAT_BOFF = true → Completes (.borq x) s (fun t => (t.canS x).recov = true)) ∧
    (s.canStat x Fl.CAN_STAT_BOFF = true → (s.canS x).recov = true → Completes (.busOffRecoveryDone x) s (fun t => (t.canS x).tec = 0 ∧ (t.canS x).rxe = 0 ∧
      t.rf (Addr.CAN_STAT x) Fl.CAN_STAT_BOFF = 0 ∧ t.rf (Addr.CAN_STAT x) Fl.CAN_STAT_ACTIVE = 1)) ∧
    (s.canStat x Fl.CAN_STAT_INTEG = true → Completes (.integrationDone x) s (fun t => t.rf (Addr.CAN_STAT x) Fl.CAN_STAT_INTEG = 0 ∧
      (s.canStat x Fl.CAN_STAT_BOFF = false → (s.canS x).effEn = true → t.rf (Addr.CAN_STAT x) Fl.CAN_STAT_ACTIVE = 1))) ∧
    (s.mode ≠ .RUN → s.canStat x Fl.CAN_STAT_BOFF = false → Completes (.sleep x) s (fun t => (t.canS x).slpRq = true)) ∧
    (s.mode = .RUN → Completes (.sleep x) s (fun t => (t.canS x).slpRq = (s.canS x).slpRq ∧ t.rd Addr.HIF_VIOL_CODE = 0x0F010003)) ∧
    ((s.canS x).slpRq = true → (s.canS x).cur = none → Completes (.sleepEntry x) s (fun t => t.rf (Addr.CAN_STAT x) Fl.CAN_STAT_SLEEPING = 1 ∧
      (s.canStat x Fl.CAN_STAT_SLEEPING = false → t.rf (Addr.CAN_STAT x) Fl.CAN_STAT_ACTIVE = 0))) ∧
    (s.canStat x Fl.CAN_STAT_SLEEPING = true → Completes (.wake x) s (fun t => t.rf (Addr.CAN_STAT x) Fl.CAN_STAT_SLEEPING = 0 ∧
      t.rf (Addr.CAN_STAT x) Fl.CAN_STAT_INTEG = b2n (s.canS x).effEn ∧ (t.canS x).slpRq = false)) ∧
    (s.canStat x Fl.CAN_STAT_SLEEPING = true → s.canCfg x Fl.CAN_CFG_WAKEM = 0 → Completes (.wakeEvent x) s (fun t => t.rf (Addr.CAN_STAT x) Fl.CAN_STAT_WAKEUP = 1 ∧ t.rf (Addr.CAN_STAT x) Fl.CAN_STAT_SLEEPING = 0))

/-- Software and the objects of a controller (R466, R467, R471, R472): a hand-off request makes an idle transmit object of software wait for the bus; a cancel removes a waiting one; a read of word 0 of the receive window locks its object, a
new selection and a lock of 1 ms release it; the high-priority buffer is free after it is read. -/
def Obligations.CanSoftwareAccess : Prop :=
  (∀ (s : State) (x : Nat) (r : SRec), x < 2 → s.awake → s.obj? x (s.rf (Addr.CAN_TXSEL x) Fl.CAN_TXSEL_OBJ) = some r → oTx r = true → oOwner r = 2 →
    let k := s.rf (Addr.CAN_TXSEL x) Fl.CAN_TXSEL_OBJ
    (((s.canS x).txO k).st = 0 → oFdf r = true → Completes (.req x) s (fun t => ((t.canS x).txO k).st = 2)) ∧
    (((s.canS x).txO k).st = 1 ∨ ((s.canS x).txO k).st = 2 → Completes (.cancel x) s (fun t => ((t.canS x).txO k).st = 0 ∧ ((t.canS x).txO k).res = 2)) ∧
    (((s.canS x).txO k).st = 3 → Completes (.cancel x) s (fun t => ((t.canS x).txO k).st = 3 ∧ ((t.canS x).txO k).cancel = true))) ∧
  (∀ (s : State) (x : Nat) (r : SRec) (f : CanFrm), x < 2 → s.awake → s.obj? x (s.rf (Addr.CAN_RXSEL x) Fl.CAN_RXSEL_OBJ) = some r → oTx r = false → oOwner r = 2 →
    ((s.canS x).rxO (s.rf (Addr.CAN_RXSEL x) Fl.CAN_RXSEL_OBJ)).frm = some f →
    (∀ w, w < 19 → Completes (.rxWindowRead x w) s (fun t => t.ctlData = [frmWin f ((s.canS x).rxO (s.rf (Addr.CAN_RXSEL x) Fl.CAN_RXSEL_OBJ)).ovr w])) ∧
    Completes (.rxWindowRead x 0) s (fun t => (t.canS x).lock.isSome = true ∧ ((t.canS x).rxO (s.rf (Addr.CAN_RXSEL x) Fl.CAN_RXSEL_OBJ)).new = false)) ∧
  (∀ (s : State) (x k : Nat), x < 2 → s.awake → k < 128 → Completes (.rxSelect x k) s (fun t => t.rf (Addr.CAN_RXSEL x) Fl.CAN_RXSEL_OBJ = k ∧ (t.canS x).lock = none)) ∧
  (∀ (s : State) (x cyc t0 : Nat), x < 2 → s.awake → (s.canS x).lock = some t0 → t0 + 200000 ≤ s.ecyc + cyc →
    Completes (.lockTimeout x cyc) s (fun t => (t.canS x).lock = none ∧ t.rf (Addr.CAN_STAT x) Fl.CAN_STAT_LOCKTO = 1)) ∧
  (∀ (s : State) (x : Nat), x < 2 → s.awake → Completes (.hpBufferRead x) s (fun t => t.rf (Addr.CAN_HPSTAT x) Fl.CAN_HPSTAT_FULL = 0 ∧
    t.ctlData = [s.shown (Addr.CAN_HPD x 1)]))

/-! ### CiA 301 services (chapter 13) -/

/-- SDO requests to the server of controller x, which is taking part in the bus (R499–R504). An upload of up to four bytes is answered at once; a download that is refused is aborted with its code, one that was staged waits for its
boundary; a segment of an upload brings its next seven bytes; a segment without a transfer, and a transfer that is silent for 1 s, are aborted.
NMT commands to the node on CANA with their bit set (R519, R670): the state commands join staging as writes of PWR_MCMD, a reset of communication boots anew. One to another node changes nothing. BOOT_UP, HEARTBEAT and EMCY are sent when due
(R518, R522). -/
def Obligations.CanServicesAct : Prop :=
  ((∀ (s : State) (x cyc i0 i1 sub : Nat) (d : List Nat) (t0 : State), s.awake → s.canPart x = true → i0 < 256 → i1 < 256 → sub < 256 → 1 ≤ d.length → d.length ≤ 4 →
    ((s.at cyc).sdoClose x).objRead (i0 + 256 * i1) sub = (0, d, t0) →
    Completes (.sdoUploadInitiate x cyc [0x40, i0, i1, sub, 0, 0, 0, 0]) s (fun t => ∃ f, (t.canS x).svc = (t0.canS x).svc ++ [f] ∧
      f.data = ([0x43 + 4 * (4 - d.length), i0, i1, sub] ++ d ++ List.replicate 8 0).take 8)) ∧
  (∀ (s : State) (x cyc i0 i1 sub c : Nat) (dat : List Nat) (w : Bool) (t0 : State), s.awake → s.canPart x = true → i0 < 256 → i1 < 256 → sub < 256 →
    dat.length = 4 → (∀ b ∈ dat, b < 256) →
    ((s.at cyc).sdoClose x).objWrite (i0 + 256 * i1) sub dat (3 + x) (((s.at cyc).sdoClose x).sdoS x).next = (c, w, t0) →
    (c ≠ 0 → Completes (.sdoDownloadInitiate x cyc ([0x23, i0, i1, sub] ++ dat)) s (fun t => ∃ f, (t.canS x).svc = (t0.canS x).svc ++ [f] ∧
      f.data = [0x80, i0, i1, sub] ++ leBytes 4 c)) ∧
    (c = 0 → w = true → Completes (.sdoDownloadInitiate x cyc ([0x23, i0, i1, sub] ++ dat)) s (fun t => (t.canS x).svc = (t0.canS x).svc ∧
      (t.sdoS x).wait = (t0.sdoS x).wait ++ [((((s.at cyc).sdoClose x).sdoS x).next, i0 + 256 * i1, sub, none)]))) ∧
  (∀ (s : State) (x cyc : Nat) (bs : List Nat), s.awake → s.canPart x = true → (s.sdoS x).tr = none →
    Completes (.sdoSegment x cyc bs) s (fun t => ∃ f, (t.canS x).svc = (s.canS x).svc ++ [f] ∧ f.data = [0x80, 0, 0, 0] ++ leBytes 4 0x05040001)) ∧
  (∀ (s : State) (x cyc : Nat) (bs : List Nat) (tr : SdoTr), s.awake → s.canPart x = true → (s.sdoS x).tr = some tr → tr.up = true → tr.tog < 2 →
    bs.getD 0 0 = 0x60 + 16 * tr.tog → Completes (.sdoSegment x cyc bs) s (fun t => (∃ f, (t.canS x).svc = (s.canS x).svc ++ [f] ∧
        f.data = ([16 * tr.tog + 2 * (7 - (tr.buf.take 7).length) + b2n (tr.buf.drop 7).isEmpty] ++ tr.buf.take 7 ++ List.replicate 8 0).take 8) ∧
      (t.sdoS x).tr = (if (tr.buf.drop 7).isEmpty then none else some { tr with buf := tr.buf.drop 7, tog := 1 - tr.tog, time := s.ecyc + cyc }))) ∧
  (∀ (s : State) (x cyc : Nat) (tr : SdoTr), s.awake → x < 2 → (s.sdoS x).tr = some tr → tr.time + 200000000 ≤ s.ecyc + cyc →
    Completes (.sdoTimeout x cyc) s (fun t => (t.sdoS x).tr = none ∧ ∃ f, (t.canS x).svc = (s.canS x).svc ++ [f] ∧
      f.data.take 4 = [0x80, tr.ix % 256, tr.ix / 256 % 256, tr.sub] ∧ f.data.drop 4 = leBytes 4 0x05040000))) ∧
  ((∀ (s : State) (node : Nat), s.awake → s.canPart 0 = true → node = 0 ∨ node = s.cia.nodeA → s.flag Addr.SCH_BANK Fl.SCH_BANK_SWPEND = false → s.stgFree ≠ 0 →
    let staged (v : Nat) (t : State) : Prop := t.sch = { s.sch with staging := s.sch.staging ++ [⟨Addr.PWR_MCMD, false, v, 5, noTag, s.afterCutoff⟩] }
    (bitOf s.cia.nmt 0 = true → s.mode = .READY ∨ s.mode = .HOLD → Completes (.startRemoteNode node) s (staged 3)) ∧
    (bitOf s.cia.nmt 1 = true → s.mode = .RUN → Completes (.stopRemoteNode node) s (staged 4) ∧ Completes (.enterPreOperational node) s (staged 4)) ∧
    (bitOf s.cia.nmt 2 = true → s.mode ≠ .RUN → Completes (.resetNode node) s (staged 0x5A0F)) ∧
    (bitOf s.cia.nmt 3 = true → s.mode ≠ .RUN → Completes (.resetCommunication node) s (fun t => t.cia.boot = true ∧
      t.cia.nodeA = (if s.cia.setA = 0 then s.id.addr + 1 else s.cia.setA)))) ∧
  (∀ (s : State) (node : Nat) (c : Instr), node ≠ 0 → node ≠ s.cia.nodeA →
    c = .startRemoteNode node ∨ c = .stopRemoteNode node ∨ c = .enterPreOperational node ∨ c = .resetNode node ∨ c = .resetCommunication node →
    Completes c s (fun t => t.sch = s.sch ∧ t.cia.boot = s.cia.boot ∧ t.cia.nodeA = s.cia.nodeA)) ∧
  (∀ (s : State) (cyc : Nat), s.nmtTalks = true →
    (s.cia.boot = true → Completes (.bootUp cyc) s (fun t => t.cia.boot = false ∧
      (t.canS 0).svc = (s.canS 0).svc ++ [⟨0x700 + s.cia.nodeA, false, false, false, false, 1, [0], 0, false⟩])) ∧
    (∀ t0, s.cia.hb = some t0 → s.cia.hbt ≠ 0 → t0 + s.cia.hbt * 200000 ≤ s.ecyc + cyc → Completes (.heartbeat cyc) s (fun t =>
      t.cia.hb = some (s.ecyc + cyc) ∧ (t.canS 0).svc = (s.canS 0).svc ++ [⟨0x700 + s.cia.nodeA, false, false, false, false, 1, [s.mode.nmt], 0, false⟩])) ∧
    (∀ (e : Emcy) (q : List Emcy), s.cia.emq = e :: q → s.cia.emT = none → Completes (.emcySend cyc) s (fun t => t.cia.emT = some (s.ecyc + cyc) ∧
      (t.canS 0).svc = (s.canS 0).svc ++ [⟨0x80 + s.cia.nodeA, false, false, false, false, 8,
        leBytes 2 e.err ++ [e.reg, e.code, e.src, e.cls] ++ leBytes 2 e.frame, 0, false⟩]))))

/-! ### Host link (chapter 14) -/

/-- Requests that read (R545–R550): IDENT answers units, serial number and frame counter; OBJ_READ of an entry that reads without effect answers its bytes; REG_READ of one word of memory answers it; REC_READ answers up to 31 records from the one asked for on, with the number of the first, their count and the generation; none found, the number is the recorder's next.
Requests that write (R547–R549): REG_WRITE of one accepted word of an RWF register joins staging and waits; BULK_OPEN of a lawful length opens a download; BULK_DATA puts its bytes into the inactive bank and nowhere else, and is refused beyond the length; BULK_CLOSE ends
the download with two CRCs. OBJ_WRITE of an accepted entry that takes effect at the boundary joins staging and waits; one that is refused answers its code. -/
def Obligations.HostRequests : Prop :=
  (∀ (s : State) (r : HReq), s.freshReq r →
    (r.body = [] → Completes (.ident r) s (s.heldAs 0x02 r
      (some (.ok (leBytes 4 s.id.variant.units ++ leBytes 4 s.id.serial ++ leBytes 6 s.frm ++ [0, 0]))))) ∧
    (∀ (i0 i1 sub : Nat) (d : List Nat), r.body = [i0, i1, sub, 0] → d.length ≤ 1020 →
      (let u := (s.at r.cyc).modHlk (fun h => { h with held := h.held ++ [⟨r.tag, reqCrc 0x10 r, 0x10, none⟩] })
       u.objRead (ofLE [i0, i1]) (ofLE [sub]) = (0, d, u)) →
      Completes (.objRead r) s (s.heldAs 0x10 r (some (.ok d)))) ∧
    (∀ (a : Nat), r.body = leBytes 4 a ++ [1, 0] → inMem a = true → a % 4 = 0 → s.pwr.memInit = false →
      Completes (.regRead r) s (s.heldAs 0x20 r (some (.ok (leBytes 4 (s.mw a).toNat))))) ∧
    (∀ (n k : Nat), r.body = leBytes 4 n ++ [k, 0, 0, 0] → n < 2 ^ 32 → 1 ≤ k → k ≤ 31 →
      let l := s.recList n k
      Completes (.recRead r) s (s.heldAs 0x33 r (some (.ok (leBytes 4 (match l with | x :: _ => x.seq | [] => s.rcd.seq) ++ leBytes 2 l.length ++
        leBytes 2 (s.rf Addr.REC_GEN Fl.REC_GEN_GEN) ++ l.flatMap (fun x => x.words.flatMap (leBytes 4)))))))) ∧
  (∀ (s : State) (r : HReq), s.freshReq r →
    (∀ (a : Nat) (v : Word), r.body = leBytes 4 a ++ [1, 0, 0, 0] ++ leBytes 4 v.toNat → a < 2 ^ 32 → a ≠ Addr.STP_CALLQ → s.writeErr a v = 0 → stagedReg a = true →
      s.stgFree ≠ 0 → Completes (.regWrite r) s (fun t => s.heldAs 0x21 r none t ∧
        t.sch.staging = s.sch.staging ++ [⟨a, false, v.toNat, 0, r.tag, decide (r.cyc + 64 ≥ s.ncyc)⟩])) ∧
    (∀ (len : Nat), r.body = [1, 0, 0, 0] ++ leBytes 4 len → s.hlk.bulk = none → s.bankBusy = false → len % 4 = 0 → 0x84 ≤ len → len ≤ 262144 →
      Completes (.bulkOpen r) s (fun t => s.heldAs 0x30 r (some (.ok [])) t ∧ t.hlk.bulk = some (len, s.ecyc + r.cyc))) ∧
    (∀ (len t0 ofs : Nat) (d : List Nat), r.body = leBytes 4 ofs ++ d → ofs < 2 ^ 32 → (∀ b ∈ d, b < 256) → s.hlk.bulk = some (len, t0) → s.bankBusy = false → s.storeReads = false →
      (ofs % 4 = 0 → d.length % 4 = 0 → ofs + d.length ≤ len → len ≤ 262144 →
        Completes (.bulkData r) s (fun t => s.heldAs 0x31 r (some (.ok [])) t ∧ t.rf Addr.SCH_BANK Fl.SCH_BANK_VOK = 0 ∧
          (∀ k, k < d.length → t.mb (bankBase s.inactive + ofs + k) = d.getD k 0) ∧
          ∀ a, a < bankBase s.inactive + ofs ∨ bankBase s.inactive + ofs + d.length ≤ a → t.mb a = s.mb a)) ∧
      (len < ofs + d.length → Completes (.bulkData r) s (fun t => s.heldAs 0x31 r (some (.err 0x0F000004 0)) t ∧ t.mem = s.mem))) ∧
    (∀ (len t0 : Nat), r.body = [] → s.hlk.bulk = some (len, t0) → s.bankBusy = false →
      Completes (.bulkClose r) s (fun t => t.hlk.bulk = none ∧ t.mem = s.mem ∧ s.heldAs 0x32 r (some (.ok
        (leBytes 4 (crc32c (s.bytes (bankBase s.inactive) (len - 4))) ++ s.bytes (bankBase s.inactive + len - 4) 4))) t)) ∧
    (∀ (i0 i1 sub b0 : Nat) (d : List Nat) (e : OEnt), r.body = [i0, i1, sub, 0] ++ (b0 :: d) → i0 < 256 → i1 < 256 → sub < 256 → d.length < 1020 →
      (let u := (s.at r.cyc).modHlk (fun h => { h with held := h.held ++ [⟨r.tag, reqCrc 0x11 r, 0x11, none⟩] })
       u.objFind (i0 + 256 * i1) sub = .ok e ∧ u.entErr e ((b0 :: d).map (· % 256)) = 0) →
      e.cls ≠ .ro → e.cls ≠ .const → e.staged = true → e.callq = false → s.stgFree ≠ 0 →
      Completes (.objWrite r) s (fun t => s.heldAs 0x11 r none t ∧ t.sch.staging = s.sch.staging ++
        [⟨(i0 + 256 * i1) * 256 + sub, true, ofLE ((b0 :: d).map (· % 256)), 1, r.tag, decide (r.cyc + 64 ≥ s.ncyc)⟩])) ∧
    (∀ (i0 i1 sub b0 c : Nat) (d : List Nat) (w : Bool), r.body = [i0, i1, sub, 0] ++ (b0 :: d) → i0 < 256 → i1 < 256 → sub < 256 → d.length < 1020 → c ≠ 0 →
      (let u := (s.at r.cyc).modHlk (fun h => { h with held := h.held ++ [⟨r.tag, reqCrc 0x11 r, 0x11, none⟩] })
       u.objWrite (i0 + 256 * i1) sub ((b0 :: d).map (· % 256)) 1 r.tag = (c, w, u)) →
      Completes (.objWrite r) s (s.heldAs 0x11 r (some (.err c ((i0 + 256 * i1) * 256 + sub))))))

/-- Tags (R544, R545): a request whose TAG and bytes came before is answered again from its held result and acts not; FETCH answers a held result, says that there is none, or
refuses a wrong length; a request that begins while HL_DE is high is not heard (R531), and one of another address does nothing (R533). -/
def Obligations.HostLinkRules : Prop :=
  (∀ (s : State) (r : HReq) (h : HRes), s.awake → (s.at r.cyc).unheard 0 = false → s.hlk.due = none → r.body = [] → r.addr = s.id.addr →
    s.hlk.held.find? (fun h => h.tag == r.tag) = some h →
    h.crc = reqCrc 0x02 r → Completes (.ident r) s (fun t => t.hlk.held = s.hlk.held ∧ ∃ d, t.hlk.due = some d ∧ d.rep = true ∧ d.tag = r.tag)) ∧
  (∀ (s : State) (r : HReq) (k b1 b2 b3 : Nat), s.awake → (s.at r.cyc).unheard 4 = false → s.hlk.due = none → r.addr = s.id.addr → r.body = [k, b1, b2, b3] → k < 256 →
    (s.hlk.held.find? (fun h => h.tag == k) = none → Completes (.fetch r) s (fun t => t.hlk.held = s.hlk.held ∧
      ∃ d, t.hlk.due = some d ∧ d.typ = 0x40 ∧ d.body = some (.err 0x0F000006 0))) ∧
    (∀ h, s.hlk.held.find? (fun h => h.tag == k) = some h → Completes (.fetch r) s (fun t => t.hlk.held = s.hlk.held ∧
      ∃ d, t.hlk.due = some d ∧ d.typ = 0x40 ∧ d.body = none ∧ d.atag = h.tag ∧ d.atyp = h.typ))) ∧
  (∀ (s : State) (r : HReq), s.awake → (s.at r.cyc).unheard r.body.length = false → s.hlk.due = none → r.addr = s.id.addr → r.body.length ≤ 1032 → r.body.length ≠ 4 →
    Completes (.fetch r) s (fun t => t.hlk.held = s.hlk.held ∧ ∃ d, t.hlk.due = some d ∧ d.typ = 0x40 ∧ d.body = some (.err 0x0F000002 0))) ∧
  (∀ (s : State) (c : Instr) (r : HReq), c = .fetch r ∨ c = .ident r ∨ c = .objRead r ∨ c = .objWrite r ∨ c = .regRead r ∨ c = .regWrite r ∨ c = .bulkOpen r ∨
      c = .bulkData r ∨ c = .bulkClose r ∨ c = .recRead r ∨ c = .epoch r →
    ((s.at r.cyc).unheard r.body.length = true → Completes c s (fun t => t.hlk = s.hlk ∧ t.mem = s.mem ∧ t.sch = s.sch)) ∧
    (r.addr ≠ s.id.addr → r.addr ≠ 0xFF → r.body.length ≤ 1032 → s.hlk.due = none → Completes c s (fun t => t.hlk = s.hlk ∧ t.mem = s.mem ∧ t.sch = s.sch)))

/-- The events of the link, each with what it leaves: RESPONSE in its window sends the result, or PENDING where the slot leaves no room for more, or misses its slot (R539, R540, R542), a start bit
before it ends what was due (R540), and outside the window nothing is sent; EPOCH is noted with its slots and, with its flag, the wall time, a bad one is counted (R541); EPOCH_LOST after four epochs without one sets EPLOST (R543);
BULK_SESSION_TIMEOUT after 10 s without data closes the download (R549); HOST_FRAME_ERROR of each kind is counted (R536), a type that is none answers 0x0F00_0001 (R538). -/
def Obligations.HostLinkEvents : Prop :=
  (∀ (s : State) (cyc : Nat) (d : HDue), s.awake → s.hlk.due = some d → d.time + 400 + d.ext * 8 ≤ s.ecyc + cyc → s.ecyc + cyc ≤ d.time + 800 + d.ext * 8 →
    let u := s.at cyc
    let p := d.payload (u.dueBody d)
    (u.fits d p.length = true → Completes (.response cyc false) s (fun t => t.hlk.due = none ∧ t.hlk.held = s.hlk.held ∧ t.hlk.sent = s.hFrame d p ∧
      t.hlk.deT = s.ecyc + cyc + (p.length + 10) * 80 + 8)) ∧
    (u.fits d p.length = false → u.fits d 4 = true → Completes (.response cyc false) s (fun t => t.hlk.due = none ∧ t.hlk.sent = s.hFrame d [1, 0, d.atyp % 256, d.atag % 256])) ∧
    (u.fits d p.length = false → u.fits d 4 = false → Completes (.response cyc false) s (fun t => t.hlk.due = none ∧ t.hlk.sent = s.hlk.sent ∧
      t.rd Addr.HLK_SLOTMISS = wN (satU 32 ((s.rd Addr.HLK_SLOTMISS).toNat + 1))))) ∧
  (∀ (s : State) (cyc : Nat) (d : HDue) (e : HBody), s.awake → s.hlk.due = some d → d.body = some e → d.wait = false → s.hlk.ep = none →
    d.time + 400 + d.ext * 8 ≤ s.ecyc + cyc → s.ecyc + cyc ≤ d.time + 800 + d.ext * 8 →
    Completes (.response cyc false) s (fun t => t.hlk.due = none ∧ t.hlk.sent = s.hFrame d (d.payload (some e)))) ∧
  (∀ (s : State) (cyc : Nat) (d : HDue), s.awake → s.hlk.due = some d →
    Completes (.response cyc true) s (fun t => t.hlk.due = none ∧ t.hlk.sent = s.hlk.sent ∧
      t.rf Addr.HLK_ERRCNT Fl.HLK_ERRCNT_COLL = satU Fl.HLK_ERRCNT_COLL.w (s.rf Addr.HLK_ERRCNT Fl.HLK_ERRCNT_COLL + 1)) ∧
    (s.ecyc + cyc < d.time + 400 + d.ext * 8 ∨ d.time + 800 + d.ext * 8 < s.ecyc + cyc → Completes (.response cyc false) s (fun t => t.hlk = s.hlk))) ∧
  (∀ (s : State) (r : HReq) (ep len n f w : Nat), s.awake → (s.at r.cyc).unheard 16 = false → s.hlk.due = none → r.addr = s.id.addr ∨ r.addr = 0xFF → ep < 2 ^ 32 → f < 2 → w < 2 ^ 48 →
    r.body = leBytes 4 ep ++ leBytes 2 len ++ leBytes 2 n ++ [f, 0] ++ leBytes 6 w →
    (16 ≤ len → len ≤ 10000 → 1 ≤ n → n ≤ 1024 → Completes (.epoch r) s (fun t => t.rd Addr.HLK_EPNUM = wN ep ∧ t.rd Addr.HLK_EPFRM_LO = wN s.frm ∧ t.rf Addr.HLK_STAT Fl.HLK_STAT_EPLOST = 0 ∧
      t.rd Addr.HLK_SLOT = wN (n * 65536 + len) ∧ t.hlk.ep = some (s.ecyc + r.cyc) ∧ (f = 0 → t.rcd.clkW = s.rcd.clkW) ∧ (f = 1 → t.rcd.clkW = w))) ∧
    (len < 16 ∨ n = 0 → len < 65536 → n < 65536 → Completes (.epoch r) s (fun t => t.hlk = s.hlk ∧ t.rd Addr.HLK_EPNUM = s.rd Addr.HLK_EPNUM ∧
      t.rf Addr.HLK_ERRCNT Fl.HLK_ERRCNT_EPBAD = satU Fl.HLK_ERRCNT_EPBAD.w (s.rf Addr.HLK_ERRCNT Fl.HLK_ERRCNT_EPBAD + 1)))) ∧
  (∀ (s : State) (cyc t0 : Nat), s.awake → s.hlk.ep = some t0 →
    (t0 + 4 * s.slotLen * s.slotN ≤ s.ecyc + cyc → Completes (.epochLost cyc) s (fun t => t.rf Addr.HLK_STAT Fl.HLK_STAT_EPLOST = 1 ∧ t.hlk = s.hlk)) ∧
    (s.ecyc + cyc < t0 + 4 * s.slotLen * s.slotN → Completes (.epochLost cyc) s (fun t => t.rd Addr.HLK_STAT = s.rd Addr.HLK_STAT ∧ t.hlk = s.hlk))) ∧
  (∀ (s : State) (cyc len t0 : Nat), s.awake → s.hlk.bulk = some (len, t0) →
    (t0 + 2000000000 ≤ s.ecyc + cyc → Completes (.bulkSessionTimeout cyc) s (fun t => t.hlk.bulk = none ∧ t.hlk.held = s.hlk.held ∧ t.mem = s.mem)) ∧
    (s.ecyc + cyc < t0 + 2000000000 → Completes (.bulkSessionTimeout cyc) s (fun t => t.hlk = s.hlk ∧ t.mem = s.mem))) ∧
  (∀ (s : State) (e : HErr), s.awake → s.hlk.due = none →
    (e = .crc → Completes (.hostFrameError e) s (fun t => t.hlk = s.hlk ∧ t.rf Addr.HLK_ERRCNT Fl.HLK_ERRCNT_CRC = satU Fl.HLK_ERRCNT_CRC.w (s.rf Addr.HLK_ERRCNT Fl.HLK_ERRCNT_CRC + 1))) ∧
    (e = .framing ∨ e = .gap ∨ e = .length → Completes (.hostFrameError e) s (fun t => t.hlk = s.hlk ∧
      t.rf Addr.HLK_ERRCNT Fl.HLK_ERRCNT_FRM = satU Fl.HLK_ERRCNT_FRM.w (s.rf Addr.HLK_ERRCNT Fl.HLK_ERRCNT_FRM + 1)))) ∧
  (∀ (s : State) (ty : Nat) (r : HReq), s.freshReq r → ty ∉ [0x01, 0x02, 0x10, 0x11, 0x20, 0x21, 0x30, 0x31, 0x32, 0x33, 0x40] →
    Completes (.hostFrameError (.type ty r)) s (s.heldAs ty r (some (.err 0x0F000001 0))))

/-! ### Paired modules (chapter 15) -/

/-- Packets of the pair link (R560, R563, R564), with the head word and CRC-32C they were sent with: a valid beacon gives the peer claim and LINKOK, in WAIT a peer that drives the car makes the module STANDBY; a
standby holds a valid image for IMG_TAKE, a module of role SHAFT keeps the record for the next cycle 0 (R30), and notes a MARKER with its time; a packet with a wrong CRC is counted and does nothing else. PLMISS frames without a beacon clear LINKOK.
A beacon is valid whose frame or claim differs from the last one's (the model's choice, log entry 100).
The claim line and the outputs (R575, R576): a word on CLAIM_IN with right fixed bits and complement gives the peer claim, another changes nothing, and 12 µs without one read it as 0; the
comparator then allows exactly a claim that wins without YIELD on a field island with supply. GAPH frame periods after it stopped allowing the hold of the general outputs ends. -/
def Obligations.PairLinkActs : Prop :=
  ((∀ (s : State) (b : Beacon) (cyc : Nat), s.awake → s.beaconNew b = true → b.claim < 16 →
    Completes (.beaconReceived (PktEnds.sound 1 b.words) b cyc) s (fun t => t.rf Addr.PAIR_STAT Fl.PAIR_STAT_PEERCL = b.claim ∧ t.pst Fl.PAIR_STAT_LINKOK = true ∧ t.pair.bcn = some b ∧ t.pair.bmiss = 0 ∧
      (b.side ≠ s.id.sideB → s.pst Fl.PAIR_STAT_SIDEERR = false → s.role = 1 → b.role = 4 ∨ b.role = 3 → t.role = 2) ∧
      (b.side = s.id.sideB → t.pst Fl.PAIR_STAT_SIDEERR = true ∧ (s.role ≠ 0 → t.role = 1)))) ∧
  (∀ (s : State) (i : PImg) (cyc : Nat), s.awake → s.role = 2 →
    Completes (.imageReceived (PktEnds.sound 2 i.words) (.mirror i) cyc) s (fun t => t.pair.imgs = s.pair.imgs ++ [i])) ∧
  (∀ (s : State) (ws : List Word) (cyc : Nat), s.awake → s.pairRole = 2 → Completes (.imageReceived (PktEnds.sound 2 ws) (.shaft ws) cyc) s (fun t => t.pair.shNew = some ws)) ∧
  (∀ (s : State) (f n cyc : Nat), s.awake → s.role = 2 → Completes (.markerReceived (PktEnds.sound 3 (markerWords f n)) f n cyc) s (fun t =>
    t.pair.mrx = s.pair.mrx ++ [(f % 2 ^ 32, n, s.ecyc + cyc)])) ∧
  (∀ (s : State) (e : PktEnds) (cyc : Nat) (c : Instr), s.awake → (∃ b, c = .beaconReceived e b cyc ∧ e.crcOk b.words = false) ∨ (∃ i, c = .imageReceived e i cyc ∧ e.crcOk i.words = false) ∨
      (∃ f n, c = .markerReceived e f n cyc ∧ e.crcOk (markerWords f n) = false) →
    Completes c s (fun t => t.pair.bcn = s.pair.bcn ∧ t.pair.imgs = s.pair.imgs ∧ t.pair.mrx = s.pair.mrx ∧
      t.rf Addr.PAIR_ERRCNT Fl.PAIR_ERRCNT_CRC = satU Fl.PAIR_ERRCNT_CRC.w (s.rf Addr.PAIR_ERRCNT Fl.PAIR_ERRCNT_CRC + 1))) ∧
  (∀ (s : State), s.awake → s.linkSilent = true → Completes .pairLinkLost s (fun t => t.pst Fl.PAIR_STAT_LINKOK = false))) ∧
  ((∀ (s : State) (c cyc : Nat), c < 16 → Completes (.claimWord (0b1010 * 4096 + c * 256 + (15 - c) * 16 + 0b0101) cyc) s (fun t =>
    t.fio.peer = c ∧ t.fio.peerT = s.ecyc + cyc ∧ t.rf Addr.PAIR_STAT Fl.PAIR_STAT_LINECL = c ∧ t.fio.allow = t.compare)) ∧
  (∀ (s : State) (w cyc : Nat), ¬ (w / 4096 % 16 = 0b1010 ∧ w % 16 = 0b0101 ∧ w / 256 % 16 + w / 16 % 16 = 15) →
    Completes (.claimWord w cyc) s (fun t => t.fio.peer = s.fio.peer ∧ t.fio.peerT = s.fio.peerT)) ∧
  (∀ (s : State) (cyc : Nat), s.fio.peerT + 2400 ≤ s.ecyc + cyc → Completes (.peerClaimTimeout cyc) s (fun t => t.fio.peer = 0 ∧ t.fio.allow = t.compare)) ∧
  (∀ (s : State) (cyc : Nat), s.pair.drop ≠ 0 → s.fio.allow = false → s.fio.gapT + s.rf Addr.PAIR_CFG Fl.PAIR_CFG_GAPH * s.fio.per ≤ s.ecyc + cyc →
    Completes (.gapHoldEnd cyc) s (fun t => t.fio.allow = false ∧ t.fio.gapO = true)) ∧
  (∀ (c : Instr) (s : State), Completes c s (fun t => t.fio.allow = t.compare ∧ t.rf Addr.PAIR_STAT Fl.PAIR_STAT_ALLOW = b2n t.fio.allow)))

/-- Roles (R578, R579, R584, R586, R592): at cycle 0 a standby whose claim beats the peer's on beacon and line takes over; a WAIT module that hears no peer for PALONE drives the car;
two frames of disagreement set DISCORD; HANDREQ of a duty with a peer claim of at least 2 makes its claim 1, and is refused elsewhere; RESYNC drops SYNC and starts the sweep anew. -/
def Obligations.PairRolesChange : Prop :=
  (∀ (s : State), s.awake → s.cyc = 0 → s.role = 2 → s.rf Addr.PAIR_STAT Fl.PAIR_STAT_PEERCL < s.rf Addr.PAIR_CLAIM Fl.PAIR_CLAIM_CLAIM →
    s.rf Addr.PAIR_STAT Fl.PAIR_STAT_LINECL < s.rf Addr.PAIR_CLAIM Fl.PAIR_CLAIM_CLAIM →
    Completes .takeover s (fun t => t.role = 3 ∧ t.pst Fl.PAIR_STAT_TAKEN = true ∧
      t.rd Addr.PAIR_TAKE = wN (s.frm % 65536 * 65536 + s.rf Addr.PAIR_STAT Fl.PAIR_STAT_PEERCL * 256 + 1))) ∧
  (∀ (s : State) (cyc : Nat), s.awake → s.role = 1 → s.pst Fl.PAIR_STAT_SIDEERR = false →
    s.pair.alone + 20000000 * s.rf Addr.PAIR_CFG Fl.PAIR_CFG_PALONE ≤ s.ecyc + cyc → Completes (.peerWaitTimeout cyc) s (fun t => t.role = 4)) ∧
  (∀ (s : State), s.awake → 2 ≤ s.pair.discN → Completes .discord s (fun t => t.pst Fl.PAIR_STAT_DISCORD = true)) ∧
  (∀ (s : State), s.taking → s.running = true → s.role = 4 → s.pair.drop = 0 → s.pst Fl.PAIR_STAT_SIDEERR = false → 2 ≤ s.rf Addr.PAIR_STAT Fl.PAIR_STAT_PEERCL →
    Completes .handreq s (fun t => t.pair.hand = true ∧ t.rf Addr.PAIR_CLAIM Fl.PAIR_CLAIM_CLAIM = 1 ∧ t.role = 4)) ∧
  (∀ (s : State), s.awake → s.handOk = false → Completes .handreq s (fun t => t.pair.hand = s.pair.hand ∧ t.rd Addr.HIF_VIOL_CODE = 0x08000022)) ∧
  (∀ (s : State), s.awake → s.flag Addr.SCH_BANK Fl.SCH_BANK_SWPEND = false → Completes .resync s (fun t =>
    t.pst Fl.PAIR_STAT_SYNC = false ∧ t.pair.swpN = 0 ∧ t.pair.sweep = 0 ∧ t.rf Addr.PAIR_SWEEP Fl.PAIR_SWEEP_POS = 0))

/-! ### Faults and the gleaner (chapter 16) -/

/-- Handling (R595, R601): when SDLY has run out, or at standstill, the selected pairs open and their latches clear; a stop handling ends at standstill, a trip handling when every channel is
settled. REARM clears the capture (R600) and leaves the active list; ACK keeps exactly the listed faults whose condition holds (R604).
Entries of the coalescing table (R609–R611): the hold-off ends in PENDING, a window that ends frees the entry, with a count record where it counted more than its opening, and a report that
stays pending for another GWIN is dropped and counted.
A raise (R598, R604): of a module that rests, in whatever state, a rail out of range is captured first, with its frame, and listed; the claim is 0 with cause 4 (R573, R662). -/
def Obligations.FaultsAct : Prop :=
  ((∀ (s : State) (cyc i : Nat), s.awake → s.flt.hcls = 2 → i < 2 → bitOf s.flt.hSel i = true →
    s.flt.hT + s.rf Addr.FLT_RCFG Fl.FLT_RCFG_SDLY * 2000000 ≤ s.ecyc + cyc → Completes (.sdlyExpired cyc) s (fun t =>
      bitOf t.fio.fgate i = true ∧ bitOf t.fio.arm (2 * i) = false ∧ bitOf t.fio.arm (2 * i + 1) = false)) ∧
  (∀ (s : State) (cyc : Nat), s.awake → s.rests → s.flt.hcls = 2 → s.atStandstill = true → Completes (.handlingEnd cyc) s (fun t => t.flt.hcls = 0)) ∧
  (∀ (s : State) (cyc : Nat), s.awake → s.rests → s.flt.hcls = 3 → (∀ i, i < 4 → (s.at cyc).chanSettled i = true) →
    Completes (.handlingEnd cyc) s (fun t => t.flt.hcls = 0)) ∧
  (∀ (s : State), s.awake → s.rests → Completes .rearm s (fun t => t.flag Addr.FLT_STAT Fl.FLT_STAT_FVALID = false ∧ t.flag Addr.FLT_STAT Fl.FLT_STAT_MULTI = false ∧
    t.rd Addr.FLT_FIRST = 0 ∧ t.rd Addr.FLT_LAST = 0 ∧ t.rd Addr.FLT_COUNT = 0 ∧ t.flt.ffrm = 0 ∧ t.flt.lfrm = 0 ∧ t.flt.act = s.flt.act)) ∧
  (∀ (s : State), s.awake → s.rests → Completes .ack s (fun t => t.flt.act = s.flt.act.filter s.holds ∧ t.flag Addr.FLT_STAT Fl.FLT_STAT_ACTOVF = false))) ∧
  ((∀ (s : State) (k : Nat) (e : GEnt), s.awake → s.raised = [] → k < 16 → s.gEnt k = some e → e.st = .holdoff → e.hold = 0 → e.buf = false →
    Completes (.holdOffEnd k) s (fun t => ∃ e', t.gEnt k = some e' ∧ e'.st = .pending ∧ e'.key = e.key)) ∧
  (∀ (s : State) (k cyc : Nat) (e : GEnt), s.awake → s.rests → k < 16 → s.gEnt k = some e → e.st ≠ .pending → e.wend ≤ s.ecyc + cyc →
    (e.own ≤ 1 → e.heard = 0 → Completes (.windowEnd k cyc) s (fun t => t.gEnt k = none)) ∧
    (2 ≤ e.own → s.rstat Fl.REC_STAT_READY = true → s.rcd.unfl < 63 → s.loft.volonly = false → Completes (.windowEnd k cyc) s (fun t => t.gEnt k = none ∧
      ∃ r, t.rcd.ring.getLast? = some r ∧ r.r.kind = 2 ∧ r.r.code = e.key / 256 ∧ r.r.src = e.key % 256 ∧ r.r.seq = s.rcd.seq))) ∧
  (∀ (s : State) (k cyc : Nat) (e : GEnt), s.awake → s.rests → k < 16 → s.gEnt k = some e → e.st = .pending → e.buf = false → e.own ≤ 1 → e.heard = 0 →
    e.wend + s.gwin ≤ s.ecyc + cyc → Completes (.reportDrop k cyc) s (fun t => t.gEnt k = none ∧
      t.rf Addr.FLT_GCNT Fl.FLT_GCNT_DROP = satU 8 (s.rf Addr.FLT_GCNT Fl.FLT_GCNT_DROP + 1)))) ∧
  (∀ (s : State) (r : Nat) (high : Bool), s.pwr.inReset = false → s.rests → r < 3 → s.flag Addr.PWR_SUP ⟨r, 1⟩ = true → s.flag Addr.FLT_STAT Fl.FLT_STAT_FVALID = false →
    s.flt.act.length < 16 → Completes (.railOutOfRange r high) s (fun t => t.flag Addr.FLT_STAT Fl.FLT_STAT_FVALID = true ∧
      t.rd Addr.FLT_FIRST = wN (0xF2 * 2 ^ 24 + r * 65536 + 3) ∧ t.flt.ffrm = s.frm ∧ (∃ f ∈ t.flt.act, f.code = 0xF2 ∧ f.src = r) ∧
      t.flag Addr.PWR_SUP ⟨r, 1⟩ = false ∧ t.flag Addr.PWR_SUP ⟨(if high then 12 else 8) + r, 1⟩ = true ∧
      t.pair.drop = (if s.pair.drop = 0 then 4 else s.pair.drop) ∧ t.rf Addr.PAIR_CLAIM Fl.PAIR_CLAIM_CLAIM = 0))

/-- A dropped claim stays dropped, with its first cause, until a reset (R573). -/
def Obligations.DropLastsUntilReset : Prop :=
  ∀ (c : Instr) (s : State), s.pair.drop ≠ 0 → s.pair.drop < 16 → Completes c s (fun t => t.mode = .RESET ∨
    (t.pair.drop = s.pair.drop ∧ t.rf Addr.PAIR_CLAIM Fl.PAIR_CLAIM_CLAIM = 0 ∧ t.rf Addr.PAIR_CLAIM Fl.PAIR_CLAIM_ZCAUSE = s.pair.drop))

/-! ### The CRC unit (chapter 16) -/

/-- A write of CRC_CFG with a preset loads W, POLY, INIT, XOROUT and the reflections of the preset, whatever its other fields hold (R621). -/
def Obligations.CrcPresetsLoad : Prop :=
  ∀ (s : State), s.awake → s.crcRun = false →
    let loads (w poly init xor ref : Nat) (t : State) : Prop := t.rf Addr.CRC_CFG Fl.CRC_CFG_W = w ∧ t.rf Addr.CRC_CFG Fl.CRC_CFG_REFIN = ref ∧
      t.rf Addr.CRC_CFG Fl.CRC_CFG_REFOUT = ref ∧ t.rd Addr.CRC_POLY = wN poly ∧ t.rd Addr.CRC_INIT = wN init ∧ t.rd Addr.CRC_XOR = wN xor
    (∀ v : Word, getF v Fl.CRC_CFG_PRESET = 1 → Completes (.writeRegister Addr.CRC_CFG v) s (loads 6 0x03 0x00 0x3F 0)) ∧
    (∀ v : Word, getF v Fl.CRC_CFG_PRESET = 2 → Completes (.writeRegister Addr.CRC_CFG v) s (loads 16 0x1021 0xFFFF 0x0000 0)) ∧
    (∀ v : Word, getF v Fl.CRC_CFG_PRESET = 3 → Completes (.writeRegister Addr.CRC_CFG v) s (loads 32 0x04C11DB7 0xFFFFFFFF 0xFFFFFFFF 1)) ∧
    (∀ v : Word, getF v Fl.CRC_CFG_PRESET = 4 → Completes (.writeRegister Addr.CRC_CFG v) s (loads 32 0x1EDC6F41 0xFFFFFFFF 0xFFFFFFFF 1)) ∧
    Completes (.crcPreset 1) s (loads 6 0x03 0x00 0x3F 0) ∧ Completes (.crcPreset 2) s (loads 16 0x1021 0xFFFF 0x0000 0) ∧
    Completes (.crcPreset 3) s (loads 32 0x04C11DB7 0xFFFFFFFF 0xFFFFFFFF 1) ∧ Completes (.crcPreset 4) s (loads 32 0x1EDC6F41 0xFFFFFFFF 0xFFFFFFFF 1)

/-- Jobs of the CRC unit (R622, R623): START begins a memory job from INIT, OPEN a feed job, CRC_DATA feeds its low NB bytes, CLOSE latches the result, CRC_JOB_DONE that of the bytes of memory, ABORT ends a job
without one. While a job runs START, OPEN and presets are refused with REF. -/
def Obligations.CrcJobsRun : Prop :=
  (∀ (s : State), s.awake → s.crcRun = false →
    (1 ≤ (s.rd Addr.CRC_LEN).toNat → (s.rd Addr.CRC_LEN).toNat ≤ 262144 → oneArea (s.rd Addr.CRC_ADDR).toNat (s.rd Addr.CRC_LEN).toNat = true →
      Completes .crcStart s (fun t => t.flt.crcMem = some ((s.rd Addr.CRC_ADDR).toNat, (s.rd Addr.CRC_LEN).toNat) ∧
        t.flt.crcReg = (s.rd Addr.CRC_INIT).toNat % 2 ^ s.crcW ∧ t.rd Addr.CRC_CNT = 0)) ∧
    Completes .crcOpen s (fun t => t.crcFeed = true ∧ t.flt.crcReg = (s.rd Addr.CRC_INIT).toNat % 2 ^ s.crcW ∧ t.rd Addr.CRC_CNT = 0)) ∧
  (∀ (s : State) (v : Word), s.awake → s.crcFeed = true →
    let nb := if s.rf Addr.CRC_CTL Fl.CRC_CTL_NB = 0 then 4 else s.rf Addr.CRC_CTL Fl.CRC_CTL_NB
    Completes (.crcData v) s (fun t => t.flt.crcReg = (leBytes nb v.toNat).foldl (crcByte s.crcW ((s.rd Addr.CRC_POLY).toNat % 2 ^ s.crcW) (s.crcF Fl.CRC_CFG_REFIN == 1)) s.flt.crcReg ∧
      t.rd Addr.CRC_CNT = wN ((s.rd Addr.CRC_CNT).toNat + nb) ∧ t.crcFeed = true)) ∧
  (∀ (s : State), s.awake → s.crcFeed = true → s.flt.crcMem = none → Completes .crcClose s (fun t => t.crcFeed = false ∧ t.flag Addr.CRC_STAT Fl.CRC_STAT_DONE = true ∧
    t.rd Addr.CRC_RES = wN (crcEnd s.crcW (s.crcF Fl.CRC_CFG_REFOUT == 1) ((s.rd Addr.CRC_XOR).toNat % 2 ^ s.crcW) s.flt.crcReg))) ∧
  (∀ (s : State), s.awake → Completes .crcAbort s (fun t => t.flt.crcMem = none ∧ t.crcFeed = false ∧ t.rd Addr.CRC_RES = s.rd Addr.CRC_RES)) ∧
  (∀ (s : State) (a n : Nat), s.awake → s.flt.crcMem = some (a, n) →
    Completes (.crcJobDone false) s (fun t => t.flt.crcMem = none ∧ t.flag Addr.CRC_STAT Fl.CRC_STAT_DONE = true ∧
      t.rd Addr.CRC_RES = wN (crcEnd s.crcW (s.crcF Fl.CRC_CFG_REFOUT == 1) ((s.rd Addr.CRC_XOR).toNat % 2 ^ s.crcW)
        ((s.bytes a n).foldl (crcByte s.crcW ((s.rd Addr.CRC_POLY).toNat % 2 ^ s.crcW) (s.crcF Fl.CRC_CFG_REFIN == 1)) s.flt.crcReg))) ∧
    Completes (.crcJobDone true) s (fun t => t.flt.crcMem = none ∧ t.flag Addr.CRC_STAT Fl.CRC_STAT_MERR = true)) ∧
  (∀ (s : State) (c : Instr), s.awake → s.crcRun = true → c = .crcStart ∨ c = .crcOpen ∨ (∃ p, 1 ≤ p ∧ p ≤ 4 ∧ c = .crcPreset p) →
    Completes c s (fun t => t.flag Addr.CRC_STAT Fl.CRC_STAT_REF = true ∧ t.rd Addr.HIF_VIOL_CODE = 0x0F010003 ∧ t.flt.crcMem = s.flt.crcMem ∧
      t.flt.crcReg = s.flt.crcReg ∧ t.rd Addr.CRC_CFG = s.rd Addr.CRC_CFG))

/-! ### The recorder (chapter 17) -/

/-- Flushes (R638, R641): FLUSH, or a second since the last flush with a record unflushed, starts one when the loft takes records; FLUSH_END programs every unflushed record in order and ends it. ERASE_DONE gives the oldest block
back, worn by one (R639, R648), and none after a power-fail warning (R679). CLEAR outside RUN erases every block, empties the ring and counts REC_GEN up, and is refused in RUN (R654).
The wall clock (R635): the first set makes it valid; a set up to TSTOL ahead is taken, one up to TSTOL behind lets the clock run on at half rate, any other steps it.
Reading and start of the recorder: a read of the last window word with AINC moves the cursor past the record found (R651); the scan after a reset makes the recorder ready and writes the POWER restart
record with the reset's source (R646). -/
def Obligations.RecorderActs : Prop :=
  ((∀ (s : State), s.awake → s.loft.volonly = false → s.rstat Fl.REC_STAT_READY = true → Completes .flush s (fun t => t.rstat Fl.REC_STAT_FLUSHING = true) ∧
    ∀ cyc, 0 < s.rcd.unfl → s.rcd.flushE + 200000000 ≤ s.ecyc + cyc → Completes (.flushTimer cyc) s (fun t => t.rstat Fl.REC_STAT_FLUSHING = true)) ∧
  (∀ (s u : State), s.awake → s.rests → s.rstat Fl.REC_STAT_READY = true → s.rstat Fl.REC_STAT_FLUSHING = true → s.rcd.again = false → s.rcd.dropRun = false →
    s.programAll [] s.rcd.due 0 = (u, true) →
    Completes (.flushEnd []) s (fun t => t.rstat Fl.REC_STAT_FLUSHING = false ∧ t.rd Addr.REC_FLFRM = wN s.frm ∧ t.loft = u.loft ∧ t.rcd.ring = u.rcd.ring ∧
      ∀ e ∈ t.rcd.ring, e.flushed = true ∨ e.lost = true)) ∧
  (∀ (s : State) (b b2 : LoftBlk) (bs : List LoftBlk), s.awake → s.rests → s.loft.volonly = false → s.rcd.pfmode = false → s.loft.erased.length < 2 →
    s.loft.blocks = b :: b2 :: bs → b.failing = false →
    Completes (.eraseDone false) s (fun t => t.loft.blocks = b2 :: bs ∧ t.loft.erased = s.loft.erased ++ [(b.phys, b.wear + 1)] ∧
      t.rf Addr.REC_GEN Fl.REC_GEN_GEN = (s.rf Addr.REC_GEN Fl.REC_GEN_GEN + (if b.recs = [] then 0 else 1)) % 65536)) ∧
  (∀ (s : State) (bad : Bool), s.awake → s.rests → s.rcd.pfmode = true → Completes (.eraseDone bad) s (fun t => t.loft = s.loft)) ∧
  (∀ (s : State), s.awake → s.rests → s.mode ≠ .RUN → s.rcd.dropRun = false → (∀ b ∈ s.loft.blocks, b.failing = false) → Completes .clear s (fun t => t.loft.blocks = [] ∧ t.rcd.ring = [] ∧ t.recOld = t.rcd.seq ∧
    t.loft.erased = s.loft.erased ++ s.loft.blocks.map (fun b => (b.phys, b.wear + 1)) ∧
    (s.rcd.ring ≠ [] ∨ (∃ b ∈ s.loft.blocks, b.recs ≠ []) → t.rf Addr.REC_GEN Fl.REC_GEN_GEN = (s.rf Addr.REC_GEN Fl.REC_GEN_GEN + 1) % 65536))) ∧
  (∀ (s : State), s.rests → s.mode = .RUN → Completes .clear s (fun t => t.loft = s.loft ∧ t.rcd.ring = s.rcd.ring ∧ t.rd Addr.HIF_VIOL_CODE = 0x08000022))) ∧
  (∀ (s : State) (hi : Word), s.awake → s.rests →
    let w := hi.toNat % 65536 * 2 ^ 32 + (s.rd Addr.REC_WALL_LO).toNat
    let tol := s.rf Addr.REC_CFG Fl.REC_CFG_TSTOL
    (s.rstat Fl.REC_STAT_WTV = false → Completes (.wallTimeSet hi) s (fun t => t.wall = w ∧ t.rstat Fl.REC_STAT_WTV = true)) ∧
    (s.rstat Fl.REC_STAT_WTV = true → s.wall ≤ w → w ≤ s.wall + tol → Completes (.wallTimeSet hi) s (fun t => t.wall = w)) ∧
    (s.rstat Fl.REC_STAT_WTV = true → w < s.wall → s.wall ≤ w + tol → Completes (.wallTimeSet hi) s (fun t => t.wall = s.wall ∧ t.rcd.clkW = w ∧ t.rcd.clkC = s.wall)) ∧
    (s.rstat Fl.REC_STAT_WTV = true → s.wall + tol < w ∨ w + tol < s.wall → Completes (.wallTimeSet hi) s (fun t => t.wall = w ∧ t.rstat Fl.REC_STAT_TSTEP = true))) ∧
  ((∀ (s : State) (r : RecR) (lost : Bool), s.awake → s.flag Addr.REC_CFG Fl.REC_CFG_AINC = true → s.recAt s.recCur = some (r, lost) →
    Completes .recordWindowRead s (fun t => t.rd Addr.REC_CUR = wN (r.seq + 1) ∧ t.ctlData = [s.shown (Addr.REC_WIN 7)])) ∧
  (∀ (s : State), s.awake → s.rstat Fl.REC_STAT_READY = false → s.raised = [] → s.rcd.queue = [] → s.rcd.wait.length ≤ 32 → s.rcd.ring = [] →
    Completes (.loftScanDone false) s (fun t => t.rstat Fl.REC_STAT_READY = true ∧
      ∃ e ∈ t.rcd.ring, e.r.kind = 7 ∧ e.r.code = 1 ∧ e.r.src = s.rf Addr.PWR_RSTSRC Fl.PWR_RSTSRC_SRC)))

/-! ### Start-up, power and reset (chapter 18) -/

/-- Resets (R663, R666–R668, R671): a brown-out, the pad, loss of lock and a RESET command outside RUN put the module into RESET with their source, count it, empty staging and hoppers and keep the loft; bytes of memory stay
after the sources 2 to 5. A brown-out holds through a further reset, and POWER_ON_RESET ends it, or starts the module as at the first rise of the supplies.
The way out of RESET (R619, R664, R665, R669): the oscillator is stable, the PLL locks, RESET ends in LOAD with frame 0 and cause 1, and the initialisation leaves every byte of the memories 0. -/
def Obligations.ResetAndStartUp : Prop :=
  ((∀ (s : State),
    let reset (src : Nat) (t : State) : Prop := t.mode = .RESET ∧ t.rf Addr.PWR_RSTSRC Fl.PWR_RSTSRC_SRC = src ∧ t.rf Addr.PWR_RSTSRC Fl.PWR_RSTSRC_COUNT = min 255 (s.rf Addr.PWR_RSTSRC Fl.PWR_RSTSRC_COUNT + 1) ∧ t.frm = 0 ∧ t.sch.staging = [] ∧ t.hops = [] ∧ t.rcd.ring = [] ∧ t.loft = s.loft
    Completes .brownOut s (fun t => reset 1 t ∧ t.pwr.inReset = true ∧ t.mem = []) ∧
    Completes .resetPad s (fun t => reset 2 t ∧ t.mem = s.mem ∧ t.pwr.inReset = s.pwr.inReset) ∧
    (s.pwr.lock = true → Completes .pllLockLost s (fun t => reset 5 t ∧ t.mem = s.mem)) ∧
    (s.awake → s.mode ≠ .RUN → s.flag Addr.SCH_BANK Fl.SCH_BANK_SWPEND = false → Completes .resetCommand s (fun t => reset 3 t ∧ t.mem = s.mem))) ∧
  (∀ (s : State), s.pwr.inReset = true → Completes .powerOnReset s (fun t => t.pwr.inReset = false ∧ t.mode = s.mode)) ∧
  (∀ (s : State), s.pwr.inReset = false → Completes .powerOnReset s (fun t => t.mode = .RESET ∧ t.rf Addr.PWR_RSTSRC Fl.PWR_RSTSRC_SRC = 0 ∧
    t.rf Addr.PWR_RSTSRC Fl.PWR_RSTSRC_COUNT = 0 ∧ t.mem = [] ∧ t.pwr.memInit = true ∧ t.loft = s.loft)) ∧
  (∀ (s : State), s.mode = .RUN → Completes .resetCommand s (fun t => t.mode = .RUN ∧ t.mem = s.mem))) ∧
  ((∀ (s : State), s.mode = .RESET → s.pwr.inReset = false → Completes .oscillatorStable s (fun t => t.pwr.xok = true ∧ t.flag Addr.CLK_STAT Fl.CLK_STAT_XOK = true)) ∧
  (∀ (s : State) (us : Nat), s.pwr.xok = true → s.pwr.lock = false → us < 256 → Completes (.pllLock us) s (fun t => t.pwr.lock = true ∧ t.flag Addr.CLK_STAT Fl.CLK_STAT_LOCK = true ∧
    t.rf Addr.CLK_STAT Fl.CLK_STAT_LOCKT = us)) ∧
  (∀ (s : State), s.mode = .RESET → s.pwr.lock = true → Completes .resetEnd s (fun t => t.mode = .LOAD ∧ t.frm = 0 ∧ t.ecyc = 0 ∧ t.pwr.load = 1 ∧
    t.rf Addr.PWR_MSTATE Fl.PWR_MSTATE_CAUSE = 1 ∧ t.rf Addr.PWR_MSTATE Fl.PWR_MSTATE_PREV = 0)) ∧
  (∀ (s : State), s.pwr.memInit = true → s.pwr.lock = true → Completes .memoryInitDone s (fun t => t.pwr.memInit = false ∧ ∀ a, t.mb a = 0)))

/-- Boot, load and store (R675–R678): a slot that passes its check is due to become active, with its AUTORDY; one that fails is tried no more. A LOAD makes the inactive bank due, or LOAD_FAIL. A store writes its slot and
both descriptor copies, with the length, the CRC-32C of the stored bytes and the store count one up, with result 1, or ends with result 2 when the source failed its check.
Rails and the power-fail warning (R662, R679, R680): a rail that comes back sets its OK; the warning, in every module state, latches PFW, puts the recorder into its power-fail mode and abandons a store with result 4; its end lowers PFPIN only. -/
def Obligations.StoresAndSupply : Prop :=
  ((∀ (s : State) (k : Nat), s.mode = .LOAD → s.pwr.load = 1 → s.pwr.memInit = false → s.rstat Fl.REC_STAT_READY = true → k < 2 → s.nextSlot = some k →
    let img := s.loft.imgs.getD k []
    let u := ({ s with mem := putBytes (clearRange s.mem (bankBase 0) (bankBase 0 + img.length)) (bankBase 0) img } : State).modPwr (fun p => { p with tried := p.tried ||| 2 ^ k })
    (∀ c h, u.checkBank 0 = (c, some h) → Completes .bootSlotChecked s (fun t => t.pwr.actDue = some (0, (s.slotDesc k).rdy, 2, h) ∧ t.pwr.load = 0 ∧ t.mem = u.mem ∧
      t.rf Addr.PWR_BOOT Fl.PWR_BOOT_LOADED = k ∧ t.rf Addr.PWR_BOOT Fl.PWR_BOOT_FALLBK = b2n (k != s.pwr.desc.pref))) ∧
    (∀ c, u.checkBank 0 = (c, none) → Completes .bootSlotChecked s (fun t => t.pwr.actDue = s.pwr.actDue ∧ t.mem = u.mem ∧ bitOf t.pwr.tried k = true))) ∧
  (∀ (s : State), s.mode = .LOAD → s.pwr.load = 2 →
    (∀ c h, s.checkBank s.inactive = (c, some h) → Completes .loadCheckDone s (fun t => t.pwr.actDue = some (s.inactive, false, 4, h) ∧ t.pwr.load = 0)) ∧
    (∀ c, s.checkBank s.inactive = (c, none) → Completes .loadCheckDone s (fun t => t.pwr.failDue = some (4, c.word s.inactive) ∧ t.pwr.load = 0))) ∧
  (∀ (s : State) (st : StoreS), s.awake → s.pwr.store = some st →
    let x : LoftSlot := ⟨true, st.img.length, crc32c (st.img.take (st.img.length - 4)), st.rdy, (s.slotDesc st.slot).cnt + 1⟩
    let d : LoftDesc := { s.pwr.desc with slots := s.pwr.desc.slots.set st.slot x, pref := if st.boot then st.slot else s.pwr.desc.pref }
    (st.bad = false → Completes (.storeDone 0 false) s (fun t => t.pwr.store = none ∧ t.rf Addr.PWR_STORE Fl.PWR_STORE_SRES = 1 ∧
      t.loft.imgs = s.loft.imgs.set st.slot st.img ∧ t.pwr.desc = { d with crc := d.sum } ∧ t.loft.descs = s.loft.descs.map (fun _ => { d with crc := d.sum }))) ∧
    (st.bad = true → ∀ k b, Completes (.storeDone k b) s (fun t => t.pwr.store = none ∧ t.rf Addr.PWR_STORE Fl.PWR_STORE_SRES = 2 ∧ t.loft.imgs = s.loft.imgs ∧ t.loft.descs = s.loft.descs)))) ∧
  ((∀ (s : State) (r : Nat), r < 3 → Completes (.railRecovered r) s (fun t => t.flag Addr.PWR_SUP ⟨r, 1⟩ = true)) ∧
  (∀ (s : State), s.pwr.inReset = false → s.flag Addr.PWR_SUP Fl.PWR_SUP_PFW = false → Completes .powerFailWarning s (fun t => t.flag Addr.PWR_SUP Fl.PWR_SUP_PFW = true ∧
    t.flag Addr.PWR_SUP Fl.PWR_SUP_PFPIN = true ∧ t.rcd.pfmode = true ∧ t.pwr.store = none ∧ (s.pwr.store.isSome = true → t.rf Addr.PWR_STORE Fl.PWR_STORE_SRES = 4))) ∧
  (∀ (s : State), Completes .powerFailWarningEnd s (fun t => t.flag Addr.PWR_SUP Fl.PWR_SUP_PFPIN = false ∧ t.mode = s.mode ∧
    t.rf Addr.PWR_SUP Fl.PWR_SUP_PFW = s.rf Addr.PWR_SUP Fl.PWR_SUP_PFW)))

/-- State commands (R669–R673, R677, R678): in the states that allow them they make their transition, with result 1 and the old state as PREV; a command that its state or conditions forbid changes no state, gives its reason with result 2, and is
logged as 0x0800_0022. -/
def Obligations.StateCommandsAct : Prop :=
  (∀ (s : State), s.taking →
    let goes (dst : MSt) (t : State) : Prop := t.mode = dst ∧ t.rf Addr.PWR_MSTATE Fl.PWR_MSTATE_RES = 1 ∧
      t.rf Addr.PWR_MSTATE Fl.PWR_MSTATE_PREV = s.mode.code ∧ t.mem = s.mem
    (s.mode = .READY → Completes .configCommand s (goes .CONFIG)) ∧
    (s.mode = .CONFIG ∨ (s.mode = .HOLD ∧ s.axesIdle = true) → Completes .readyCommand s (goes .READY)) ∧
    (s.runReason = 0 → Completes .runCommand s (goes .RUN)) ∧
    (s.mode = .RUN → Completes .holdCommand s (goes .HOLD)) ∧
    (s.fclrReason = 0 → Completes .fclr s (goes .HOLD) ∧ (s.rests → s.rcd.unfl < 63 → Completes .fclr s (fun t => t.fio.fgate = 0))) ∧
    (s.mode = .CONFIG ∨ s.mode = .LOAD_FAIL → s.pwr.store = none → Completes .loadCommand s (fun t => goes .LOAD t ∧ t.pwr.load = 2)) ∧
    (s.mode ≠ .RUN → s.mode ≠ .LOAD → s.pwr.store = none → s.rcd.pfmode = false →
      Completes .storeCommand s (fun t => t.pwr.store.isSome = true ∧ t.mode = s.mode ∧ t.rf Addr.PWR_MSTATE Fl.PWR_MSTATE_RES = 1))) ∧
  (∀ (s : State) (k : Nat) (c : Instr), s.taking → (k, c) ∈ [(1, Instr.configCommand), (2, .readyCommand), (3, .runCommand), (4, .holdCommand), (5, .fclr), (6, .loadCommand),
      (7, .storeCommand), (15, .resetCommand)] → s.cmdReason k ≠ 0 →
    Completes c s (fun t => t.mode = s.mode ∧ t.rf Addr.PWR_MSTATE Fl.PWR_MSTATE_RES = 2 ∧ t.rf Addr.PWR_MSTATE Fl.PWR_MSTATE_REASON = s.cmdReason k ∧
      t.rd Addr.HIF_VIOL_CODE = 0x08000022 ∧ t.sch = s.sch ∧ t.mem = s.mem))

/-! ### Banks and swaps (chapter 02) -/

/-- Verification (R79): a request starts the check of the inactive bank, whose end reports the cause in VCAUSE; module state and active bank stay; a request while a check runs or a switch is pending is ignored and sets REFUSED. -/
def Obligations.VerificationChecks : Prop :=
  (∀ (s : State), s.awake → s.checking = false → s.flag Addr.SCH_BANK Fl.SCH_BANK_SWPEND = false → Completes .verifyRequest s (fun t => t.sch.chkKind = 1 ∧
    t.mode = s.mode ∧ t.rf Addr.SCH_BANK Fl.SCH_BANK_ACT = s.rf Addr.SCH_BANK Fl.SCH_BANK_ACT)) ∧
  (∀ (s : State), s.awake → s.sch.chkKind = 1 → Completes .bankCheckDone s (fun t => t.sch.chkKind = 0 ∧
    t.rf Addr.SCH_BANK Fl.SCH_BANK_VCAUSE = (s.checkBank s.inactive).1.cause % 256 ∧ t.mode = s.mode ∧
    t.rf Addr.SCH_BANK Fl.SCH_BANK_ACT = s.rf Addr.SCH_BANK Fl.SCH_BANK_ACT ∧ t.sch.active = s.sch.active)) ∧
  (∀ (s : State), s.awake → s.checking = true ∨ s.flag Addr.SCH_BANK Fl.SCH_BANK_SWPEND = true → Completes .verifyRequest s (fun t =>
    t.sch = s.sch ∧ t.pwr = s.pwr ∧ t.flag Addr.SCH_BANK Fl.SCH_BANK_REFUSED = true))

/-- Switches and swaps (R80, R81, R94, R97): a switch request accepted in READY or HOLD starts the check whose end sets SWPEND or makes LOAD_FAIL due; a single swap request, or a joint one that names one double bank, has the shadow set checked and is pending,
or is refused. -/
def Obligations.SwitchesAndSwaps : Prop :=
  (∀ (s : State), s.awake → s.standby = false → s.pwr.store = none →
    (s.switchOk = true → Completes .switchRequest s (fun t => t.sch.chkKind = 2 ∧ t.sch.cancel = false)) ∧
    (s.switchOk = false → Completes .switchRequest s (fun t => t.sch = s.sch ∧ t.flag Addr.SCH_BANK Fl.SCH_BANK_REFUSED = true))) ∧
  (∀ (s : State), s.awake → s.sch.chkKind = 2 → s.sch.cancel = false →
    ((s.checkBank s.inactive).1.cause = 0 → Completes .bankCheckDone s (fun t => t.flag Addr.SCH_BANK Fl.SCH_BANK_SWPEND = true ∧ t.mode = s.mode)) ∧
    ((s.checkBank s.inactive).1.cause ≠ 0 → Completes .bankCheckDone s (fun t => t.sch.failDue = some ((s.checkBank s.inactive).1.word s.inactive) ∧ t.mode = s.mode))) ∧
  (∀ (s : State) (k : Dbl), s.awake → s.standby = false → k ∈ Dbl.all → k.here s = true → s.swapBusy k = false →
    ((s.dblCheck k).2 = true → Completes (.swapRequest k.addr) s (fun t => t.rf k.addr swapCmd = 1 ∧ k.addr ∈ t.sch.swpDue)) ∧
    ((s.dblCheck k).2 = false → Completes (.swapRequest k.addr) s (fun t => t.rf k.addr swapCmd = 3 ∧ t.sch = s.sch))) ∧
  (∀ (s : State) (k : Dbl), s.awake → s.standby = false → k ∈ Dbl.all → k.here s = true → s.swapBusy k = false → s.flag Addr.SCH_JSWCTL Fl.SCH_JSWCTL_PEND = false →
    s.jswPlaces = [k.index, 0, 0, 0] →
    let u := s.plainPut Addr.SCH_JSWCTL (one Fl.SCH_JSWCTL_GO)
    ((u.dblCheck k).2 = true → Completes .jointSwapRequest s (fun t => t.sch.jswDue = [k.addr] ∧ t.flag Addr.SCH_JSWCTL Fl.SCH_JSWCTL_PEND = true ∧ t.rf k.addr swapCmd = 1)) ∧
    ((u.dblCheck k).2 = false → Completes .jointSwapRequest s (fun t => t.sch = s.sch ∧ t.flag Addr.SCH_JSWCTL Fl.SCH_JSWCTL_FAIL = true ∧
      t.rf Addr.SCH_JSWCTL Fl.SCH_JSWCTL_FAILMAP = 1 ∧ t.rf k.addr swapCmd = 3)))

/-! ### Reads and writes of software (chapters 01, 02) -/

/-- SCH_FRM_LO (R101): it returns bits 31:0 of the frame counter; reading it latches bits 47:32 into SCH_FRM_HI, whose upper half reads 0; both reset to 0. -/
def Obligations.FrameCounterReads : Prop :=
  (∀ (s : State), s.awake → s.frm < 2 ^ 48 → Completes .frameCounterRead s (fun t => t.ctlData = [wN (s.frm % 2 ^ 32)] ∧
    (t.shown Addr.SCH_FRM_HI).toNat % 65536 = s.frm / 2 ^ 32 ∧ (t.shown Addr.SCH_FRM_HI).toNat / 65536 = 0)) ∧
  State.reset.shown Addr.SCH_FRM_LO = 0 ∧ State.reset.shown Addr.SCH_FRM_HI = 0

/-- The other reads with an effect: an RC register answers its value and is cleared (R496), and the low word of a frame number, frame offset, step rate or wall time latches its high word (R197, R592, R626, R658).
Register writes of software (R38, R85, R83, R552, R580): an accepted write of an RWF register joins staging and changes nothing yet; INT_ENg takes its enables at once; a refused write is logged with its code and address and changes neither staging
nor memory. While a switch is pending, and in WAIT and STANDBY, an RWF register that is no command is refused with 0x0800_0022. -/
def Obligations.ReadsAndWrites : Prop :=
  ((∀ (s : State) (a : Nat) (r : RegRow), s.awake → regRow? a = some r → r.has .rc = true → s.addrErr a = 0 → a ∉ [Addr.FLT_GCNT, Addr.REC_DROPCNT, Addr.FIO_EFL 0, Addr.FIO_EFL 1, Addr.FIO_EFL 2, Addr.FIO_EFL 3] →
    Completes (.readClear a) s (fun t => t.ctlData = [s.shown a] ∧ t.rd a = 0)) ∧
  (∀ (s : State), s.awake → s.rests → ((s.canS 1).txO 128).st ≠ 0 → Completes (.readClear Addr.REC_DROPCNT) s (fun t => t.rd Addr.REC_DROPCNT = 0) ∧
    Completes (.readClear Addr.FLT_GCNT) s (fun t => t.rd Addr.FLT_GCNT = 0)) ∧
  (∀ (s : State), s.awake → Completes (.faultFrameRead false) s (fun t => t.ctlData = [wN (s.flt.ffrm % 2 ^ 32)] ∧ t.rd Addr.FLT_FFRM_HI = wN (s.flt.ffrm / 2 ^ 32)) ∧
    Completes (.faultFrameRead true) s (fun t => t.ctlData = [wN (s.flt.lfrm % 2 ^ 32)] ∧ t.rd Addr.FLT_LFRM_HI = wN (s.flt.lfrm / 2 ^ 32)) ∧
    Completes .frameOffsetRead s (fun t => t.ctlData = [wI s.fofs] ∧ t.rd Addr.PAIR_FOFS_HI = wI (s.fofs / 2 ^ 32)) ∧
    Completes .wallTimeRead s (fun t => t.ctlData = [wN (s.wall % 2 ^ 32)] ∧ t.rd Addr.REC_WALL_HI = wN (s.wall / 2 ^ 32)) ∧
    ∀ n, s.hasAx n = true → Completes (.rateRead n) s (fun t => t.ctlData = [wN (enc 48 (s.axS n).wCom)] ∧ t.rd (Addr.AX_RATE_HI n) = wN (enc 48 (s.axS n).wCom / 2 ^ 32)))) ∧
  ((∀ (s : State) (a : Nat) (v : Word), s.awake → s.writeErr a v = 0 → stagedReg a = true → a ≠ Addr.STP_CALLQ → s.stgFree ≠ 0 →
    Completes (.writeRegister a v) s (fun t => t.sch = { s.sch with staging := s.sch.staging ++ [⟨a, false, v.toNat, 0, noTag, s.afterCutoff⟩] } ∧ (¬ settleReg a → t.rd a = s.rd a))) ∧
  (∀ (s : State) (a : Nat) (v : Word), s.awake → s.writeErr a v = 0 → stagedReg a = true → a ≠ Addr.STP_CALLQ → s.stgFree = 0 →
    Completes (.writeRegister a v) s (fun t => t.sch = s.sch ∧ t.rf Addr.SCH_STG_REF ⟨0, 32⟩ = satU 32 (s.rf Addr.SCH_STG_REF ⟨0, 32⟩ + 1))) ∧
  (∀ (s : State) (g : Nat) (v : Word), s.awake → g < 16 → Completes (.writeRegister (Addr.INT_EN g) v) s (fun t => getF (t.rd (Addr.INT_EN g)) ⟨0, 8⟩ = getF v ⟨0, 8⟩)) ∧
  (∀ (s : State) (a : Nat) (v : Word), s.awake → s.writeErr a v ≠ 0 → Completes (.writeRegister a v) s (fun t => t.sch = s.sch ∧ t.mem = s.mem ∧
    t.rd Addr.HIF_VIOL_CODE = wN (s.writeErr a v) ∧ t.rd Addr.HIF_VIOL_ADDR = wN a)) ∧
  (∀ (s : State) (a : Nat) (v : Word) (r : RegRow), s.awake → regRow? a = some r → r.has .rwf = true → s.addrErr a = 0 → inMem a = false →
    s.flag Addr.SCH_BANK Fl.SCH_BANK_SWPEND = true ∨ (s.standby = true ∧ standbyTakes a v = false) → s.writeErr a v = 0x08000022))

/-! ### Frames: what each group of commands leaves unchanged (`touches`, Frames.lean) -/

/-- Slots and the other commands of the frame change only their units, hoppers and what waits for the commit: no byte of memory but by the commit, the check of memories and the image of a peer (R39, R58, R207). -/
def Obligations.FrameOfSlots : Prop :=
  ∀ (c : Instr) (s : State), groupOf c = .frame ∨ groupOf c = .slots → framed c s

/-- Commands and events of feedback channels, axes, drives and doors change their own units and registers only. -/
def Obligations.FrameOfMotion : Prop :=
  ∀ (c : Instr) (s : State), groupOf c = .feedback ∨ groupOf c = .motion ∨ groupOf c = .doors → framed c s

/-- Call operations, stop events, group frames, guard events, events of the field island and events of the energy unit change their own units and registers only. -/
def Obligations.FrameOfUnits : Prop :=
  ∀ (c : Instr) (s : State), groupOf c = .stops ∨ groupOf c = .group ∨ groupOf c = .guard ∨ groupOf c = .field ∨ groupOf c = .energy → framed c s

/-- Events of the CAN controllers and CiA 301 services change no byte of memory, and of other units only what an SDO access may write.
Host-link commands: only BULK_DATA changes memory; only writes and reads of entries and registers change units. -/
def Obligations.FrameOfLinks : Prop :=
  (∀ (c : Instr) (s : State), groupOf c = .can ∨ groupOf c = .services → framed c s) ∧
  (∀ (c : Instr) (s : State), groupOf c = .host → framed c s)

/-- Pair-link events, fault commands, CRC and recorder commands change their own units and registers only. -/
def Obligations.FrameOfServices : Prop :=
  ∀ (c : Instr) (s : State), groupOf c = .pair ∨ groupOf c = .faults ∨ groupOf c = .crc ∨ groupOf c = .recorder → framed c s

/-- Power events and state commands, bank and swap requests, register reads and writes: what each leaves unchanged; a reset is said by its own statement. -/
def Obligations.FrameOfModule : Prop :=
  ∀ (c : Instr) (s : State), groupOf c = .power ∨ groupOf c = .bank ∨ groupOf c = .reads → framed c s
end

