-- ==== Sys2Proof/Laws/State.lean ====
section
/-! SUPPORT. What each update of one part of the state leaves in place: one law per field and update, and the part that it
changes. -/

namespace Sys2Proof.Machine

variable (s : State) (a x y : Nat) (v : Word) (g : Fld) (bs : List Nat) (ws : List Word) (fSch : SchS → SchS) (fFb : FbS → FbS)
  (fAx : AxS → AxS) (fDrv : DrvS → DrvS) (fDor : DorS → DorS) (fThr : ThrS → ThrS) (fStp : StpS → StpS) (fCan : CanS → CanS)
  (fNrg : NrgS → NrgS) (fFio : FioS → FioS) (fHdl : HdlS → HdlS) (fPair : PairS → PairS) (fFlt : FltS → FltS) (fRec : RecS → RecS)
  (fLoft : LoftS → LoftS) (fPwr : PwrS → PwrS) (fHlk : HlkS → HlkS) (fSdo : SdoS → SdoS) (fCia : CiaS → CiaS)


@[simp] theorem State.wr_id : (s.wr a v).id = s.id := rfl
@[simp] theorem State.wr_mem : (s.wr a v).mem = s.mem := rfl
@[simp] theorem State.wr_pend : (s.wr a v).pend = s.pend := rfl
@[simp] theorem State.wr_smem : (s.wr a v).smem = s.smem := rfl
@[simp] theorem State.wr_intp : (s.wr a v).intp = s.intp := rfl
@[simp] theorem State.wr_frm : (s.wr a v).frm = s.frm := rfl
@[simp] theorem State.wr_ecyc : (s.wr a v).ecyc = s.ecyc := rfl
@[simp] theorem State.wr_cyc : (s.wr a v).cyc = s.cyc := rfl
@[simp] theorem State.wr_sch : (s.wr a v).sch = s.sch := rfl
@[simp] theorem State.wr_hops : (s.wr a v).hops = s.hops := rfl
@[simp] theorem State.wr_fb : (s.wr a v).fb = s.fb := rfl
@[simp] theorem State.wr_ax : (s.wr a v).ax = s.ax := rfl
@[simp] theorem State.wr_drv : (s.wr a v).drv = s.drv := rfl
@[simp] theorem State.wr_dor : (s.wr a v).dor = s.dor := rfl
@[simp] theorem State.wr_thr : (s.wr a v).thr = s.thr := rfl
@[simp] theorem State.wr_stp : (s.wr a v).stp = s.stp := rfl
@[simp] theorem State.wr_can : (s.wr a v).can = s.can := rfl
@[simp] theorem State.wr_bid : (s.wr a v).bid = s.bid := rfl
@[simp] theorem State.wr_nrg : (s.wr a v).nrg = s.nrg := rfl
@[simp] theorem State.wr_fio : (s.wr a v).fio = s.fio := rfl
@[simp] theorem State.wr_hdl : (s.wr a v).hdl = s.hdl := rfl
@[simp] theorem State.wr_pair : (s.wr a v).pair = s.pair := rfl
@[simp] theorem State.wr_flt : (s.wr a v).flt = s.flt := rfl
@[simp] theorem State.wr_rcd : (s.wr a v).rcd = s.rcd := rfl
@[simp] theorem State.wr_loft : (s.wr a v).loft = s.loft := rfl
@[simp] theorem State.wr_pwr : (s.wr a v).pwr = s.pwr := rfl
@[simp] theorem State.wr_hlk : (s.wr a v).hlk = s.hlk := rfl
@[simp] theorem State.wr_sdo : (s.wr a v).sdo = s.sdo := rfl
@[simp] theorem State.wr_cia : (s.wr a v).cia = s.cia := rfl
@[simp] theorem State.wr_raised : (s.wr a v).raised = s.raised := rfl
@[simp] theorem State.wr_ctlData : (s.wr a v).ctlData = s.ctlData := rfl
@[simp] theorem State.wr_free : (s.wr a v).free = s.free := rfl
@[simp] theorem State.wr_pending : (s.wr a v).pending = s.pending := rfl

@[simp] theorem State.wf_id : (s.wf a g x).id = s.id := rfl
@[simp] theorem State.wf_mem : (s.wf a g x).mem = s.mem := rfl
@[simp] theorem State.wf_pend : (s.wf a g x).pend = s.pend := rfl
@[simp] theorem State.wf_smem : (s.wf a g x).smem = s.smem := rfl
@[simp] theorem State.wf_intp : (s.wf a g x).intp = s.intp := rfl
@[simp] theorem State.wf_frm : (s.wf a g x).frm = s.frm := rfl
@[simp] theorem State.wf_ecyc : (s.wf a g x).ecyc = s.ecyc := rfl
@[simp] theorem State.wf_cyc : (s.wf a g x).cyc = s.cyc := rfl
@[simp] theorem State.wf_sch : (s.wf a g x).sch = s.sch := rfl
@[simp] theorem State.wf_hops : (s.wf a g x).hops = s.hops := rfl
@[simp] theorem State.wf_fb : (s.wf a g x).fb = s.fb := rfl
@[simp] theorem State.wf_ax : (s.wf a g x).ax = s.ax := rfl
@[simp] theorem State.wf_drv : (s.wf a g x).drv = s.drv := rfl
@[simp] theorem State.wf_dor : (s.wf a g x).dor = s.dor := rfl
@[simp] theorem State.wf_thr : (s.wf a g x).thr = s.thr := rfl
@[simp] theorem State.wf_stp : (s.wf a g x).stp = s.stp := rfl
@[simp] theorem State.wf_can : (s.wf a g x).can = s.can := rfl
@[simp] theorem State.wf_bid : (s.wf a g x).bid = s.bid := rfl
@[simp] theorem State.wf_nrg : (s.wf a g x).nrg = s.nrg := rfl
@[simp] theorem State.wf_fio : (s.wf a g x).fio = s.fio := rfl
@[simp] theorem State.wf_hdl : (s.wf a g x).hdl = s.hdl := rfl
@[simp] theorem State.wf_pair : (s.wf a g x).pair = s.pair := rfl
@[simp] theorem State.wf_flt : (s.wf a g x).flt = s.flt := rfl
@[simp] theorem State.wf_rcd : (s.wf a g x).rcd = s.rcd := rfl
@[simp] theorem State.wf_loft : (s.wf a g x).loft = s.loft := rfl
@[simp] theorem State.wf_pwr : (s.wf a g x).pwr = s.pwr := rfl
@[simp] theorem State.wf_hlk : (s.wf a g x).hlk = s.hlk := rfl
@[simp] theorem State.wf_sdo : (s.wf a g x).sdo = s.sdo := rfl
@[simp] theorem State.wf_cia : (s.wf a g x).cia = s.cia := rfl
@[simp] theorem State.wf_raised : (s.wf a g x).raised = s.raised := rfl
@[simp] theorem State.wf_ctlData : (s.wf a g x).ctlData = s.ctlData := rfl
@[simp] theorem State.wf_free : (s.wf a g x).free = s.free := rfl
@[simp] theorem State.wf_pending : (s.wf a g x).pending = s.pending := rfl

@[simp] theorem State.pub_id : (s.pub a v).id = s.id := rfl
@[simp] theorem State.pub_mem : (s.pub a v).mem = s.mem := rfl
@[simp] theorem State.pub_regs : (s.pub a v).regs = s.regs := rfl
@[simp] theorem State.pub_smem : (s.pub a v).smem = s.smem := rfl
@[simp] theorem State.pub_intp : (s.pub a v).intp = s.intp := rfl
@[simp] theorem State.pub_frm : (s.pub a v).frm = s.frm := rfl
@[simp] theorem State.pub_ecyc : (s.pub a v).ecyc = s.ecyc := rfl
@[simp] theorem State.pub_cyc : (s.pub a v).cyc = s.cyc := rfl
@[simp] theorem State.pub_sch : (s.pub a v).sch = s.sch := rfl
@[simp] theorem State.pub_hops : (s.pub a v).hops = s.hops := rfl
@[simp] theorem State.pub_fb : (s.pub a v).fb = s.fb := rfl
@[simp] theorem State.pub_ax : (s.pub a v).ax = s.ax := rfl
@[simp] theorem State.pub_drv : (s.pub a v).drv = s.drv := rfl
@[simp] theorem State.pub_dor : (s.pub a v).dor = s.dor := rfl
@[simp] theorem State.pub_thr : (s.pub a v).thr = s.thr := rfl
@[simp] theorem State.pub_stp : (s.pub a v).stp = s.stp := rfl
@[simp] theorem State.pub_can : (s.pub a v).can = s.can := rfl
@[simp] theorem State.pub_bid : (s.pub a v).bid = s.bid := rfl
@[simp] theorem State.pub_nrg : (s.pub a v).nrg = s.nrg := rfl
@[simp] theorem State.pub_fio : (s.pub a v).fio = s.fio := rfl
@[simp] theorem State.pub_hdl : (s.pub a v).hdl = s.hdl := rfl
@[simp] theorem State.pub_pair : (s.pub a v).pair = s.pair := rfl
@[simp] theorem State.pub_flt : (s.pub a v).flt = s.flt := rfl
@[simp] theorem State.pub_rcd : (s.pub a v).rcd = s.rcd := rfl
@[simp] theorem State.pub_loft : (s.pub a v).loft = s.loft := rfl
@[simp] theorem State.pub_pwr : (s.pub a v).pwr = s.pwr := rfl
@[simp] theorem State.pub_hlk : (s.pub a v).hlk = s.hlk := rfl
@[simp] theorem State.pub_sdo : (s.pub a v).sdo = s.sdo := rfl
@[simp] theorem State.pub_cia : (s.pub a v).cia = s.cia := rfl
@[simp] theorem State.pub_raised : (s.pub a v).raised = s.raised := rfl
@[simp] theorem State.pub_ctlData : (s.pub a v).ctlData = s.ctlData := rfl
@[simp] theorem State.pub_free : (s.pub a v).free = s.free := rfl
@[simp] theorem State.pub_pending : (s.pub a v).pending = s.pending := rfl

@[simp] theorem State.pubF_id : (s.pubF a g x).id = s.id := rfl
@[simp] theorem State.pubF_mem : (s.pubF a g x).mem = s.mem := rfl
@[simp] theorem State.pubF_regs : (s.pubF a g x).regs = s.regs := rfl
@[simp] theorem State.pubF_smem : (s.pubF a g x).smem = s.smem := rfl
@[simp] theorem State.pubF_intp : (s.pubF a g x).intp = s.intp := rfl
@[simp] theorem State.pubF_frm : (s.pubF a g x).frm = s.frm := rfl
@[simp] theorem State.pubF_ecyc : (s.pubF a g x).ecyc = s.ecyc := rfl
@[simp] theorem State.pubF_cyc : (s.pubF a g x).cyc = s.cyc := rfl
@[simp] theorem State.pubF_sch : (s.pubF a g x).sch = s.sch := rfl
@[simp] theorem State.pubF_hops : (s.pubF a g x).hops = s.hops := rfl
@[simp] theorem State.pubF_fb : (s.pubF a g x).fb = s.fb := rfl
@[simp] theorem State.pubF_ax : (s.pubF a g x).ax = s.ax := rfl
@[simp] theorem State.pubF_drv : (s.pubF a g x).drv = s.drv := rfl
@[simp] theorem State.pubF_dor : (s.pubF a g x).dor = s.dor := rfl
@[simp] theorem State.pubF_thr : (s.pubF a g x).thr = s.thr := rfl
@[simp] theorem State.pubF_stp : (s.pubF a g x).stp = s.stp := rfl
@[simp] theorem State.pubF_can : (s.pubF a g x).can = s.can := rfl
@[simp] theorem State.pubF_bid : (s.pubF a g x).bid = s.bid := rfl
@[simp] theorem State.pubF_nrg : (s.pubF a g x).nrg = s.nrg := rfl
@[simp] theorem State.pubF_fio : (s.pubF a g x).fio = s.fio := rfl
@[simp] theorem State.pubF_hdl : (s.pubF a g x).hdl = s.hdl := rfl
@[simp] theorem State.pubF_pair : (s.pubF a g x).pair = s.pair := rfl
@[simp] theorem State.pubF_flt : (s.pubF a g x).flt = s.flt := rfl
@[simp] theorem State.pubF_rcd : (s.pubF a g x).rcd = s.rcd := rfl
@[simp] theorem State.pubF_loft : (s.pubF a g x).loft = s.loft := rfl
@[simp] theorem State.pubF_pwr : (s.pubF a g x).pwr = s.pwr := rfl
@[simp] theorem State.pubF_hlk : (s.pubF a g x).hlk = s.hlk := rfl
@[simp] theorem State.pubF_sdo : (s.pubF a g x).sdo = s.sdo := rfl
@[simp] theorem State.pubF_cia : (s.pubF a g x).cia = s.cia := rfl
@[simp] theorem State.pubF_raised : (s.pubF a g x).raised = s.raised := rfl
@[simp] theorem State.pubF_ctlData : (s.pubF a g x).ctlData = s.ctlData := rfl
@[simp] theorem State.pubF_free : (s.pubF a g x).free = s.free := rfl
@[simp] theorem State.pubF_pending : (s.pubF a g x).pending = s.pending := rfl

@[simp] theorem State.sput_id : (s.sput a v).id = s.id := rfl
@[simp] theorem State.sput_mem : (s.sput a v).mem = s.mem := rfl
@[simp] theorem State.sput_regs : (s.sput a v).regs = s.regs := rfl
@[simp] theorem State.sput_pend : (s.sput a v).pend = s.pend := rfl
@[simp] theorem State.sput_intp : (s.sput a v).intp = s.intp := rfl
@[simp] theorem State.sput_frm : (s.sput a v).frm = s.frm := rfl
@[simp] theorem State.sput_ecyc : (s.sput a v).ecyc = s.ecyc := rfl
@[simp] theorem State.sput_cyc : (s.sput a v).cyc = s.cyc := rfl
@[simp] theorem State.sput_sch : (s.sput a v).sch = s.sch := rfl
@[simp] theorem State.sput_hops : (s.sput a v).hops = s.hops := rfl
@[simp] theorem State.sput_fb : (s.sput a v).fb = s.fb := rfl
@[simp] theorem State.sput_ax : (s.sput a v).ax = s.ax := rfl
@[simp] theorem State.sput_drv : (s.sput a v).drv = s.drv := rfl
@[simp] theorem State.sput_dor : (s.sput a v).dor = s.dor := rfl
@[simp] theorem State.sput_thr : (s.sput a v).thr = s.thr := rfl
@[simp] theorem State.sput_stp : (s.sput a v).stp = s.stp := rfl
@[simp] theorem State.sput_can : (s.sput a v).can = s.can := rfl
@[simp] theorem State.sput_bid : (s.sput a v).bid = s.bid := rfl
@[simp] theorem State.sput_nrg : (s.sput a v).nrg = s.nrg := rfl
@[simp] theorem State.sput_fio : (s.sput a v).fio = s.fio := rfl
@[simp] theorem State.sput_hdl : (s.sput a v).hdl = s.hdl := rfl
@[simp] theorem State.sput_pair : (s.sput a v).pair = s.pair := rfl
@[simp] theorem State.sput_flt : (s.sput a v).flt = s.flt := rfl
@[simp] theorem State.sput_rcd : (s.sput a v).rcd = s.rcd := rfl
@[simp] theorem State.sput_loft : (s.sput a v).loft = s.loft := rfl
@[simp] theorem State.sput_pwr : (s.sput a v).pwr = s.pwr := rfl
@[simp] theorem State.sput_hlk : (s.sput a v).hlk = s.hlk := rfl
@[simp] theorem State.sput_sdo : (s.sput a v).sdo = s.sdo := rfl
@[simp] theorem State.sput_cia : (s.sput a v).cia = s.cia := rfl
@[simp] theorem State.sput_raised : (s.sput a v).raised = s.raised := rfl
@[simp] theorem State.sput_ctlData : (s.sput a v).ctlData = s.ctlData := rfl
@[simp] theorem State.sput_free : (s.sput a v).free = s.free := rfl
@[simp] theorem State.sput_pending : (s.sput a v).pending = s.pending := rfl

@[simp] theorem State.setBytes_id : (s.setBytes a bs).id = s.id := rfl
@[simp] theorem State.setBytes_regs : (s.setBytes a bs).regs = s.regs := rfl
@[simp] theorem State.setBytes_pend : (s.setBytes a bs).pend = s.pend := rfl
@[simp] theorem State.setBytes_smem : (s.setBytes a bs).smem = s.smem := rfl
@[simp] theorem State.setBytes_intp : (s.setBytes a bs).intp = s.intp := rfl
@[simp] theorem State.setBytes_frm : (s.setBytes a bs).frm = s.frm := rfl
@[simp] theorem State.setBytes_ecyc : (s.setBytes a bs).ecyc = s.ecyc := rfl
@[simp] theorem State.setBytes_cyc : (s.setBytes a bs).cyc = s.cyc := rfl
@[simp] theorem State.setBytes_sch : (s.setBytes a bs).sch = s.sch := rfl
@[simp] theorem State.setBytes_hops : (s.setBytes a bs).hops = s.hops := rfl
@[simp] theorem State.setBytes_fb : (s.setBytes a bs).fb = s.fb := rfl
@[simp] theorem State.setBytes_ax : (s.setBytes a bs).ax = s.ax := rfl
@[simp] theorem State.setBytes_drv : (s.setBytes a bs).drv = s.drv := rfl
@[simp] theorem State.setBytes_dor : (s.setBytes a bs).dor = s.dor := rfl
@[simp] theorem State.setBytes_thr : (s.setBytes a bs).thr = s.thr := rfl
@[simp] theorem State.setBytes_stp : (s.setBytes a bs).stp = s.stp := rfl
@[simp] theorem State.setBytes_can : (s.setBytes a bs).can = s.can := rfl
@[simp] theorem State.setBytes_bid : (s.setBytes a bs).bid = s.bid := rfl
@[simp] theorem State.setBytes_nrg : (s.setBytes a bs).nrg = s.nrg := rfl
@[simp] theorem State.setBytes_fio : (s.setBytes a bs).fio = s.fio := rfl
@[simp] theorem State.setBytes_hdl : (s.setBytes a bs).hdl = s.hdl := rfl
@[simp] theorem State.setBytes_pair : (s.setBytes a bs).pair = s.pair := rfl
@[simp] theorem State.setBytes_flt : (s.setBytes a bs).flt = s.flt := rfl
@[simp] theorem State.setBytes_rcd : (s.setBytes a bs).rcd = s.rcd := rfl
@[simp] theorem State.setBytes_loft : (s.setBytes a bs).loft = s.loft := rfl
@[simp] theorem State.setBytes_pwr : (s.setBytes a bs).pwr = s.pwr := rfl
@[simp] theorem State.setBytes_hlk : (s.setBytes a bs).hlk = s.hlk := rfl
@[simp] theorem State.setBytes_sdo : (s.setBytes a bs).sdo = s.sdo := rfl
@[simp] theorem State.setBytes_cia : (s.setBytes a bs).cia = s.cia := rfl
@[simp] theorem State.setBytes_raised : (s.setBytes a bs).raised = s.raised := rfl
@[simp] theorem State.setBytes_ctlData : (s.setBytes a bs).ctlData = s.ctlData := rfl
@[simp] theorem State.setBytes_free : (s.setBytes a bs).free = s.free := rfl
@[simp] theorem State.setBytes_pending : (s.setBytes a bs).pending = s.pending := rfl

@[simp] theorem State.at_id : (s.at x).id = s.id := rfl
@[simp] theorem State.at_mem : (s.at x).mem = s.mem := rfl
@[simp] theorem State.at_regs : (s.at x).regs = s.regs := rfl
@[simp] theorem State.at_pend : (s.at x).pend = s.pend := rfl
@[simp] theorem State.at_smem : (s.at x).smem = s.smem := rfl
@[simp] theorem State.at_intp : (s.at x).intp = s.intp := rfl
@[simp] theorem State.at_frm : (s.at x).frm = s.frm := rfl
@[simp] theorem State.at_ecyc : (s.at x).ecyc = s.ecyc := rfl
@[simp] theorem State.at_sch : (s.at x).sch = s.sch := rfl
@[simp] theorem State.at_hops : (s.at x).hops = s.hops := rfl
@[simp] theorem State.at_fb : (s.at x).fb = s.fb := rfl
@[simp] theorem State.at_ax : (s.at x).ax = s.ax := rfl
@[simp] theorem State.at_drv : (s.at x).drv = s.drv := rfl
@[simp] theorem State.at_dor : (s.at x).dor = s.dor := rfl
@[simp] theorem State.at_thr : (s.at x).thr = s.thr := rfl
@[simp] theorem State.at_stp : (s.at x).stp = s.stp := rfl
@[simp] theorem State.at_can : (s.at x).can = s.can := rfl
@[simp] theorem State.at_bid : (s.at x).bid = s.bid := rfl
@[simp] theorem State.at_nrg : (s.at x).nrg = s.nrg := rfl
@[simp] theorem State.at_fio : (s.at x).fio = s.fio := rfl
@[simp] theorem State.at_hdl : (s.at x).hdl = s.hdl := rfl
@[simp] theorem State.at_pair : (s.at x).pair = s.pair := rfl
@[simp] theorem State.at_flt : (s.at x).flt = s.flt := rfl
@[simp] theorem State.at_rcd : (s.at x).rcd = s.rcd := rfl
@[simp] theorem State.at_loft : (s.at x).loft = s.loft := rfl
@[simp] theorem State.at_pwr : (s.at x).pwr = s.pwr := rfl
@[simp] theorem State.at_hlk : (s.at x).hlk = s.hlk := rfl
@[simp] theorem State.at_sdo : (s.at x).sdo = s.sdo := rfl
@[simp] theorem State.at_cia : (s.at x).cia = s.cia := rfl
@[simp] theorem State.at_raised : (s.at x).raised = s.raised := rfl
@[simp] theorem State.at_ctlData : (s.at x).ctlData = s.ctlData := rfl
@[simp] theorem State.at_free : (s.at x).free = s.free := rfl
@[simp] theorem State.at_pending : (s.at x).pending = s.pending := rfl

@[simp] theorem State.irqC_id : (s.irqC a x).id = s.id := rfl
@[simp] theorem State.irqC_mem : (s.irqC a x).mem = s.mem := rfl
@[simp] theorem State.irqC_regs : (s.irqC a x).regs = s.regs := rfl
@[simp] theorem State.irqC_pend : (s.irqC a x).pend = s.pend := rfl
@[simp] theorem State.irqC_smem : (s.irqC a x).smem = s.smem := rfl
@[simp] theorem State.irqC_frm : (s.irqC a x).frm = s.frm := rfl
@[simp] theorem State.irqC_ecyc : (s.irqC a x).ecyc = s.ecyc := rfl
@[simp] theorem State.irqC_cyc : (s.irqC a x).cyc = s.cyc := rfl
@[simp] theorem State.irqC_sch : (s.irqC a x).sch = s.sch := rfl
@[simp] theorem State.irqC_hops : (s.irqC a x).hops = s.hops := rfl
@[simp] theorem State.irqC_fb : (s.irqC a x).fb = s.fb := rfl
@[simp] theorem State.irqC_ax : (s.irqC a x).ax = s.ax := rfl
@[simp] theorem State.irqC_drv : (s.irqC a x).drv = s.drv := rfl
@[simp] theorem State.irqC_dor : (s.irqC a x).dor = s.dor := rfl
@[simp] theorem State.irqC_thr : (s.irqC a x).thr = s.thr := rfl
@[simp] theorem State.irqC_stp : (s.irqC a x).stp = s.stp := rfl
@[simp] theorem State.irqC_can : (s.irqC a x).can = s.can := rfl
@[simp] theorem State.irqC_bid : (s.irqC a x).bid = s.bid := rfl
@[simp] theorem State.irqC_nrg : (s.irqC a x).nrg = s.nrg := rfl
@[simp] theorem State.irqC_fio : (s.irqC a x).fio = s.fio := rfl
@[simp] theorem State.irqC_hdl : (s.irqC a x).hdl = s.hdl := rfl
@[simp] theorem State.irqC_pair : (s.irqC a x).pair = s.pair := rfl
@[simp] theorem State.irqC_flt : (s.irqC a x).flt = s.flt := rfl
@[simp] theorem State.irqC_rcd : (s.irqC a x).rcd = s.rcd := rfl
@[simp] theorem State.irqC_loft : (s.irqC a x).loft = s.loft := rfl
@[simp] theorem State.irqC_pwr : (s.irqC a x).pwr = s.pwr := rfl
@[simp] theorem State.irqC_hlk : (s.irqC a x).hlk = s.hlk := rfl
@[simp] theorem State.irqC_sdo : (s.irqC a x).sdo = s.sdo := rfl
@[simp] theorem State.irqC_cia : (s.irqC a x).cia = s.cia := rfl
@[simp] theorem State.irqC_raised : (s.irqC a x).raised = s.raised := rfl
@[simp] theorem State.irqC_ctlData : (s.irqC a x).ctlData = s.ctlData := rfl
@[simp] theorem State.irqC_free : (s.irqC a x).free = s.free := rfl
@[simp] theorem State.irqC_pending : (s.irqC a x).pending = s.pending := rfl

@[simp] theorem State.raise_id : (s.raise a x y).id = s.id := rfl
@[simp] theorem State.raise_mem : (s.raise a x y).mem = s.mem := rfl
@[simp] theorem State.raise_regs : (s.raise a x y).regs = s.regs := rfl
@[simp] theorem State.raise_pend : (s.raise a x y).pend = s.pend := rfl
@[simp] theorem State.raise_smem : (s.raise a x y).smem = s.smem := rfl
@[simp] theorem State.raise_intp : (s.raise a x y).intp = s.intp := rfl
@[simp] theorem State.raise_frm : (s.raise a x y).frm = s.frm := rfl
@[simp] theorem State.raise_ecyc : (s.raise a x y).ecyc = s.ecyc := rfl
@[simp] theorem State.raise_cyc : (s.raise a x y).cyc = s.cyc := rfl
@[simp] theorem State.raise_sch : (s.raise a x y).sch = s.sch := rfl
@[simp] theorem State.raise_hops : (s.raise a x y).hops = s.hops := rfl
@[simp] theorem State.raise_fb : (s.raise a x y).fb = s.fb := rfl
@[simp] theorem State.raise_ax : (s.raise a x y).ax = s.ax := rfl
@[simp] theorem State.raise_drv : (s.raise a x y).drv = s.drv := rfl
@[simp] theorem State.raise_dor : (s.raise a x y).dor = s.dor := rfl
@[simp] theorem State.raise_thr : (s.raise a x y).thr = s.thr := rfl
@[simp] theorem State.raise_stp : (s.raise a x y).stp = s.stp := rfl
@[simp] theorem State.raise_can : (s.raise a x y).can = s.can := rfl
@[simp] theorem State.raise_bid : (s.raise a x y).bid = s.bid := rfl
@[simp] theorem State.raise_nrg : (s.raise a x y).nrg = s.nrg := rfl
@[simp] theorem State.raise_fio : (s.raise a x y).fio = s.fio := rfl
@[simp] theorem State.raise_hdl : (s.raise a x y).hdl = s.hdl := rfl
@[simp] theorem State.raise_pair : (s.raise a x y).pair = s.pair := rfl
@[simp] theorem State.raise_flt : (s.raise a x y).flt = s.flt := rfl
@[simp] theorem State.raise_rcd : (s.raise a x y).rcd = s.rcd := rfl
@[simp] theorem State.raise_loft : (s.raise a x y).loft = s.loft := rfl
@[simp] theorem State.raise_pwr : (s.raise a x y).pwr = s.pwr := rfl
@[simp] theorem State.raise_hlk : (s.raise a x y).hlk = s.hlk := rfl
@[simp] theorem State.raise_sdo : (s.raise a x y).sdo = s.sdo := rfl
@[simp] theorem State.raise_cia : (s.raise a x y).cia = s.cia := rfl
@[simp] theorem State.raise_ctlData : (s.raise a x y).ctlData = s.ctlData := rfl
@[simp] theorem State.raise_free : (s.raise a x y).free = s.free := rfl
@[simp] theorem State.raise_pending : (s.raise a x y).pending = s.pending := rfl

@[simp] theorem State.setHop_id : (s.setHop a ws).id = s.id := rfl
@[simp] theorem State.setHop_mem : (s.setHop a ws).mem = s.mem := rfl
@[simp] theorem State.setHop_regs : (s.setHop a ws).regs = s.regs := rfl
@[simp] theorem State.setHop_pend : (s.setHop a ws).pend = s.pend := rfl
@[simp] theorem State.setHop_smem : (s.setHop a ws).smem = s.smem := rfl
@[simp] theorem State.setHop_intp : (s.setHop a ws).intp = s.intp := rfl
@[simp] theorem State.setHop_frm : (s.setHop a ws).frm = s.frm := rfl
@[simp] theorem State.setHop_ecyc : (s.setHop a ws).ecyc = s.ecyc := rfl
@[simp] theorem State.setHop_cyc : (s.setHop a ws).cyc = s.cyc := rfl
@[simp] theorem State.setHop_sch : (s.setHop a ws).sch = s.sch := rfl
@[simp] theorem State.setHop_fb : (s.setHop a ws).fb = s.fb := rfl
@[simp] theorem State.setHop_ax : (s.setHop a ws).ax = s.ax := rfl
@[simp] theorem State.setHop_drv : (s.setHop a ws).drv = s.drv := rfl
@[simp] theorem State.setHop_dor : (s.setHop a ws).dor = s.dor := rfl
@[simp] theorem State.setHop_thr : (s.setHop a ws).thr = s.thr := rfl
@[simp] theorem State.setHop_stp : (s.setHop a ws).stp = s.stp := rfl
@[simp] theorem State.setHop_can : (s.setHop a ws).can = s.can := rfl
@[simp] theorem State.setHop_bid : (s.setHop a ws).bid = s.bid := rfl
@[simp] theorem State.setHop_nrg : (s.setHop a ws).nrg = s.nrg := rfl
@[simp] theorem State.setHop_fio : (s.setHop a ws).fio = s.fio := rfl
@[simp] theorem State.setHop_hdl : (s.setHop a ws).hdl = s.hdl := rfl
@[simp] theorem State.setHop_pair : (s.setHop a ws).pair = s.pair := rfl
@[simp] theorem State.setHop_flt : (s.setHop a ws).flt = s.flt := rfl
@[simp] theorem State.setHop_rcd : (s.setHop a ws).rcd = s.rcd := rfl
@[simp] theorem State.setHop_loft : (s.setHop a ws).loft = s.loft := rfl
@[simp] theorem State.setHop_pwr : (s.setHop a ws).pwr = s.pwr := rfl
@[simp] theorem State.setHop_hlk : (s.setHop a ws).hlk = s.hlk := rfl
@[simp] theorem State.setHop_sdo : (s.setHop a ws).sdo = s.sdo := rfl
@[simp] theorem State.setHop_cia : (s.setHop a ws).cia = s.cia := rfl
@[simp] theorem State.setHop_raised : (s.setHop a ws).raised = s.raised := rfl
@[simp] theorem State.setHop_ctlData : (s.setHop a ws).ctlData = s.ctlData := rfl
@[simp] theorem State.setHop_free : (s.setHop a ws).free = s.free := rfl
@[simp] theorem State.setHop_pending : (s.setHop a ws).pending = s.pending := rfl

@[simp] theorem State.modSch_id : (s.modSch fSch).id = s.id := rfl
@[simp] theorem State.modSch_mem : (s.modSch fSch).mem = s.mem := rfl
@[simp] theorem State.modSch_regs : (s.modSch fSch).regs = s.regs := rfl
@[simp] theorem State.modSch_pend : (s.modSch fSch).pend = s.pend := rfl
@[simp] theorem State.modSch_smem : (s.modSch fSch).smem = s.smem := rfl
@[simp] theorem State.modSch_intp : (s.modSch fSch).intp = s.intp := rfl
@[simp] theorem State.modSch_frm : (s.modSch fSch).frm = s.frm := rfl
@[simp] theorem State.modSch_ecyc : (s.modSch fSch).ecyc = s.ecyc := rfl
@[simp] theorem State.modSch_cyc : (s.modSch fSch).cyc = s.cyc := rfl
@[simp] theorem State.modSch_hops : (s.modSch fSch).hops = s.hops := rfl
@[simp] theorem State.modSch_fb : (s.modSch fSch).fb = s.fb := rfl
@[simp] theorem State.modSch_ax : (s.modSch fSch).ax = s.ax := rfl
@[simp] theorem State.modSch_drv : (s.modSch fSch).drv = s.drv := rfl
@[simp] theorem State.modSch_dor : (s.modSch fSch).dor = s.dor := rfl
@[simp] theorem State.modSch_thr : (s.modSch fSch).thr = s.thr := rfl
@[simp] theorem State.modSch_stp : (s.modSch fSch).stp = s.stp := rfl
@[simp] theorem State.modSch_can : (s.modSch fSch).can = s.can := rfl
@[simp] theorem State.modSch_bid : (s.modSch fSch).bid = s.bid := rfl
@[simp] theorem State.modSch_nrg : (s.modSch fSch).nrg = s.nrg := rfl
@[simp] theorem State.modSch_fio : (s.modSch fSch).fio = s.fio := rfl
@[simp] theorem State.modSch_hdl : (s.modSch fSch).hdl = s.hdl := rfl
@[simp] theorem State.modSch_pair : (s.modSch fSch).pair = s.pair := rfl
@[simp] theorem State.modSch_flt : (s.modSch fSch).flt = s.flt := rfl
@[simp] theorem State.modSch_rcd : (s.modSch fSch).rcd = s.rcd := rfl
@[simp] theorem State.modSch_loft : (s.modSch fSch).loft = s.loft := rfl
@[simp] theorem State.modSch_pwr : (s.modSch fSch).pwr = s.pwr := rfl
@[simp] theorem State.modSch_hlk : (s.modSch fSch).hlk = s.hlk := rfl
@[simp] theorem State.modSch_sdo : (s.modSch fSch).sdo = s.sdo := rfl
@[simp] theorem State.modSch_cia : (s.modSch fSch).cia = s.cia := rfl
@[simp] theorem State.modSch_raised : (s.modSch fSch).raised = s.raised := rfl
@[simp] theorem State.modSch_ctlData : (s.modSch fSch).ctlData = s.ctlData := rfl
@[simp] theorem State.modSch_free : (s.modSch fSch).free = s.free := rfl
@[simp] theorem State.modSch_pending : (s.modSch fSch).pending = s.pending := rfl
@[simp] theorem State.modSch_sch : (s.modSch fSch).sch = fSch s.sch := rfl

@[simp] theorem State.modFb_id : (s.modFb a fFb).id = s.id := rfl
@[simp] theorem State.modFb_mem : (s.modFb a fFb).mem = s.mem := rfl
@[simp] theorem State.modFb_regs : (s.modFb a fFb).regs = s.regs := rfl
@[simp] theorem State.modFb_pend : (s.modFb a fFb).pend = s.pend := rfl
@[simp] theorem State.modFb_smem : (s.modFb a fFb).smem = s.smem := rfl
@[simp] theorem State.modFb_intp : (s.modFb a fFb).intp = s.intp := rfl
@[simp] theorem State.modFb_frm : (s.modFb a fFb).frm = s.frm := rfl
@[simp] theorem State.modFb_ecyc : (s.modFb a fFb).ecyc = s.ecyc := rfl
@[simp] theorem State.modFb_cyc : (s.modFb a fFb).cyc = s.cyc := rfl
@[simp] theorem State.modFb_sch : (s.modFb a fFb).sch = s.sch := rfl
@[simp] theorem State.modFb_hops : (s.modFb a fFb).hops = s.hops := rfl
@[simp] theorem State.modFb_ax : (s.modFb a fFb).ax = s.ax := rfl
@[simp] theorem State.modFb_drv : (s.modFb a fFb).drv = s.drv := rfl
@[simp] theorem State.modFb_dor : (s.modFb a fFb).dor = s.dor := rfl
@[simp] theorem State.modFb_thr : (s.modFb a fFb).thr = s.thr := rfl
@[simp] theorem State.modFb_stp : (s.modFb a fFb).stp = s.stp := rfl
@[simp] theorem State.modFb_can : (s.modFb a fFb).can = s.can := rfl
@[simp] theorem State.modFb_bid : (s.modFb a fFb).bid = s.bid := rfl
@[simp] theorem State.modFb_nrg : (s.modFb a fFb).nrg = s.nrg := rfl
@[simp] theorem State.modFb_fio : (s.modFb a fFb).fio = s.fio := rfl
@[simp] theorem State.modFb_hdl : (s.modFb a fFb).hdl = s.hdl := rfl
@[simp] theorem State.modFb_pair : (s.modFb a fFb).pair = s.pair := rfl
@[simp] theorem State.modFb_flt : (s.modFb a fFb).flt = s.flt := rfl
@[simp] theorem State.modFb_rcd : (s.modFb a fFb).rcd = s.rcd := rfl
@[simp] theorem State.modFb_loft : (s.modFb a fFb).loft = s.loft := rfl
@[simp] theorem State.modFb_pwr : (s.modFb a fFb).pwr = s.pwr := rfl
@[simp] theorem State.modFb_hlk : (s.modFb a fFb).hlk = s.hlk := rfl
@[simp] theorem State.modFb_sdo : (s.modFb a fFb).sdo = s.sdo := rfl
@[simp] theorem State.modFb_cia : (s.modFb a fFb).cia = s.cia := rfl
@[simp] theorem State.modFb_raised : (s.modFb a fFb).raised = s.raised := rfl
@[simp] theorem State.modFb_ctlData : (s.modFb a fFb).ctlData = s.ctlData := rfl
@[simp] theorem State.modFb_free : (s.modFb a fFb).free = s.free := rfl
@[simp] theorem State.modFb_pending : (s.modFb a fFb).pending = s.pending := rfl

@[simp] theorem State.modAx_id : (s.modAx a fAx).id = s.id := rfl
@[simp] theorem State.modAx_mem : (s.modAx a fAx).mem = s.mem := rfl
@[simp] theorem State.modAx_regs : (s.modAx a fAx).regs = s.regs := rfl
@[simp] theorem State.modAx_pend : (s.modAx a fAx).pend = s.pend := rfl
@[simp] theorem State.modAx_smem : (s.modAx a fAx).smem = s.smem := rfl
@[simp] theorem State.modAx_intp : (s.modAx a fAx).intp = s.intp := rfl
@[simp] theorem State.modAx_frm : (s.modAx a fAx).frm = s.frm := rfl
@[simp] theorem State.modAx_ecyc : (s.modAx a fAx).ecyc = s.ecyc := rfl
@[simp] theorem State.modAx_cyc : (s.modAx a fAx).cyc = s.cyc := rfl
@[simp] theorem State.modAx_sch : (s.modAx a fAx).sch = s.sch := rfl
@[simp] theorem State.modAx_hops : (s.modAx a fAx).hops = s.hops := rfl
@[simp] theorem State.modAx_fb : (s.modAx a fAx).fb = s.fb := rfl
@[simp] theorem State.modAx_drv : (s.modAx a fAx).drv = s.drv := rfl
@[simp] theorem State.modAx_dor : (s.modAx a fAx).dor = s.dor := rfl
@[simp] theorem State.modAx_thr : (s.modAx a fAx).thr = s.thr := rfl
@[simp] theorem State.modAx_stp : (s.modAx a fAx).stp = s.stp := rfl
@[simp] theorem State.modAx_can : (s.modAx a fAx).can = s.can := rfl
@[simp] theorem State.modAx_bid : (s.modAx a fAx).bid = s.bid := rfl
@[simp] theorem State.modAx_nrg : (s.modAx a fAx).nrg = s.nrg := rfl
@[simp] theorem State.modAx_fio : (s.modAx a fAx).fio = s.fio := rfl
@[simp] theorem State.modAx_hdl : (s.modAx a fAx).hdl = s.hdl := rfl
@[simp] theorem State.modAx_pair : (s.modAx a fAx).pair = s.pair := rfl
@[simp] theorem State.modAx_flt : (s.modAx a fAx).flt = s.flt := rfl
@[simp] theorem State.modAx_rcd : (s.modAx a fAx).rcd = s.rcd := rfl
@[simp] theorem State.modAx_loft : (s.modAx a fAx).loft = s.loft := rfl
@[simp] theorem State.modAx_pwr : (s.modAx a fAx).pwr = s.pwr := rfl
@[simp] theorem State.modAx_hlk : (s.modAx a fAx).hlk = s.hlk := rfl
@[simp] theorem State.modAx_sdo : (s.modAx a fAx).sdo = s.sdo := rfl
@[simp] theorem State.modAx_cia : (s.modAx a fAx).cia = s.cia := rfl
@[simp] theorem State.modAx_raised : (s.modAx a fAx).raised = s.raised := rfl
@[simp] theorem State.modAx_ctlData : (s.modAx a fAx).ctlData = s.ctlData := rfl
@[simp] theorem State.modAx_free : (s.modAx a fAx).free = s.free := rfl
@[simp] theorem State.modAx_pending : (s.modAx a fAx).pending = s.pending := rfl

@[simp] theorem State.modDrv_id : (s.modDrv a fDrv).id = s.id := rfl
@[simp] theorem State.modDrv_mem : (s.modDrv a fDrv).mem = s.mem := rfl
@[simp] theorem State.modDrv_regs : (s.modDrv a fDrv).regs = s.regs := rfl
@[simp] theorem State.modDrv_pend : (s.modDrv a fDrv).pend = s.pend := rfl
@[simp] theorem State.modDrv_smem : (s.modDrv a fDrv).smem = s.smem := rfl
@[simp] theorem State.modDrv_intp : (s.modDrv a fDrv).intp = s.intp := rfl
@[simp] theorem State.modDrv_frm : (s.modDrv a fDrv).frm = s.frm := rfl
@[simp] theorem State.modDrv_ecyc : (s.modDrv a fDrv).ecyc = s.ecyc := rfl
@[simp] theorem State.modDrv_cyc : (s.modDrv a fDrv).cyc = s.cyc := rfl
@[simp] theorem State.modDrv_sch : (s.modDrv a fDrv).sch = s.sch := rfl
@[simp] theorem State.modDrv_hops : (s.modDrv a fDrv).hops = s.hops := rfl
@[simp] theorem State.modDrv_fb : (s.modDrv a fDrv).fb = s.fb := rfl
@[simp] theorem State.modDrv_ax : (s.modDrv a fDrv).ax = s.ax := rfl
@[simp] theorem State.modDrv_dor : (s.modDrv a fDrv).dor = s.dor := rfl
@[simp] theorem State.modDrv_thr : (s.modDrv a fDrv).thr = s.thr := rfl
@[simp] theorem State.modDrv_stp : (s.modDrv a fDrv).stp = s.stp := rfl
@[simp] theorem State.modDrv_can : (s.modDrv a fDrv).can = s.can := rfl
@[simp] theorem State.modDrv_bid : (s.modDrv a fDrv).bid = s.bid := rfl
@[simp] theorem State.modDrv_nrg : (s.modDrv a fDrv).nrg = s.nrg := rfl
@[simp] theorem State.modDrv_fio : (s.modDrv a fDrv).fio = s.fio := rfl
@[simp] theorem State.modDrv_hdl : (s.modDrv a fDrv).hdl = s.hdl := rfl
@[simp] theorem State.modDrv_pair : (s.modDrv a fDrv).pair = s.pair := rfl
@[simp] theorem State.modDrv_flt : (s.modDrv a fDrv).flt = s.flt := rfl
@[simp] theorem State.modDrv_rcd : (s.modDrv a fDrv).rcd = s.rcd := rfl
@[simp] theorem State.modDrv_loft : (s.modDrv a fDrv).loft = s.loft := rfl
@[simp] theorem State.modDrv_pwr : (s.modDrv a fDrv).pwr = s.pwr := rfl
@[simp] theorem State.modDrv_hlk : (s.modDrv a fDrv).hlk = s.hlk := rfl
@[simp] theorem State.modDrv_sdo : (s.modDrv a fDrv).sdo = s.sdo := rfl
@[simp] theorem State.modDrv_cia : (s.modDrv a fDrv).cia = s.cia := rfl
@[simp] theorem State.modDrv_raised : (s.modDrv a fDrv).raised = s.raised := rfl
@[simp] theorem State.modDrv_ctlData : (s.modDrv a fDrv).ctlData = s.ctlData := rfl
@[simp] theorem State.modDrv_free : (s.modDrv a fDrv).free = s.free := rfl
@[simp] theorem State.modDrv_pending : (s.modDrv a fDrv).pending = s.pending := rfl

@[simp] theorem State.modDor_id : (s.modDor a fDor).id = s.id := rfl
@[simp] theorem State.modDor_mem : (s.modDor a fDor).mem = s.mem := rfl
@[simp] theorem State.modDor_regs : (s.modDor a fDor).regs = s.regs := rfl
@[simp] theorem State.modDor_pend : (s.modDor a fDor).pend = s.pend := rfl
@[simp] theorem State.modDor_smem : (s.modDor a fDor).smem = s.smem := rfl
@[simp] theorem State.modDor_intp : (s.modDor a fDor).intp = s.intp := rfl
@[simp] theorem State.modDor_frm : (s.modDor a fDor).frm = s.frm := rfl
@[simp] theorem State.modDor_ecyc : (s.modDor a fDor).ecyc = s.ecyc := rfl
@[simp] theorem State.modDor_cyc : (s.modDor a fDor).cyc = s.cyc := rfl
@[simp] theorem State.modDor_sch : (s.modDor a fDor).sch = s.sch := rfl
@[simp] theorem State.modDor_hops : (s.modDor a fDor).hops = s.hops := rfl
@[simp] theorem State.modDor_fb : (s.modDor a fDor).fb = s.fb := rfl
@[simp] theorem State.modDor_ax : (s.modDor a fDor).ax = s.ax := rfl
@[simp] theorem State.modDor_drv : (s.modDor a fDor).drv = s.drv := rfl
@[simp] theorem State.modDor_thr : (s.modDor a fDor).thr = s.thr := rfl
@[simp] theorem State.modDor_stp : (s.modDor a fDor).stp = s.stp := rfl
@[simp] theorem State.modDor_can : (s.modDor a fDor).can = s.can := rfl
@[simp] theorem State.modDor_bid : (s.modDor a fDor).bid = s.bid := rfl
@[simp] theorem State.modDor_nrg : (s.modDor a fDor).nrg = s.nrg := rfl
@[simp] theorem State.modDor_fio : (s.modDor a fDor).fio = s.fio := rfl
@[simp] theorem State.modDor_hdl : (s.modDor a fDor).hdl = s.hdl := rfl
@[simp] theorem State.modDor_pair : (s.modDor a fDor).pair = s.pair := rfl
@[simp] theorem State.modDor_flt : (s.modDor a fDor).flt = s.flt := rfl
@[simp] theorem State.modDor_rcd : (s.modDor a fDor).rcd = s.rcd := rfl
@[simp] theorem State.modDor_loft : (s.modDor a fDor).loft = s.loft := rfl
@[simp] theorem State.modDor_pwr : (s.modDor a fDor).pwr = s.pwr := rfl
@[simp] theorem State.modDor_hlk : (s.modDor a fDor).hlk = s.hlk := rfl
@[simp] theorem State.modDor_sdo : (s.modDor a fDor).sdo = s.sdo := rfl
@[simp] theorem State.modDor_cia : (s.modDor a fDor).cia = s.cia := rfl
@[simp] theorem State.modDor_raised : (s.modDor a fDor).raised = s.raised := rfl
@[simp] theorem State.modDor_ctlData : (s.modDor a fDor).ctlData = s.ctlData := rfl
@[simp] theorem State.modDor_free : (s.modDor a fDor).free = s.free := rfl
@[simp] theorem State.modDor_pending : (s.modDor a fDor).pending = s.pending := rfl

@[simp] theorem State.modThr_id : (s.modThr fThr).id = s.id := rfl
@[simp] theorem State.modThr_mem : (s.modThr fThr).mem = s.mem := rfl
@[simp] theorem State.modThr_regs : (s.modThr fThr).regs = s.regs := rfl
@[simp] theorem State.modThr_pend : (s.modThr fThr).pend = s.pend := rfl
@[simp] theorem State.modThr_smem : (s.modThr fThr).smem = s.smem := rfl
@[simp] theorem State.modThr_intp : (s.modThr fThr).intp = s.intp := rfl
@[simp] theorem State.modThr_frm : (s.modThr fThr).frm = s.frm := rfl
@[simp] theorem State.modThr_ecyc : (s.modThr fThr).ecyc = s.ecyc := rfl
@[simp] theorem State.modThr_cyc : (s.modThr fThr).cyc = s.cyc := rfl
@[simp] theorem State.modThr_sch : (s.modThr fThr).sch = s.sch := rfl
@[simp] theorem State.modThr_hops : (s.modThr fThr).hops = s.hops := rfl
@[simp] theorem State.modThr_fb : (s.modThr fThr).fb = s.fb := rfl
@[simp] theorem State.modThr_ax : (s.modThr fThr).ax = s.ax := rfl
@[simp] theorem State.modThr_drv : (s.modThr fThr).drv = s.drv := rfl
@[simp] theorem State.modThr_dor : (s.modThr fThr).dor = s.dor := rfl
@[simp] theorem State.modThr_stp : (s.modThr fThr).stp = s.stp := rfl
@[simp] theorem State.modThr_can : (s.modThr fThr).can = s.can := rfl
@[simp] theorem State.modThr_bid : (s.modThr fThr).bid = s.bid := rfl
@[simp] theorem State.modThr_nrg : (s.modThr fThr).nrg = s.nrg := rfl
@[simp] theorem State.modThr_fio : (s.modThr fThr).fio = s.fio := rfl
@[simp] theorem State.modThr_hdl : (s.modThr fThr).hdl = s.hdl := rfl
@[simp] theorem State.modThr_pair : (s.modThr fThr).pair = s.pair := rfl
@[simp] theorem State.modThr_flt : (s.modThr fThr).flt = s.flt := rfl
@[simp] theorem State.modThr_rcd : (s.modThr fThr).rcd = s.rcd := rfl
@[simp] theorem State.modThr_loft : (s.modThr fThr).loft = s.loft := rfl
@[simp] theorem State.modThr_pwr : (s.modThr fThr).pwr = s.pwr := rfl
@[simp] theorem State.modThr_hlk : (s.modThr fThr).hlk = s.hlk := rfl
@[simp] theorem State.modThr_sdo : (s.modThr fThr).sdo = s.sdo := rfl
@[simp] theorem State.modThr_cia : (s.modThr fThr).cia = s.cia := rfl
@[simp] theorem State.modThr_raised : (s.modThr fThr).raised = s.raised := rfl
@[simp] theorem State.modThr_ctlData : (s.modThr fThr).ctlData = s.ctlData := rfl
@[simp] theorem State.modThr_free : (s.modThr fThr).free = s.free := rfl
@[simp] theorem State.modThr_pending : (s.modThr fThr).pending = s.pending := rfl
@[simp] theorem State.modThr_thr : (s.modThr fThr).thr = fThr s.thr := rfl

@[simp] theorem State.modStp_id : (s.modStp fStp).id = s.id := rfl
@[simp] theorem State.modStp_mem : (s.modStp fStp).mem = s.mem := rfl
@[simp] theorem State.modStp_regs : (s.modStp fStp).regs = s.regs := rfl
@[simp] theorem State.modStp_pend : (s.modStp fStp).pend = s.pend := rfl
@[simp] theorem State.modStp_smem : (s.modStp fStp).smem = s.smem := rfl
@[simp] theorem State.modStp_intp : (s.modStp fStp).intp = s.intp := rfl
@[simp] theorem State.modStp_frm : (s.modStp fStp).frm = s.frm := rfl
@[simp] theorem State.modStp_ecyc : (s.modStp fStp).ecyc = s.ecyc := rfl
@[simp] theorem State.modStp_cyc : (s.modStp fStp).cyc = s.cyc := rfl
@[simp] theorem State.modStp_sch : (s.modStp fStp).sch = s.sch := rfl
@[simp] theorem State.modStp_hops : (s.modStp fStp).hops = s.hops := rfl
@[simp] theorem State.modStp_fb : (s.modStp fStp).fb = s.fb := rfl
@[simp] theorem State.modStp_ax : (s.modStp fStp).ax = s.ax := rfl
@[simp] theorem State.modStp_drv : (s.modStp fStp).drv = s.drv := rfl
@[simp] theorem State.modStp_dor : (s.modStp fStp).dor = s.dor := rfl
@[simp] theorem State.modStp_thr : (s.modStp fStp).thr = s.thr := rfl
@[simp] theorem State.modStp_can : (s.modStp fStp).can = s.can := rfl
@[simp] theorem State.modStp_bid : (s.modStp fStp).bid = s.bid := rfl
@[simp] theorem State.modStp_nrg : (s.modStp fStp).nrg = s.nrg := rfl
@[simp] theorem State.modStp_fio : (s.modStp fStp).fio = s.fio := rfl
@[simp] theorem State.modStp_hdl : (s.modStp fStp).hdl = s.hdl := rfl
@[simp] theorem State.modStp_pair : (s.modStp fStp).pair = s.pair := rfl
@[simp] theorem State.modStp_flt : (s.modStp fStp).flt = s.flt := rfl
@[simp] theorem State.modStp_rcd : (s.modStp fStp).rcd = s.rcd := rfl
@[simp] theorem State.modStp_loft : (s.modStp fStp).loft = s.loft := rfl
@[simp] theorem State.modStp_pwr : (s.modStp fStp).pwr = s.pwr := rfl
@[simp] theorem State.modStp_hlk : (s.modStp fStp).hlk = s.hlk := rfl
@[simp] theorem State.modStp_sdo : (s.modStp fStp).sdo = s.sdo := rfl
@[simp] theorem State.modStp_cia : (s.modStp fStp).cia = s.cia := rfl
@[simp] theorem State.modStp_raised : (s.modStp fStp).raised = s.raised := rfl
@[simp] theorem State.modStp_ctlData : (s.modStp fStp).ctlData = s.ctlData := rfl
@[simp] theorem State.modStp_free : (s.modStp fStp).free = s.free := rfl
@[simp] theorem State.modStp_pending : (s.modStp fStp).pending = s.pending := rfl
@[simp] theorem State.modStp_stp : (s.modStp fStp).stp = fStp s.stp := rfl

@[simp] theorem State.modCan_id : (s.modCan a fCan).id = s.id := rfl
@[simp] theorem State.modCan_mem : (s.modCan a fCan).mem = s.mem := rfl
@[simp] theorem State.modCan_regs : (s.modCan a fCan).regs = s.regs := rfl
@[simp] theorem State.modCan_pend : (s.modCan a fCan).pend = s.pend := rfl
@[simp] theorem State.modCan_smem : (s.modCan a fCan).smem = s.smem := rfl
@[simp] theorem State.modCan_intp : (s.modCan a fCan).intp = s.intp := rfl
@[simp] theorem State.modCan_frm : (s.modCan a fCan).frm = s.frm := rfl
@[simp] theorem State.modCan_ecyc : (s.modCan a fCan).ecyc = s.ecyc := rfl
@[simp] theorem State.modCan_cyc : (s.modCan a fCan).cyc = s.cyc := rfl
@[simp] theorem State.modCan_sch : (s.modCan a fCan).sch = s.sch := rfl
@[simp] theorem State.modCan_hops : (s.modCan a fCan).hops = s.hops := rfl
@[simp] theorem State.modCan_fb : (s.modCan a fCan).fb = s.fb := rfl
@[simp] theorem State.modCan_ax : (s.modCan a fCan).ax = s.ax := rfl
@[simp] theorem State.modCan_drv : (s.modCan a fCan).drv = s.drv := rfl
@[simp] theorem State.modCan_dor : (s.modCan a fCan).dor = s.dor := rfl
@[simp] theorem State.modCan_thr : (s.modCan a fCan).thr = s.thr := rfl
@[simp] theorem State.modCan_stp : (s.modCan a fCan).stp = s.stp := rfl
@[simp] theorem State.modCan_bid : (s.modCan a fCan).bid = s.bid := rfl
@[simp] theorem State.modCan_nrg : (s.modCan a fCan).nrg = s.nrg := rfl
@[simp] theorem State.modCan_fio : (s.modCan a fCan).fio = s.fio := rfl
@[simp] theorem State.modCan_hdl : (s.modCan a fCan).hdl = s.hdl := rfl
@[simp] theorem State.modCan_pair : (s.modCan a fCan).pair = s.pair := rfl
@[simp] theorem State.modCan_flt : (s.modCan a fCan).flt = s.flt := rfl
@[simp] theorem State.modCan_rcd : (s.modCan a fCan).rcd = s.rcd := rfl
@[simp] theorem State.modCan_loft : (s.modCan a fCan).loft = s.loft := rfl
@[simp] theorem State.modCan_pwr : (s.modCan a fCan).pwr = s.pwr := rfl
@[simp] theorem State.modCan_hlk : (s.modCan a fCan).hlk = s.hlk := rfl
@[simp] theorem State.modCan_sdo : (s.modCan a fCan).sdo = s.sdo := rfl
@[simp] theorem State.modCan_cia : (s.modCan a fCan).cia = s.cia := rfl
@[simp] theorem State.modCan_raised : (s.modCan a fCan).raised = s.raised := rfl
@[simp] theorem State.modCan_ctlData : (s.modCan a fCan).ctlData = s.ctlData := rfl
@[simp] theorem State.modCan_free : (s.modCan a fCan).free = s.free := rfl
@[simp] theorem State.modCan_pending : (s.modCan a fCan).pending = s.pending := rfl

@[simp] theorem State.modNrg_id : (s.modNrg fNrg).id = s.id := rfl
@[simp] theorem State.modNrg_mem : (s.modNrg fNrg).mem = s.mem := rfl
@[simp] theorem State.modNrg_regs : (s.modNrg fNrg).regs = s.regs := rfl
@[simp] theorem State.modNrg_pend : (s.modNrg fNrg).pend = s.pend := rfl
@[simp] theorem State.modNrg_smem : (s.modNrg fNrg).smem = s.smem := rfl
@[simp] theorem State.modNrg_intp : (s.modNrg fNrg).intp = s.intp := rfl
@[simp] theorem State.modNrg_frm : (s.modNrg fNrg).frm = s.frm := rfl
@[simp] theorem State.modNrg_ecyc : (s.modNrg fNrg).ecyc = s.ecyc := rfl
@[simp] theorem State.modNrg_cyc : (s.modNrg fNrg).cyc = s.cyc := rfl
@[simp] theorem State.modNrg_sch : (s.modNrg fNrg).sch = s.sch := rfl
@[simp] theorem State.modNrg_hops : (s.modNrg fNrg).hops = s.hops := rfl
@[simp] theorem State.modNrg_fb : (s.modNrg fNrg).fb = s.fb := rfl
@[simp] theorem State.modNrg_ax : (s.modNrg fNrg).ax = s.ax := rfl
@[simp] theorem State.modNrg_drv : (s.modNrg fNrg).drv = s.drv := rfl
@[simp] theorem State.modNrg_dor : (s.modNrg fNrg).dor = s.dor := rfl
@[simp] theorem State.modNrg_thr : (s.modNrg fNrg).thr = s.thr := rfl
@[simp] theorem State.modNrg_stp : (s.modNrg fNrg).stp = s.stp := rfl
@[simp] theorem State.modNrg_can : (s.modNrg fNrg).can = s.can := rfl
@[simp] theorem State.modNrg_bid : (s.modNrg fNrg).bid = s.bid := rfl
@[simp] theorem State.modNrg_fio : (s.modNrg fNrg).fio = s.fio := rfl
@[simp] theorem State.modNrg_hdl : (s.modNrg fNrg).hdl = s.hdl := rfl
@[simp] theorem State.modNrg_pair : (s.modNrg fNrg).pair = s.pair := rfl
@[simp] theorem State.modNrg_flt : (s.modNrg fNrg).flt = s.flt := rfl
@[simp] theorem State.modNrg_rcd : (s.modNrg fNrg).rcd = s.rcd := rfl
@[simp] theorem State.modNrg_loft : (s.modNrg fNrg).loft = s.loft := rfl
@[simp] theorem State.modNrg_pwr : (s.modNrg fNrg).pwr = s.pwr := rfl
@[simp] theorem State.modNrg_hlk : (s.modNrg fNrg).hlk = s.hlk := rfl
@[simp] theorem State.modNrg_sdo : (s.modNrg fNrg).sdo = s.sdo := rfl
@[simp] theorem State.modNrg_cia : (s.modNrg fNrg).cia = s.cia := rfl
@[simp] theorem State.modNrg_raised : (s.modNrg fNrg).raised = s.raised := rfl
@[simp] theorem State.modNrg_ctlData : (s.modNrg fNrg).ctlData = s.ctlData := rfl
@[simp] theorem State.modNrg_free : (s.modNrg fNrg).free = s.free := rfl
@[simp] theorem State.modNrg_pending : (s.modNrg fNrg).pending = s.pending := rfl
@[simp] theorem State.modNrg_nrg : (s.modNrg fNrg).nrg = fNrg s.nrg := rfl

@[simp] theorem State.modFio_id : (s.modFio fFio).id = s.id := rfl
@[simp] theorem State.modFio_mem : (s.modFio fFio).mem = s.mem := rfl
@[simp] theorem State.modFio_regs : (s.modFio fFio).regs = s.regs := rfl
@[simp] theorem State.modFio_pend : (s.modFio fFio).pend = s.pend := rfl
@[simp] theorem State.modFio_smem : (s.modFio fFio).smem = s.smem := rfl
@[simp] theorem State.modFio_intp : (s.modFio fFio).intp = s.intp := rfl
@[simp] theorem State.modFio_frm : (s.modFio fFio).frm = s.frm := rfl
@[simp] theorem State.modFio_ecyc : (s.modFio fFio).ecyc = s.ecyc := rfl
@[simp] theorem State.modFio_cyc : (s.modFio fFio).cyc = s.cyc := rfl
@[simp] theorem State.modFio_sch : (s.modFio fFio).sch = s.sch := rfl
@[simp] theorem State.modFio_hops : (s.modFio fFio).hops = s.hops := rfl
@[simp] theorem State.modFio_fb : (s.modFio fFio).fb = s.fb := rfl
@[simp] theorem State.modFio_ax : (s.modFio fFio).ax = s.ax := rfl
@[simp] theorem State.modFio_drv : (s.modFio fFio).drv = s.drv := rfl
@[simp] theorem State.modFio_dor : (s.modFio fFio).dor = s.dor := rfl
@[simp] theorem State.modFio_thr : (s.modFio fFio).thr = s.thr := rfl
@[simp] theorem State.modFio_stp : (s.modFio fFio).stp = s.stp := rfl
@[simp] theorem State.modFio_can : (s.modFio fFio).can = s.can := rfl
@[simp] theorem State.modFio_bid : (s.modFio fFio).bid = s.bid := rfl
@[simp] theorem State.modFio_nrg : (s.modFio fFio).nrg = s.nrg := rfl
@[simp] theorem State.modFio_hdl : (s.modFio fFio).hdl = s.hdl := rfl
@[simp] theorem State.modFio_pair : (s.modFio fFio).pair = s.pair := rfl
@[simp] theorem State.modFio_flt : (s.modFio fFio).flt = s.flt := rfl
@[simp] theorem State.modFio_rcd : (s.modFio fFio).rcd = s.rcd := rfl
@[simp] theorem State.modFio_loft : (s.modFio fFio).loft = s.loft := rfl
@[simp] theorem State.modFio_pwr : (s.modFio fFio).pwr = s.pwr := rfl
@[simp] theorem State.modFio_hlk : (s.modFio fFio).hlk = s.hlk := rfl
@[simp] theorem State.modFio_sdo : (s.modFio fFio).sdo = s.sdo := rfl
@[simp] theorem State.modFio_cia : (s.modFio fFio).cia = s.cia := rfl
@[simp] theorem State.modFio_raised : (s.modFio fFio).raised = s.raised := rfl
@[simp] theorem State.modFio_ctlData : (s.modFio fFio).ctlData = s.ctlData := rfl
@[simp] theorem State.modFio_free : (s.modFio fFio).free = s.free := rfl
@[simp] theorem State.modFio_pending : (s.modFio fFio).pending = s.pending := rfl
@[simp] theorem State.modFio_fio : (s.modFio fFio).fio = fFio s.fio := rfl

@[simp] theorem State.modHdl_id : (s.modHdl fHdl).id = s.id := rfl
@[simp] theorem State.modHdl_mem : (s.modHdl fHdl).mem = s.mem := rfl
@[simp] theorem State.modHdl_regs : (s.modHdl fHdl).regs = s.regs := rfl
@[simp] theorem State.modHdl_pend : (s.modHdl fHdl).pend = s.pend := rfl
@[simp] theorem State.modHdl_smem : (s.modHdl fHdl).smem = s.smem := rfl
@[simp] theorem State.modHdl_intp : (s.modHdl fHdl).intp = s.intp := rfl
@[simp] theorem State.modHdl_frm : (s.modHdl fHdl).frm = s.frm := rfl
@[simp] theorem State.modHdl_ecyc : (s.modHdl fHdl).ecyc = s.ecyc := rfl
@[simp] theorem State.modHdl_cyc : (s.modHdl fHdl).cyc = s.cyc := rfl
@[simp] theorem State.modHdl_sch : (s.modHdl fHdl).sch = s.sch := rfl
@[simp] theorem State.modHdl_hops : (s.modHdl fHdl).hops = s.hops := rfl
@[simp] theorem State.modHdl_fb : (s.modHdl fHdl).fb = s.fb := rfl
@[simp] theorem State.modHdl_ax : (s.modHdl fHdl).ax = s.ax := rfl
@[simp] theorem State.modHdl_drv : (s.modHdl fHdl).drv = s.drv := rfl
@[simp] theorem State.modHdl_dor : (s.modHdl fHdl).dor = s.dor := rfl
@[simp] theorem State.modHdl_thr : (s.modHdl fHdl).thr = s.thr := rfl
@[simp] theorem State.modHdl_stp : (s.modHdl fHdl).stp = s.stp := rfl
@[simp] theorem State.modHdl_can : (s.modHdl fHdl).can = s.can := rfl
@[simp] theorem State.modHdl_bid : (s.modHdl fHdl).bid = s.bid := rfl
@[simp] theorem State.modHdl_nrg : (s.modHdl fHdl).nrg = s.nrg := rfl
@[simp] theorem State.modHdl_fio : (s.modHdl fHdl).fio = s.fio := rfl
@[simp] theorem State.modHdl_pair : (s.modHdl fHdl).pair = s.pair := rfl
@[simp] theorem State.modHdl_flt : (s.modHdl fHdl).flt = s.flt := rfl
@[simp] theorem State.modHdl_rcd : (s.modHdl fHdl).rcd = s.rcd := rfl
@[simp] theorem State.modHdl_loft : (s.modHdl fHdl).loft = s.loft := rfl
@[simp] theorem State.modHdl_pwr : (s.modHdl fHdl).pwr = s.pwr := rfl
@[simp] theorem State.modHdl_hlk : (s.modHdl fHdl).hlk = s.hlk := rfl
@[simp] theorem State.modHdl_sdo : (s.modHdl fHdl).sdo = s.sdo := rfl
@[simp] theorem State.modHdl_cia : (s.modHdl fHdl).cia = s.cia := rfl
@[simp] theorem State.modHdl_raised : (s.modHdl fHdl).raised = s.raised := rfl
@[simp] theorem State.modHdl_ctlData : (s.modHdl fHdl).ctlData = s.ctlData := rfl
@[simp] theorem State.modHdl_free : (s.modHdl fHdl).free = s.free := rfl
@[simp] theorem State.modHdl_pending : (s.modHdl fHdl).pending = s.pending := rfl
@[simp] theorem State.modHdl_hdl : (s.modHdl fHdl).hdl = fHdl s.hdl := rfl

@[simp] theorem State.modPair_id : (s.modPair fPair).id = s.id := rfl
@[simp] theorem State.modPair_mem : (s.modPair fPair).mem = s.mem := rfl
@[simp] theorem State.modPair_regs : (s.modPair fPair).regs = s.regs := rfl
@[simp] theorem State.modPair_pend : (s.modPair fPair).pend = s.pend := rfl
@[simp] theorem State.modPair_smem : (s.modPair fPair).smem = s.smem := rfl
@[simp] theorem State.modPair_intp : (s.modPair fPair).intp = s.intp := rfl
@[simp] theorem State.modPair_frm : (s.modPair fPair).frm = s.frm := rfl
@[simp] theorem State.modPair_ecyc : (s.modPair fPair).ecyc = s.ecyc := rfl
@[simp] theorem State.modPair_cyc : (s.modPair fPair).cyc = s.cyc := rfl
@[simp] theorem State.modPair_sch : (s.modPair fPair).sch = s.sch := rfl
@[simp] theorem State.modPair_hops : (s.modPair fPair).hops = s.hops := rfl
@[simp] theorem State.modPair_fb : (s.modPair fPair).fb = s.fb := rfl
@[simp] theorem State.modPair_ax : (s.modPair fPair).ax = s.ax := rfl
@[simp] theorem State.modPair_drv : (s.modPair fPair).drv = s.drv := rfl
@[simp] theorem State.modPair_dor : (s.modPair fPair).dor = s.dor := rfl
@[simp] theorem State.modPair_thr : (s.modPair fPair).thr = s.thr := rfl
@[simp] theorem State.modPair_stp : (s.modPair fPair).stp = s.stp := rfl
@[simp] theorem State.modPair_can : (s.modPair fPair).can = s.can := rfl
@[simp] theorem State.modPair_bid : (s.modPair fPair).bid = s.bid := rfl
@[simp] theorem State.modPair_nrg : (s.modPair fPair).nrg = s.nrg := rfl
@[simp] theorem State.modPair_fio : (s.modPair fPair).fio = s.fio := rfl
@[simp] theorem State.modPair_hdl : (s.modPair fPair).hdl = s.hdl := rfl
@[simp] theorem State.modPair_flt : (s.modPair fPair).flt = s.flt := rfl
@[simp] theorem State.modPair_rcd : (s.modPair fPair).rcd = s.rcd := rfl
@[simp] theorem State.modPair_loft : (s.modPair fPair).loft = s.loft := rfl
@[simp] theorem State.modPair_pwr : (s.modPair fPair).pwr = s.pwr := rfl
@[simp] theorem State.modPair_hlk : (s.modPair fPair).hlk = s.hlk := rfl
@[simp] theorem State.modPair_sdo : (s.modPair fPair).sdo = s.sdo := rfl
@[simp] theorem State.modPair_cia : (s.modPair fPair).cia = s.cia := rfl
@[simp] theorem State.modPair_raised : (s.modPair fPair).raised = s.raised := rfl
@[simp] theorem State.modPair_ctlData : (s.modPair fPair).ctlData = s.ctlData := rfl
@[simp] theorem State.modPair_free : (s.modPair fPair).free = s.free := rfl
@[simp] theorem State.modPair_pending : (s.modPair fPair).pending = s.pending := rfl
@[simp] theorem State.modPair_pair : (s.modPair fPair).pair = fPair s.pair := rfl

@[simp] theorem State.modFlt_id : (s.modFlt fFlt).id = s.id := rfl
@[simp] theorem State.modFlt_mem : (s.modFlt fFlt).mem = s.mem := rfl
@[simp] theorem State.modFlt_regs : (s.modFlt fFlt).regs = s.regs := rfl
@[simp] theorem State.modFlt_pend : (s.modFlt fFlt).pend = s.pend := rfl
@[simp] theorem State.modFlt_smem : (s.modFlt fFlt).smem = s.smem := rfl
@[simp] theorem State.modFlt_intp : (s.modFlt fFlt).intp = s.intp := rfl
@[simp] theorem State.modFlt_frm : (s.modFlt fFlt).frm = s.frm := rfl
@[simp] theorem State.modFlt_ecyc : (s.modFlt fFlt).ecyc = s.ecyc := rfl
@[simp] theorem State.modFlt_cyc : (s.modFlt fFlt).cyc = s.cyc := rfl
@[simp] theorem State.modFlt_sch : (s.modFlt fFlt).sch = s.sch := rfl
@[simp] theorem State.modFlt_hops : (s.modFlt fFlt).hops = s.hops := rfl
@[simp] theorem State.modFlt_fb : (s.modFlt fFlt).fb = s.fb := rfl
@[simp] theorem State.modFlt_ax : (s.modFlt fFlt).ax = s.ax := rfl
@[simp] theorem State.modFlt_drv : (s.modFlt fFlt).drv = s.drv := rfl
@[simp] theorem State.modFlt_dor : (s.modFlt fFlt).dor = s.dor := rfl
@[simp] theorem State.modFlt_thr : (s.modFlt fFlt).thr = s.thr := rfl
@[simp] theorem State.modFlt_stp : (s.modFlt fFlt).stp = s.stp := rfl
@[simp] theorem State.modFlt_can : (s.modFlt fFlt).can = s.can := rfl
@[simp] theorem State.modFlt_bid : (s.modFlt fFlt).bid = s.bid := rfl
@[simp] theorem State.modFlt_nrg : (s.modFlt fFlt).nrg = s.nrg := rfl
@[simp] theorem State.modFlt_fio : (s.modFlt fFlt).fio = s.fio := rfl
@[simp] theorem State.modFlt_hdl : (s.modFlt fFlt).hdl = s.hdl := rfl
@[simp] theorem State.modFlt_pair : (s.modFlt fFlt).pair = s.pair := rfl
@[simp] theorem State.modFlt_rcd : (s.modFlt fFlt).rcd = s.rcd := rfl
@[simp] theorem State.modFlt_loft : (s.modFlt fFlt).loft = s.loft := rfl
@[simp] theorem State.modFlt_pwr : (s.modFlt fFlt).pwr = s.pwr := rfl
@[simp] theorem State.modFlt_hlk : (s.modFlt fFlt).hlk = s.hlk := rfl
@[simp] theorem State.modFlt_sdo : (s.modFlt fFlt).sdo = s.sdo := rfl
@[simp] theorem State.modFlt_cia : (s.modFlt fFlt).cia = s.cia := rfl
@[simp] theorem State.modFlt_raised : (s.modFlt fFlt).raised = s.raised := rfl
@[simp] theorem State.modFlt_ctlData : (s.modFlt fFlt).ctlData = s.ctlData := rfl
@[simp] theorem State.modFlt_free : (s.modFlt fFlt).free = s.free := rfl
@[simp] theorem State.modFlt_pending : (s.modFlt fFlt).pending = s.pending := rfl
@[simp] theorem State.modFlt_flt : (s.modFlt fFlt).flt = fFlt s.flt := rfl

@[simp] theorem State.modRec_id : (s.modRec fRec).id = s.id := rfl
@[simp] theorem State.modRec_mem : (s.modRec fRec).mem = s.mem := rfl
@[simp] theorem State.modRec_regs : (s.modRec fRec).regs = s.regs := rfl
@[simp] theorem State.modRec_pend : (s.modRec fRec).pend = s.pend := rfl
@[simp] theorem State.modRec_smem : (s.modRec fRec).smem = s.smem := rfl
@[simp] theorem State.modRec_intp : (s.modRec fRec).intp = s.intp := rfl
@[simp] theorem State.modRec_frm : (s.modRec fRec).frm = s.frm := rfl
@[simp] theorem State.modRec_ecyc : (s.modRec fRec).ecyc = s.ecyc := rfl
@[simp] theorem State.modRec_cyc : (s.modRec fRec).cyc = s.cyc := rfl
@[simp] theorem State.modRec_sch : (s.modRec fRec).sch = s.sch := rfl
@[simp] theorem State.modRec_hops : (s.modRec fRec).hops = s.hops := rfl
@[simp] theorem State.modRec_fb : (s.modRec fRec).fb = s.fb := rfl
@[simp] theorem State.modRec_ax : (s.modRec fRec).ax = s.ax := rfl
@[simp] theorem State.modRec_drv : (s.modRec fRec).drv = s.drv := rfl
@[simp] theorem State.modRec_dor : (s.modRec fRec).dor = s.dor := rfl
@[simp] theorem State.modRec_thr : (s.modRec fRec).thr = s.thr := rfl
@[simp] theorem State.modRec_stp : (s.modRec fRec).stp = s.stp := rfl
@[simp] theorem State.modRec_can : (s.modRec fRec).can = s.can := rfl
@[simp] theorem State.modRec_bid : (s.modRec fRec).bid = s.bid := rfl
@[simp] theorem State.modRec_nrg : (s.modRec fRec).nrg = s.nrg := rfl
@[simp] theorem State.modRec_fio : (s.modRec fRec).fio = s.fio := rfl
@[simp] theorem State.modRec_hdl : (s.modRec fRec).hdl = s.hdl := rfl
@[simp] theorem State.modRec_pair : (s.modRec fRec).pair = s.pair := rfl
@[simp] theorem State.modRec_flt : (s.modRec fRec).flt = s.flt := rfl
@[simp] theorem State.modRec_loft : (s.modRec fRec).loft = s.loft := rfl
@[simp] theorem State.modRec_pwr : (s.modRec fRec).pwr = s.pwr := rfl
@[simp] theorem State.modRec_hlk : (s.modRec fRec).hlk = s.hlk := rfl
@[simp] theorem State.modRec_sdo : (s.modRec fRec).sdo = s.sdo := rfl
@[simp] theorem State.modRec_cia : (s.modRec fRec).cia = s.cia := rfl
@[simp] theorem State.modRec_raised : (s.modRec fRec).raised = s.raised := rfl
@[simp] theorem State.modRec_ctlData : (s.modRec fRec).ctlData = s.ctlData := rfl
@[simp] theorem State.modRec_free : (s.modRec fRec).free = s.free := rfl
@[simp] theorem State.modRec_pending : (s.modRec fRec).pending = s.pending := rfl
@[simp] theorem State.modRec_rcd : (s.modRec fRec).rcd = fRec s.rcd := rfl

@[simp] theorem State.modLoft_id : (s.modLoft fLoft).id = s.id := rfl
@[simp] theorem State.modLoft_mem : (s.modLoft fLoft).mem = s.mem := rfl
@[simp] theorem State.modLoft_regs : (s.modLoft fLoft).regs = s.regs := rfl
@[simp] theorem State.modLoft_pend : (s.modLoft fLoft).pend = s.pend := rfl
@[simp] theorem State.modLoft_smem : (s.modLoft fLoft).smem = s.smem := rfl
@[simp] theorem State.modLoft_intp : (s.modLoft fLoft).intp = s.intp := rfl
@[simp] theorem State.modLoft_frm : (s.modLoft fLoft).frm = s.frm := rfl
@[simp] theorem State.modLoft_ecyc : (s.modLoft fLoft).ecyc = s.ecyc := rfl
@[simp] theorem State.modLoft_cyc : (s.modLoft fLoft).cyc = s.cyc := rfl
@[simp] theorem State.modLoft_sch : (s.modLoft fLoft).sch = s.sch := rfl
@[simp] theorem State.modLoft_hops : (s.modLoft fLoft).hops = s.hops := rfl
@[simp] theorem State.modLoft_fb : (s.modLoft fLoft).fb = s.fb := rfl
@[simp] theorem State.modLoft_ax : (s.modLoft fLoft).ax = s.ax := rfl
@[simp] theorem State.modLoft_drv : (s.modLoft fLoft).drv = s.drv := rfl
@[simp] theorem State.modLoft_dor : (s.modLoft fLoft).dor = s.dor := rfl
@[simp] theorem State.modLoft_thr : (s.modLoft fLoft).thr = s.thr := rfl
@[simp] theorem State.modLoft_stp : (s.modLoft fLoft).stp = s.stp := rfl
@[simp] theorem State.modLoft_can : (s.modLoft fLoft).can = s.can := rfl
@[simp] theorem State.modLoft_bid : (s.modLoft fLoft).bid = s.bid := rfl
@[simp] theorem State.modLoft_nrg : (s.modLoft fLoft).nrg = s.nrg := rfl
@[simp] theorem State.modLoft_fio : (s.modLoft fLoft).fio = s.fio := rfl
@[simp] theorem State.modLoft_hdl : (s.modLoft fLoft).hdl = s.hdl := rfl
@[simp] theorem State.modLoft_pair : (s.modLoft fLoft).pair = s.pair := rfl
@[simp] theorem State.modLoft_flt : (s.modLoft fLoft).flt = s.flt := rfl
@[simp] theorem State.modLoft_rcd : (s.modLoft fLoft).rcd = s.rcd := rfl
@[simp] theorem State.modLoft_pwr : (s.modLoft fLoft).pwr = s.pwr := rfl
@[simp] theorem State.modLoft_hlk : (s.modLoft fLoft).hlk = s.hlk := rfl
@[simp] theorem State.modLoft_sdo : (s.modLoft fLoft).sdo = s.sdo := rfl
@[simp] theorem State.modLoft_cia : (s.modLoft fLoft).cia = s.cia := rfl
@[simp] theorem State.modLoft_raised : (s.modLoft fLoft).raised = s.raised := rfl
@[simp] theorem State.modLoft_ctlData : (s.modLoft fLoft).ctlData = s.ctlData := rfl
@[simp] theorem State.modLoft_free : (s.modLoft fLoft).free = s.free := rfl
@[simp] theorem State.modLoft_pending : (s.modLoft fLoft).pending = s.pending := rfl
@[simp] theorem State.modLoft_loft : (s.modLoft fLoft).loft = fLoft s.loft := rfl

@[simp] theorem State.modPwr_id : (s.modPwr fPwr).id = s.id := rfl
@[simp] theorem State.modPwr_mem : (s.modPwr fPwr).mem = s.mem := rfl
@[simp] theorem State.modPwr_regs : (s.modPwr fPwr).regs = s.regs := rfl
@[simp] theorem State.modPwr_pend : (s.modPwr fPwr).pend = s.pend := rfl
@[simp] theorem State.modPwr_smem : (s.modPwr fPwr).smem = s.smem := rfl
@[simp] theorem State.modPwr_intp : (s.modPwr fPwr).intp = s.intp := rfl
@[simp] theorem State.modPwr_frm : (s.modPwr fPwr).frm = s.frm := rfl
@[simp] theorem State.modPwr_ecyc : (s.modPwr fPwr).ecyc = s.ecyc := rfl
@[simp] theorem State.modPwr_cyc : (s.modPwr fPwr).cyc = s.cyc := rfl
@[simp] theorem State.modPwr_sch : (s.modPwr fPwr).sch = s.sch := rfl
@[simp] theorem State.modPwr_hops : (s.modPwr fPwr).hops = s.hops := rfl
@[simp] theorem State.modPwr_fb : (s.modPwr fPwr).fb = s.fb := rfl
@[simp] theorem State.modPwr_ax : (s.modPwr fPwr).ax = s.ax := rfl
@[simp] theorem State.modPwr_drv : (s.modPwr fPwr).drv = s.drv := rfl
@[simp] theorem State.modPwr_dor : (s.modPwr fPwr).dor = s.dor := rfl
@[simp] theorem State.modPwr_thr : (s.modPwr fPwr).thr = s.thr := rfl
@[simp] theorem State.modPwr_stp : (s.modPwr fPwr).stp = s.stp := rfl
@[simp] theorem State.modPwr_can : (s.modPwr fPwr).can = s.can := rfl
@[simp] theorem State.modPwr_bid : (s.modPwr fPwr).bid = s.bid := rfl
@[simp] theorem State.modPwr_nrg : (s.modPwr fPwr).nrg = s.nrg := rfl
@[simp] theorem State.modPwr_fio : (s.modPwr fPwr).fio = s.fio := rfl
@[simp] theorem State.modPwr_hdl : (s.modPwr fPwr).hdl = s.hdl := rfl
@[simp] theorem State.modPwr_pair : (s.modPwr fPwr).pair = s.pair := rfl
@[simp] theorem State.modPwr_flt : (s.modPwr fPwr).flt = s.flt := rfl
@[simp] theorem State.modPwr_rcd : (s.modPwr fPwr).rcd = s.rcd := rfl
@[simp] theorem State.modPwr_loft : (s.modPwr fPwr).loft = s.loft := rfl
@[simp] theorem State.modPwr_hlk : (s.modPwr fPwr).hlk = s.hlk := rfl
@[simp] theorem State.modPwr_sdo : (s.modPwr fPwr).sdo = s.sdo := rfl
@[simp] theorem State.modPwr_cia : (s.modPwr fPwr).cia = s.cia := rfl
@[simp] theorem State.modPwr_raised : (s.modPwr fPwr).raised = s.raised := rfl
@[simp] theorem State.modPwr_ctlData : (s.modPwr fPwr).ctlData = s.ctlData := rfl
@[simp] theorem State.modPwr_free : (s.modPwr fPwr).free = s.free := rfl
@[simp] theorem State.modPwr_pending : (s.modPwr fPwr).pending = s.pending := rfl
@[simp] theorem State.modPwr_pwr : (s.modPwr fPwr).pwr = fPwr s.pwr := rfl

@[simp] theorem State.modHlk_id : (s.modHlk fHlk).id = s.id := rfl
@[simp] theorem State.modHlk_mem : (s.modHlk fHlk).mem = s.mem := rfl
@[simp] theorem State.modHlk_regs : (s.modHlk fHlk).regs = s.regs := rfl
@[simp] theorem State.modHlk_pend : (s.modHlk fHlk).pend = s.pend := rfl
@[simp] theorem State.modHlk_smem : (s.modHlk fHlk).smem = s.smem := rfl
@[simp] theorem State.modHlk_intp : (s.modHlk fHlk).intp = s.intp := rfl
@[simp] theorem State.modHlk_frm : (s.modHlk fHlk).frm = s.frm := rfl
@[simp] theorem State.modHlk_ecyc : (s.modHlk fHlk).ecyc = s.ecyc := rfl
@[simp] theorem State.modHlk_cyc : (s.modHlk fHlk).cyc = s.cyc := rfl
@[simp] theorem State.modHlk_sch : (s.modHlk fHlk).sch = s.sch := rfl
@[simp] theorem State.modHlk_hops : (s.modHlk fHlk).hops = s.hops := rfl
@[simp] theorem State.modHlk_fb : (s.modHlk fHlk).fb = s.fb := rfl
@[simp] theorem State.modHlk_ax : (s.modHlk fHlk).ax = s.ax := rfl
@[simp] theorem State.modHlk_drv : (s.modHlk fHlk).drv = s.drv := rfl
@[simp] theorem State.modHlk_dor : (s.modHlk fHlk).dor = s.dor := rfl
@[simp] theorem State.modHlk_thr : (s.modHlk fHlk).thr = s.thr := rfl
@[simp] theorem State.modHlk_stp : (s.modHlk fHlk).stp = s.stp := rfl
@[simp] theorem State.modHlk_can : (s.modHlk fHlk).can = s.can := rfl
@[simp] theorem State.modHlk_bid : (s.modHlk fHlk).bid = s.bid := rfl
@[simp] theorem State.modHlk_nrg : (s.modHlk fHlk).nrg = s.nrg := rfl
@[simp] theorem State.modHlk_fio : (s.modHlk fHlk).fio = s.fio := rfl
@[simp] theorem State.modHlk_hdl : (s.modHlk fHlk).hdl = s.hdl := rfl
@[simp] theorem State.modHlk_pair : (s.modHlk fHlk).pair = s.pair := rfl
@[simp] theorem State.modHlk_flt : (s.modHlk fHlk).flt = s.flt := rfl
@[simp] theorem State.modHlk_rcd : (s.modHlk fHlk).rcd = s.rcd := rfl
@[simp] theorem State.modHlk_loft : (s.modHlk fHlk).loft = s.loft := rfl
@[simp] theorem State.modHlk_pwr : (s.modHlk fHlk).pwr = s.pwr := rfl
@[simp] theorem State.modHlk_sdo : (s.modHlk fHlk).sdo = s.sdo := rfl
@[simp] theorem State.modHlk_cia : (s.modHlk fHlk).cia = s.cia := rfl
@[simp] theorem State.modHlk_raised : (s.modHlk fHlk).raised = s.raised := rfl
@[simp] theorem State.modHlk_ctlData : (s.modHlk fHlk).ctlData = s.ctlData := rfl
@[simp] theorem State.modHlk_free : (s.modHlk fHlk).free = s.free := rfl
@[simp] theorem State.modHlk_pending : (s.modHlk fHlk).pending = s.pending := rfl
@[simp] theorem State.modHlk_hlk : (s.modHlk fHlk).hlk = fHlk s.hlk := rfl

@[simp] theorem State.modSdo_id : (s.modSdo a fSdo).id = s.id := rfl
@[simp] theorem State.modSdo_mem : (s.modSdo a fSdo).mem = s.mem := rfl
@[simp] theorem State.modSdo_regs : (s.modSdo a fSdo).regs = s.regs := rfl
@[simp] theorem State.modSdo_pend : (s.modSdo a fSdo).pend = s.pend := rfl
@[simp] theorem State.modSdo_smem : (s.modSdo a fSdo).smem = s.smem := rfl
@[simp] theorem State.modSdo_intp : (s.modSdo a fSdo).intp = s.intp := rfl
@[simp] theorem State.modSdo_frm : (s.modSdo a fSdo).frm = s.frm := rfl
@[simp] theorem State.modSdo_ecyc : (s.modSdo a fSdo).ecyc = s.ecyc := rfl
@[simp] theorem State.modSdo_cyc : (s.modSdo a fSdo).cyc = s.cyc := rfl
@[simp] theorem State.modSdo_sch : (s.modSdo a fSdo).sch = s.sch := rfl
@[simp] theorem State.modSdo_hops : (s.modSdo a fSdo).hops = s.hops := rfl
@[simp] theorem State.modSdo_fb : (s.modSdo a fSdo).fb = s.fb := rfl
@[simp] theorem State.modSdo_ax : (s.modSdo a fSdo).ax = s.ax := rfl
@[simp] theorem State.modSdo_drv : (s.modSdo a fSdo).drv = s.drv := rfl
@[simp] theorem State.modSdo_dor : (s.modSdo a fSdo).dor = s.dor := rfl
@[simp] theorem State.modSdo_thr : (s.modSdo a fSdo).thr = s.thr := rfl
@[simp] theorem State.modSdo_stp : (s.modSdo a fSdo).stp = s.stp := rfl
@[simp] theorem State.modSdo_can : (s.modSdo a fSdo).can = s.can := rfl
@[simp] theorem State.modSdo_bid : (s.modSdo a fSdo).bid = s.bid := rfl
@[simp] theorem State.modSdo_nrg : (s.modSdo a fSdo).nrg = s.nrg := rfl
@[simp] theorem State.modSdo_fio : (s.modSdo a fSdo).fio = s.fio := rfl
@[simp] theorem State.modSdo_hdl : (s.modSdo a fSdo).hdl = s.hdl := rfl
@[simp] theorem State.modSdo_pair : (s.modSdo a fSdo).pair = s.pair := rfl
@[simp] theorem State.modSdo_flt : (s.modSdo a fSdo).flt = s.flt := rfl
@[simp] theorem State.modSdo_rcd : (s.modSdo a fSdo).rcd = s.rcd := rfl
@[simp] theorem State.modSdo_loft : (s.modSdo a fSdo).loft = s.loft := rfl
@[simp] theorem State.modSdo_pwr : (s.modSdo a fSdo).pwr = s.pwr := rfl
@[simp] theorem State.modSdo_hlk : (s.modSdo a fSdo).hlk = s.hlk := rfl
@[simp] theorem State.modSdo_cia : (s.modSdo a fSdo).cia = s.cia := rfl
@[simp] theorem State.modSdo_raised : (s.modSdo a fSdo).raised = s.raised := rfl
@[simp] theorem State.modSdo_ctlData : (s.modSdo a fSdo).ctlData = s.ctlData := rfl
@[simp] theorem State.modSdo_free : (s.modSdo a fSdo).free = s.free := rfl
@[simp] theorem State.modSdo_pending : (s.modSdo a fSdo).pending = s.pending := rfl

@[simp] theorem State.modCia_id : (s.modCia fCia).id = s.id := rfl
@[simp] theorem State.modCia_mem : (s.modCia fCia).mem = s.mem := rfl
@[simp] theorem State.modCia_regs : (s.modCia fCia).regs = s.regs := rfl
@[simp] theorem State.modCia_pend : (s.modCia fCia).pend = s.pend := rfl
@[simp] theorem State.modCia_smem : (s.modCia fCia).smem = s.smem := rfl
@[simp] theorem State.modCia_intp : (s.modCia fCia).intp = s.intp := rfl
@[simp] theorem State.modCia_frm : (s.modCia fCia).frm = s.frm := rfl
@[simp] theorem State.modCia_ecyc : (s.modCia fCia).ecyc = s.ecyc := rfl
@[simp] theorem State.modCia_cyc : (s.modCia fCia).cyc = s.cyc := rfl
@[simp] theorem State.modCia_sch : (s.modCia fCia).sch = s.sch := rfl
@[simp] theorem State.modCia_hops : (s.modCia fCia).hops = s.hops := rfl
@[simp] theorem State.modCia_fb : (s.modCia fCia).fb = s.fb := rfl
@[simp] theorem State.modCia_ax : (s.modCia fCia).ax = s.ax := rfl
@[simp] theorem State.modCia_drv : (s.modCia fCia).drv = s.drv := rfl
@[simp] theorem State.modCia_dor : (s.modCia fCia).dor = s.dor := rfl
@[simp] theorem State.modCia_thr : (s.modCia fCia).thr = s.thr := rfl
@[simp] theorem State.modCia_stp : (s.modCia fCia).stp = s.stp := rfl
@[simp] theorem State.modCia_can : (s.modCia fCia).can = s.can := rfl
@[simp] theorem State.modCia_bid : (s.modCia fCia).bid = s.bid := rfl
@[simp] theorem State.modCia_nrg : (s.modCia fCia).nrg = s.nrg := rfl
@[simp] theorem State.modCia_fio : (s.modCia fCia).fio = s.fio := rfl
@[simp] theorem State.modCia_hdl : (s.modCia fCia).hdl = s.hdl := rfl
@[simp] theorem State.modCia_pair : (s.modCia fCia).pair = s.pair := rfl
@[simp] theorem State.modCia_flt : (s.modCia fCia).flt = s.flt := rfl
@[simp] theorem State.modCia_rcd : (s.modCia fCia).rcd = s.rcd := rfl
@[simp] theorem State.modCia_loft : (s.modCia fCia).loft = s.loft := rfl
@[simp] theorem State.modCia_pwr : (s.modCia fCia).pwr = s.pwr := rfl
@[simp] theorem State.modCia_hlk : (s.modCia fCia).hlk = s.hlk := rfl
@[simp] theorem State.modCia_sdo : (s.modCia fCia).sdo = s.sdo := rfl
@[simp] theorem State.modCia_raised : (s.modCia fCia).raised = s.raised := rfl
@[simp] theorem State.modCia_ctlData : (s.modCia fCia).ctlData = s.ctlData := rfl
@[simp] theorem State.modCia_free : (s.modCia fCia).free = s.free := rfl
@[simp] theorem State.modCia_pending : (s.modCia fCia).pending = s.pending := rfl
@[simp] theorem State.modCia_cia : (s.modCia fCia).cia = fCia s.cia := rfl

@[simp] theorem State.pub_pend : (s.pub a v).pend = s.pend ++ [(a, BitVec.allOnes 32, v)] := rfl
@[simp] theorem State.pubF_pend : (s.pubF a g x).pend = s.pend ++ [(a, g.mask, setF 0 g x)] := rfl
@[simp] theorem State.sput_smem : (s.sput a v).smem = s.smem ++ [(a, v)] := rfl
@[simp] theorem State.at_cyc : (s.at x).cyc = x := rfl
@[simp] theorem State.irqC_intp : (s.irqC a x).intp = s.intp ++ [(a, x)] := rfl
@[simp] theorem State.raise_raised : (s.raise a x y).raised = s.raised ++ [⟨a, x, y⟩] := rfl
@[simp] theorem State.setBytes_mem : (s.setBytes a bs).mem = putBytes s.mem a bs := rfl

end Sys2Proof.Machine
end

