-- ==== Sys2Proof/Laws/Table.lean ====
section
/-! SUPPORT. Laws of the sparse tables and of the canonical form of memory. -/

namespace Sys2Proof.Machine

/-! ### Lookup after a change -/

theorem aget_aput_same {α : Type} (l : List (Nat × α)) (a : Nat) (x : α) : aget (aput l a x) a = some x := by
  induction l with
  | nil => simp [aput, aget]
  | cons p t ih =>
    obtain ⟨k, v⟩ := p
    simp only [aput]
    split
    · simp [aget]
    · split
      · simp [aget]
      · simp [aget, *]

theorem aget_aput_ne {α : Type} (l : List (Nat × α)) (a b : Nat) (x : α) (h : a ≠ b) : aget (aput l a x) b = aget l b := by
  induction l with
  | nil => simp [aput, aget, h]
  | cons p t ih =>
    obtain ⟨k, v⟩ := p
    simp only [aput]
    split
    · subst_vars; simp [aget, h]
    · split
      · simp [aget, h]
      · simp [aget, ih]

theorem aget_adel_same {α : Type} (l : List (Nat × α)) (a : Nat) : aget (adel l a) a = none := by
  induction l with
  | nil => simp [adel, aget]
  | cons p t ih =>
    obtain ⟨k, v⟩ := p
    simp only [adel]
    split
    · exact ih
    · simp [aget, *]

theorem aget_adel_ne {α : Type} (l : List (Nat × α)) (a b : Nat) (h : a ≠ b) : aget (adel l a) b = aget l b := by
  induction l with
  | nil => simp [adel, aget]
  | cons p t ih =>
    obtain ⟨k, v⟩ := p
    simp only [adel]
    split
    · subst_vars; simp [aget, ih, h]
    · simp [aget, ih]

/-! ### Rising keys -/

theorem risingFrom_mono {α : Type} (l : List (Nat × α)) (a b : Nat) (h : a ≤ b) (hr : risingFrom b l = true) : risingFrom a l = true := by
  cases l with
  | nil => rfl
  | cons p t =>
    obtain ⟨k, v⟩ := p
    simp only [risingFrom, Bool.and_eq_true, decide_eq_true_eq] at *
    exact ⟨by omega, hr.2⟩

theorem risingFrom_aput {α : Type} (l : List (Nat × α)) (a b : Nat) (x : α) (h : b ≤ a) (hr : risingFrom b l = true) :
    risingFrom b (aput l a x) = true := by
  induction l generalizing b with
  | nil => simp [aput, risingFrom, h]
  | cons p t ih =>
    obtain ⟨k, v⟩ := p
    simp only [risingFrom, Bool.and_eq_true, decide_eq_true_eq] at hr
    simp only [aput]
    split
    · subst_vars; simp [risingFrom, hr]
    · split
      · simp only [risingFrom, Bool.and_eq_true, decide_eq_true_eq]
        exact ⟨h, by omega, hr.2⟩
      · simp only [risingFrom, Bool.and_eq_true, decide_eq_true_eq]
        exact ⟨hr.1, ih _ (by omega) hr.2⟩

theorem risingFrom_adel {α : Type} (l : List (Nat × α)) (a b : Nat) (hr : risingFrom b l = true) : risingFrom b (adel l a) = true := by
  induction l generalizing b with
  | nil => rfl
  | cons p t ih =>
    obtain ⟨k, v⟩ := p
    simp only [risingFrom, Bool.and_eq_true, decide_eq_true_eq] at hr
    simp only [adel]
    split
    · exact ih _ (risingFrom_mono _ _ _ (by omega) hr.2)
    · simp only [risingFrom, Bool.and_eq_true, decide_eq_true_eq]
      exact ⟨hr.1, ih _ hr.2⟩

theorem risingFrom_filter {α : Type} (l : List (Nat × α)) (p : Nat × α → Bool) (b : Nat) (hr : risingFrom b l = true) :
    risingFrom b (l.filter p) = true := by
  induction l generalizing b with
  | nil => rfl
  | cons q t ih =>
    obtain ⟨k, v⟩ := q
    simp only [risingFrom, Bool.and_eq_true, decide_eq_true_eq] at hr
    simp only [List.filter_cons]
    split
    · simp only [risingFrom, Bool.and_eq_true, decide_eq_true_eq]
      exact ⟨hr.1, ih _ hr.2⟩
    · exact ih _ (risingFrom_mono _ _ _ (by omega) hr.2)

/-! ### What a table lists -/

theorem mem_aput {α : Type} (l : List (Nat × α)) (a : Nat) (x : α) (p : Nat × α) (h : p ∈ aput l a x) : p = (a, x) ∨ p ∈ l := by
  induction l with
  | nil => exact .inl (by simpa [aput] using h)
  | cons q t ih =>
    obtain ⟨k, v⟩ := q
    simp only [aput] at h
    split at h
    · rcases List.mem_cons.1 h with h | h
      · exact .inl h
      · exact .inr (List.mem_cons_of_mem _ h)
    · split at h
      · rcases List.mem_cons.1 h with h | h
        · exact .inl h
        · exact .inr h
      · rcases List.mem_cons.1 h with h | h
        · exact .inr (h ▸ List.mem_cons_self)
        · exact (ih h).imp id (List.mem_cons_of_mem _)

theorem mem_adel {α : Type} (l : List (Nat × α)) (a : Nat) (p : Nat × α) (h : p ∈ adel l a) : p ∈ l := by
  induction l with
  | nil => simp [adel] at h
  | cons q t ih =>
    obtain ⟨k, v⟩ := q
    simp only [adel] at h
    split at h
    · exact List.mem_cons_of_mem _ (ih h)
    · simp only [List.mem_cons] at h ⊢
      exact h.imp id ih

/-! ### Memory keeps its canonical form -/

theorem memory_wf_nil : Memory.wf [] = true := rfl

theorem memory_wf_putByte (l : List Host.Cell) (a b : Nat) (h : Memory.wf l = true) : Memory.wf (putByte l a b) = true := by
  by_cases ha : inMem a = true
  case neg => simpa [putByte, ha] using h
  simp only [putByte, ha, Bool.not_true, Bool.false_eq_true, if_false]
  simp only [Memory.wf, inMem, smemEnd, Bool.and_eq_true, List.all_eq_true, decide_eq_true_eq, bne_iff_ne] at *
  obtain ⟨hr, hl⟩ := h
  split
  · exact ⟨risingFrom_adel _ _ _ hr, fun x hx => hl x (mem_adel _ _ _ hx)⟩
  · rename_i hb
    refine ⟨risingFrom_aput _ _ _ _ ha.1 hr, fun x hx => ?_⟩
    rcases mem_aput _ _ _ _ hx with rfl | hx
    · refine ⟨fun hz => hb ?_, ha.2⟩
      have := congrArg BitVec.toNat hz
      simpa using this
    · exact hl x hx

theorem memory_wf_putBytes (bs : List Nat) (l : List Host.Cell) (a : Nat) (h : Memory.wf l = true) : Memory.wf (putBytes l a bs) = true := by
  induction bs generalizing l a with
  | nil => exact h
  | cons b t ih => exact ih _ _ (memory_wf_putByte _ _ _ h)

theorem memory_wf_clearRange (l : List Host.Cell) (lo hi : Nat) (h : Memory.wf l = true) : Memory.wf (clearRange l lo hi) = true := by
  simp only [Memory.wf, Bool.and_eq_true, List.all_eq_true] at *
  exact ⟨risingFrom_filter _ _ _ h.1, fun x hx => h.2 x ((List.mem_filter.1 hx).1)⟩

/-- A byte read after one byte was set: the byte written, or what it was. -/
theorem get_putByte (l : List Host.Cell) (a b x : Nat) :
    ((aget (putByte l a b) x).map (·.toNat)).getD 0 = if x = a ∧ inMem a = true then b % 256 else ((aget l x).map (·.toNat)).getD 0 := by
  by_cases ha : inMem a = true
  case neg => simp [putByte, ha]
  simp only [putByte, ha, Bool.not_true, Bool.false_eq_true, if_false, and_true]
  split
  · split
    · subst_vars; rw [aget_adel_same]; simp; omega
    · rw [aget_adel_ne _ _ _ (by omega)]
  · split
    · subst_vars; rw [aget_aput_same]; simp
    · rw [aget_aput_ne _ _ _ _ (by omega)]

/-- A byte outside the bytes set keeps its value. -/
theorem get_putBytes_out (bs : List Nat) (l : List Host.Cell) (a x : Nat) (h : x < a ∨ a + bs.length ≤ x) :
    ((aget (putBytes l a bs) x).map (·.toNat)).getD 0 = ((aget l x).map (·.toNat)).getD 0 := by
  induction bs generalizing l a with
  | nil => rfl
  | cons b t ih =>
    simp only [List.length_cons] at h
    rw [putBytes, ih _ _ (by omega), get_putByte, if_neg (by omega)]

/-- The bytes set are read back. -/
theorem get_putBytes_in (bs : List Nat) (l : List Host.Cell) (a k : Nat) (h : k < bs.length) (ha : inMem (a + k) = true) :
    ((aget (putBytes l a bs) (a + k)).map (·.toNat)).getD 0 = bs.getD k 0 % 256 := by
  induction bs generalizing l a k with
  | nil => simp at h
  | cons b t ih =>
    cases k with
    | zero => rw [putBytes, get_putBytes_out _ _ _ _ (by omega), get_putByte, if_pos ⟨rfl, ha⟩]; simp
    | succ k =>
      simp only [List.length_cons] at h
      rw [putBytes, show a + (k + 1) = a + 1 + k by omega, ih _ _ _ (by omega) (by rwa [show a + 1 + k = a + (k + 1) by omega])]
      simp

end Sys2Proof.Machine
end

