-- ==== Sys2Proof/Laws/Register.lean ====
section
/-! SUPPORT. Laws of bit fields and of the register file: what a register or field reads as after a write. -/

namespace Sys2Proof

/-! ### Bit fields -/

theorem getF_testBit (v : Word) (f : Fld) (i : Nat) : (getF v f).testBit i = (decide (i < f.w) && v.getLsbD (f.lo + i)) := by
  simp [getF, Nat.testBit_mod_two_pow, Nat.testBit_shiftRight, BitVec.getLsbD]

theorem setF_getLsbD (v : Word) (f : Fld) (x i : Nat) (hi : i < 32) :
    (setF v f x).getLsbD i = if f.lo ≤ i ∧ i < f.lo + f.w then (x % 2 ^ f.w).testBit (i - f.lo) else v.getLsbD i := by
  simp only [setF, Fld.mask, BitVec.getLsbD_or, BitVec.getLsbD_and, BitVec.getLsbD_not, BitVec.getLsbD_ofNat, hi, decide_true, Bool.true_and,
    Nat.testBit_shiftLeft, Nat.testBit_two_pow_sub_one, Nat.testBit_mod_two_pow]
  by_cases h1 : f.lo ≤ i
  · by_cases h2 : i < f.lo + f.w
    · have h3 : i - f.lo < f.w := by omega
      simp [h1, h2, h3]
    · have h3 : ¬ i - f.lo < f.w := by omega
      simp [h1, h2, h3]
  · simp [h1]

/-- A field reads back as written. -/
theorem getF_setF_same (v : Word) (f : Fld) (x : Nat) (h : f.lo + f.w ≤ 32) : getF (setF v f x) f = x % 2 ^ f.w := by
  apply Nat.eq_of_testBit_eq
  intro i
  rw [getF_testBit]
  by_cases hi : i < f.w
  · rw [setF_getLsbD _ _ _ _ (by omega), if_pos (by omega)]
    simp [hi]
  · simp [hi]

/-- Writing a field leaves a field apart from it. -/
theorem getF_setF_apart (v : Word) (f g : Fld) (x : Nat) (hg : g.lo + g.w ≤ 32) (h : f.lo + f.w ≤ g.lo ∨ g.lo + g.w ≤ f.lo) :
    getF (setF v f x) g = getF v g := by
  apply Nat.eq_of_testBit_eq
  intro i
  rw [getF_testBit, getF_testBit]
  by_cases hi : i < g.w
  · rw [setF_getLsbD _ _ _ _ (by omega), if_neg (by omega)]
  · simp [hi]

theorem getF_lt (v : Word) (f : Fld) : getF v f < 2 ^ f.w := Nat.mod_lt _ (Nat.two_pow_pos _)

end Sys2Proof

namespace Sys2Proof.Machine

/-! ### The register file -/

/-- A register reads as written; all others keep their value. -/
theorem State.rd_wr (s : State) (a b : Nat) (v : Word) : (s.wr a v).rd b = if b = a then v else s.rd b := by
  simp only [State.rd, State.wr, putReg]
  split
  · rename_i h
    split
    · rename_i hb; subst hb; rw [aget_adel_same, h]; rfl
    · rename_i hb; rw [aget_adel_ne _ _ _ (Ne.symm hb)]
  · split
    · rename_i hb; subst hb; rw [aget_aput_same]; rfl
    · rename_i hb; rw [aget_aput_ne _ _ _ _ (Ne.symm hb)]

@[simp] theorem State.rd_wr_same (s : State) (a : Nat) (v : Word) : (s.wr a v).rd a = v := by simp [State.rd_wr]

theorem State.rd_wr_ne (s : State) (a b : Nat) (v : Word) (h : b ≠ a) : (s.wr a v).rd b = s.rd b := by simp [State.rd_wr, h]

/-- A field write changes its field of its register. -/
theorem State.rd_wf (s : State) (a b : Nat) (f : Fld) (x : Nat) : (s.wf a f x).rd b = if b = a then setF (s.rd a) f x else s.rd b := by
  simp only [State.wf, State.rd_wr]

@[simp] theorem State.rd_wf_same (s : State) (a : Nat) (f : Fld) (x : Nat) : (s.wf a f x).rd a = setF (s.rd a) f x := by simp [State.rd_wf]

theorem State.rd_wf_ne (s : State) (a b : Nat) (f : Fld) (x : Nat) (h : b ≠ a) : (s.wf a f x).rd b = s.rd b := by simp [State.rd_wf, h]

/-- The register file depends on nothing but its own list and the identity. -/
theorem State.rd_congr {s t : State} (hr : t.regs = s.regs) (hi : t.id = s.id) (b : Nat) : t.rd b = s.rd b := by
  simp [State.rd, hr, hi]

variable (s : State) (a b x y : Nat) (v : Word) (g : Fld) (bs : List Nat) (ws : List Word) (fSch : SchS → SchS) (fFb : FbS → FbS)
  (fAx : AxS → AxS) (fDrv : DrvS → DrvS) (fDor : DorS → DorS) (fThr : ThrS → ThrS) (fStp : StpS → StpS) (fCan : CanS → CanS)
  (fNrg : NrgS → NrgS) (fFio : FioS → FioS) (fHdl : HdlS → HdlS) (fPair : PairS → PairS) (fFlt : FltS → FltS) (fRec : RecS → RecS)
  (fLoft : LoftS → LoftS) (fPwr : PwrS → PwrS) (fHlk : HlkS → HlkS) (fSdo : SdoS → SdoS) (fCia : CiaS → CiaS)

@[simp] theorem State.rd_pub : (s.pub a v).rd b = s.rd b := rfl
@[simp] theorem State.rd_pubF : (s.pubF a g x).rd b = s.rd b := rfl
@[simp] theorem State.rd_sput : (s.sput a v).rd b = s.rd b := rfl
@[simp] theorem State.rd_setBytes : (s.setBytes a bs).rd b = s.rd b := rfl
@[simp] theorem State.rd_at : (s.at x).rd b = s.rd b := rfl
@[simp] theorem State.rd_irqC : (s.irqC a x).rd b = s.rd b := rfl
@[simp] theorem State.rd_raise : (s.raise a x y).rd b = s.rd b := rfl
@[simp] theorem State.rd_setHop : (s.setHop a ws).rd b = s.rd b := rfl
@[simp] theorem State.rd_modSch : (s.modSch fSch).rd b = s.rd b := rfl
@[simp] theorem State.rd_modFb : (s.modFb a fFb).rd b = s.rd b := rfl
@[simp] theorem State.rd_modAx : (s.modAx a fAx).rd b = s.rd b := rfl
@[simp] theorem State.rd_modDrv : (s.modDrv a fDrv).rd b = s.rd b := rfl
@[simp] theorem State.rd_modDor : (s.modDor a fDor).rd b = s.rd b := rfl
@[simp] theorem State.rd_modThr : (s.modThr fThr).rd b = s.rd b := rfl
@[simp] theorem State.rd_modStp : (s.modStp fStp).rd b = s.rd b := rfl
@[simp] theorem State.rd_modCan : (s.modCan a fCan).rd b = s.rd b := rfl
@[simp] theorem State.rd_modNrg : (s.modNrg fNrg).rd b = s.rd b := rfl
@[simp] theorem State.rd_modFio : (s.modFio fFio).rd b = s.rd b := rfl
@[simp] theorem State.rd_modHdl : (s.modHdl fHdl).rd b = s.rd b := rfl
@[simp] theorem State.rd_modPair : (s.modPair fPair).rd b = s.rd b := rfl
@[simp] theorem State.rd_modFlt : (s.modFlt fFlt).rd b = s.rd b := rfl
@[simp] theorem State.rd_modRec : (s.modRec fRec).rd b = s.rd b := rfl
@[simp] theorem State.rd_modLoft : (s.modLoft fLoft).rd b = s.rd b := rfl
@[simp] theorem State.rd_modPwr : (s.modPwr fPwr).rd b = s.rd b := rfl
@[simp] theorem State.rd_modHlk : (s.modHlk fHlk).rd b = s.rd b := rfl
@[simp] theorem State.rd_modSdo : (s.modSdo a fSdo).rd b = s.rd b := rfl
@[simp] theorem State.rd_modCia : (s.modCia fCia).rd b = s.rd b := rfl

/-- A free value advances the counter and nothing else. -/
theorem State.freeVal_eq : s.freeVal = (Config.freeWord s.free, { s with free := s.free + 1 }) := rfl

/-- Interrupt sources set bits of their group's cause register only (R613). -/
theorem State.irq_rd (h : ∀ g, b ≠ Addr.INT_CAUSE g) : (s.irq a x).rd b = s.rd b := by
  simp only [State.irq]
  split
  · exact State.rd_wf_ne _ _ _ _ _ (h a)
  · rfl

/-- A byte of memory after bytes were set: those inside read as written, all others as before. -/
theorem State.mb_setBytes (k : Nat) :
    (s.setBytes a bs).mb k = if a ≤ k ∧ k < a + bs.length ∧ inMem k = true then bs.getD (k - a) 0 % 256 else s.mb k := by
  by_cases h : a ≤ k ∧ k < a + bs.length
  · by_cases hk : inMem k = true
    · rw [if_pos ⟨h.1, h.2, hk⟩]
      have := get_putBytes_in bs s.mem a (k - a) (by omega) (by rwa [show a + (k - a) = k by omega])
      rwa [show a + (k - a) = k by omega] at this
    · rw [if_neg (by simp [hk])]
      simp only [State.mb, State.setBytes]
      clear h
      induction bs generalizing s a with
      | nil => rfl
      | cons b t ih =>
        have h2 := ih { s with mem := putByte s.mem a b } (a + 1)
        simp only [putBytes] at h2 ⊢
        rw [h2, get_putByte, if_neg (by rintro ⟨rfl, h⟩; exact hk h)]
  · rw [if_neg (by omega)]
    exact get_putBytes_out _ _ _ _ (by omega)

end Sys2Proof.Machine
end

