-- ==== Sys2Proof/Laws/Settle.lean ====
section
/-! SUPPORT. What the end of every command (`settle`) leaves in place, whatever the command raised: everything but the registers that
report faults, interrupts, records, claim and safe outputs, and the units that answer a fault. -/

namespace Sys2Proof.Machine

/-- What the end of a command never changes. -/
structure Keep (s t : State) : Prop where
  id   : t.id = s.id
  mem  : t.mem = s.mem
  pend : t.pend = s.pend
  smem : t.smem = s.smem
  intp : t.intp = s.intp
  frm  : t.frm = s.frm
  ecyc : t.ecyc = s.ecyc
  cyc  : t.cyc = s.cyc
  sch  : t.sch = s.sch
  hops : t.hops = s.hops
  fb   : t.fb = s.fb
  drv  : t.drv = s.drv
  dor  : ∀ d, d ≤ 4 → (t.dorS d).rest = (s.dorS d).rest
  thr  : t.thr = s.thr
  stp  : t.stp.rest = s.stp.rest
  bid  : t.bid = s.bid
  nrg  : t.nrg = s.nrg
  hdl  : t.hdl = s.hdl
  loft : t.loft = s.loft
  pwr  : t.pwr = s.pwr
  hlk  : t.hlk = s.hlk
  sdo  : t.sdo = s.sdo
  ctl  : t.ctlData = s.ctlData
  free : t.free = s.free
  fio  : t.fio.core = s.fio.core
  pair : t.pair.core = s.pair.core
  cia  : t.cia.core = s.cia.core
  can0 : t.canS 0 = s.canS 0
  can1 : (t.canS 1).core = (s.canS 1).core
  flt  : t.flt.core = s.flt.core
  rcd  : t.rcd.core = s.rcd.core
  tx   : s.pair.tx <+: t.pair.tx
  fst  : ∀ f : Fld, f.lo + f.w ≤ 32 → Fld.apart Fl.FIO_STAT_SAFEACT f → t.rf Addr.FIO_STAT f = s.rf Addr.FIO_STAT f
  pst  : ∀ f : Fld, f.lo + f.w ≤ 32 → Fld.apart Fl.PAIR_STAT_YIELD f → Fld.apart Fl.PAIR_STAT_ALLOW f → Fld.apart Fl.PAIR_STAT_LINECL f →
    t.rf Addr.PAIR_STAT f = s.rf Addr.PAIR_STAT f
  irq  : ∀ g b, g < 16 → b < 32 → s.rf (Addr.INT_CAUSE g) ⟨b, 1⟩ = 1 → t.rf (Addr.INT_CAUSE g) ⟨b, 1⟩ = 1
  rd   : ∀ b, ¬ settleReg b → t.rd b = s.rd b

theorem Keep.refl (s : State) : Keep s s := ⟨rfl, rfl, rfl, rfl, rfl, rfl, rfl, rfl, rfl, rfl, rfl, rfl, fun _ _ => rfl, rfl, rfl, rfl, rfl, rfl, rfl, rfl, rfl, rfl, rfl, rfl, rfl, rfl, rfl, rfl,
  rfl, rfl, rfl, List.prefix_refl _, fun _ _ _ => rfl, fun _ _ _ _ _ => rfl, fun _ _ _ _ h => h, fun _ _ => rfl⟩

theorem Keep.trans {s t u : State} (h : Keep s t) (k : Keep t u) : Keep s u :=
  ⟨k.id.trans h.id, k.mem.trans h.mem, k.pend.trans h.pend, k.smem.trans h.smem, k.intp.trans h.intp, k.frm.trans h.frm, k.ecyc.trans h.ecyc,
    k.cyc.trans h.cyc, k.sch.trans h.sch, k.hops.trans h.hops, k.fb.trans h.fb, k.drv.trans h.drv, fun d hd => (k.dor d hd).trans (h.dor d hd), k.thr.trans h.thr,
    k.stp.trans h.stp, k.bid.trans h.bid, k.nrg.trans h.nrg, k.hdl.trans h.hdl, k.loft.trans h.loft, k.pwr.trans h.pwr, k.hlk.trans h.hlk,
    k.sdo.trans h.sdo, k.ctl.trans h.ctl, k.free.trans h.free, k.fio.trans h.fio, k.pair.trans h.pair, k.cia.trans h.cia, k.can0.trans h.can0, k.can1.trans h.can1,
    k.flt.trans h.flt, k.rcd.trans h.rcd, h.tx.trans k.tx, fun f a b => (k.fst f a b).trans (h.fst f a b),
    fun f a b c d => (k.pst f a b c d).trans (h.pst f a b c d), fun g b hg hb x => k.irq g b hg hb (h.irq g b hg hb x), fun b hb => (k.rd b hb).trans (h.rd b hb)⟩

/-! ### Updates -/

section
variable (t : State)

theorem keep_wr (a : Nat) (v : Word) (ha : settleReg a) (h1 : a ≠ Addr.FIO_STAT) (h2 : a ≠ Addr.PAIR_STAT) (h3 : a < 0x40003040 ∨ 0x40003080 ≤ a) :
    Keep t (t.wr a v) :=
  ⟨rfl, rfl, rfl, rfl, rfl, rfl, rfl, rfl, rfl, rfl, rfl, rfl, fun _ _ => rfl, rfl, rfl, rfl, rfl, rfl, rfl, rfl, rfl, rfl, rfl, rfl, rfl, rfl, rfl, rfl, rfl, rfl, rfl, List.prefix_refl _,
    fun f _ _ => by simp only [State.rf]; rw [State.rd_wr_ne _ _ _ _ (Ne.symm h1)],
    fun f _ _ _ _ => by simp only [State.rf]; rw [State.rd_wr_ne _ _ _ _ (Ne.symm h2)],
    fun g b hg _ h => by
      simp only [State.rf] at *
      rwa [State.rd_wr_ne _ _ _ _ (by simp only [Addr.INT_CAUSE]; omega)],
    fun _ hb => State.rd_wr_ne _ _ _ _ (fun h => hb (h ▸ ha))⟩

theorem keep_irq (g x : Nat) (hg : g < 16 := by decide) : Keep t (t.irq g x) := by
  simp only [State.irq]
  split
  · refine ⟨rfl, rfl, rfl, rfl, rfl, rfl, rfl, rfl, rfl, rfl, rfl, rfl, fun _ _ => rfl, rfl, rfl, rfl, rfl, rfl, rfl, rfl, rfl, rfl, rfl, rfl, rfl, rfl, rfl, rfl, rfl, rfl, rfl, List.prefix_refl _, fun f _ _ => ?_, fun f _ _ _ _ => ?_, fun k b hk hb h => ?_,
      fun _ hb => State.rd_wf_ne _ _ _ _ _ (fun h => hb (h ▸ .inl ⟨g, hg, rfl⟩))⟩
    · simp only [State.rf]
      rw [State.rd_wf_ne _ _ _ _ _ (by simp only [Addr.INT_CAUSE, Addr.FIO_STAT]; omega)]
    · simp only [State.rf]
      rw [State.rd_wf_ne _ _ _ _ _ (by simp only [Addr.INT_CAUSE, Addr.PAIR_STAT]; omega)]
    · simp only [State.rf, State.rd_wf] at *
      split
      · rename_i he
        have : k = g := by simp only [Addr.INT_CAUSE] at he; omega
        subst this
        by_cases hbx : b = x
        · subst hbx; rw [getF_setF_same _ _ _ (by simp only; omega)]; rfl
        · rw [getF_setF_apart _ _ _ _ (by simp only; omega) (by simp only; omega)]; exact h
      · exact h
  · exact Keep.refl _

theorem keep_modFlt (f : FltS → FltS) (h : ∀ x, (f x).core = x.core) : Keep t (t.modFlt f) :=
  ⟨rfl, rfl, rfl, rfl, rfl, rfl, rfl, rfl, rfl, rfl, rfl, rfl, fun _ _ => rfl, rfl, rfl, rfl, rfl, rfl, rfl, rfl, rfl, rfl, rfl, rfl, rfl, rfl, rfl, rfl, rfl, h _, rfl, List.prefix_refl _, fun _ _ _ => rfl, fun _ _ _ _ _ => rfl, fun _ _ _ _ h => h, fun _ _ => rfl⟩
theorem keep_modCia (f : CiaS → CiaS) (h : ∀ x, (f x).core = x.core) : Keep t (t.modCia f) :=
  ⟨rfl, rfl, rfl, rfl, rfl, rfl, rfl, rfl, rfl, rfl, rfl, rfl, fun _ _ => rfl, rfl, rfl, rfl, rfl, rfl, rfl, rfl, rfl, rfl, rfl, rfl, rfl, rfl, h _, rfl, rfl, rfl, rfl, List.prefix_refl _, fun _ _ _ => rfl, fun _ _ _ _ _ => rfl, fun _ _ _ _ h => h, fun _ _ => rfl⟩
theorem keep_modRec (f : RecS → RecS) (h : ∀ x, (f x).core = x.core) : Keep t (t.modRec f) :=
  ⟨rfl, rfl, rfl, rfl, rfl, rfl, rfl, rfl, rfl, rfl, rfl, rfl, fun _ _ => rfl, rfl, rfl, rfl, rfl, rfl, rfl, rfl, rfl, rfl, rfl, rfl, rfl, rfl, rfl, rfl, rfl, rfl, h _, List.prefix_refl _, fun _ _ _ => rfl, fun _ _ _ _ _ => rfl, fun _ _ _ _ h => h, fun _ _ => rfl⟩
theorem keep_modFio (f : FioS → FioS) (h : ∀ x, (f x).core = x.core) : Keep t (t.modFio f) :=
  ⟨rfl, rfl, rfl, rfl, rfl, rfl, rfl, rfl, rfl, rfl, rfl, rfl, fun _ _ => rfl, rfl, rfl, rfl, rfl, rfl, rfl, rfl, rfl, rfl, rfl, rfl, h _, rfl, rfl, rfl, rfl, rfl, rfl, List.prefix_refl _, fun _ _ _ => rfl, fun _ _ _ _ _ => rfl, fun _ _ _ _ h => h, fun _ _ => rfl⟩
theorem keep_modPair (f : PairS → PairS) (h : ∀ x, (f x).core = x.core) (hx : ∀ x, x.tx <+: (f x).tx) : Keep t (t.modPair f) :=
  ⟨rfl, rfl, rfl, rfl, rfl, rfl, rfl, rfl, rfl, rfl, rfl, rfl, fun _ _ => rfl, rfl, rfl, rfl, rfl, rfl, rfl, rfl, rfl, rfl, rfl, rfl, rfl, h _, rfl, rfl, rfl, rfl, rfl, hx _, fun _ _ _ => rfl, fun _ _ _ _ _ => rfl, fun _ _ _ _ h => h, fun _ _ => rfl⟩
theorem keep_modAx (n : Nat) (f : AxS → AxS) : Keep t (t.modAx n f) :=
  ⟨rfl, rfl, rfl, rfl, rfl, rfl, rfl, rfl, rfl, rfl, rfl, rfl, fun _ _ => rfl, rfl, rfl, rfl, rfl, rfl, rfl, rfl, rfl, rfl, rfl, rfl, rfl, rfl, rfl, rfl, rfl, rfl, rfl, List.prefix_refl _, fun _ _ _ => rfl, fun _ _ _ _ _ => rfl, fun _ _ _ _ h => h, fun _ _ => rfl⟩
theorem keep_modCan1 (f : CanS → CanS) (h : ∀ x, (f x).core = x.core) : Keep t (t.modCan 1 f) :=
  ⟨rfl, rfl, rfl, rfl, rfl, rfl, rfl, rfl, rfl, rfl, rfl, rfl, fun _ _ => rfl, rfl, rfl, rfl, rfl, rfl, rfl, rfl, rfl, rfl, rfl, rfl, rfl, rfl, rfl, rfl, h _, rfl, rfl, List.prefix_refl _, fun _ _ _ => rfl, fun _ _ _ _ _ => rfl, fun _ _ _ _ h => h, fun _ _ => rfl⟩
theorem keep_raise (c r l : Nat) : Keep t (t.raise c r l) :=
  ⟨rfl, rfl, rfl, rfl, rfl, rfl, rfl, rfl, rfl, rfl, rfl, rfl, fun _ _ => rfl, rfl, rfl, rfl, rfl, rfl, rfl, rfl, rfl, rfl, rfl, rfl, rfl, rfl, rfl, rfl, rfl, rfl, rfl, List.prefix_refl _, fun _ _ _ => rfl, fun _ _ _ _ _ => rfl, fun _ _ _ _ h => h, fun _ _ => rfl⟩
theorem keep_raised (l : List FaultEv) : Keep t { t with raised := l } :=
  ⟨rfl, rfl, rfl, rfl, rfl, rfl, rfl, rfl, rfl, rfl, rfl, rfl, fun _ _ => rfl, rfl, rfl, rfl, rfl, rfl, rfl, rfl, rfl, rfl, rfl, rfl, rfl, rfl, rfl, rfl, rfl, rfl, rfl, List.prefix_refl _, fun _ _ _ => rfl, fun _ _ _ _ _ => rfl, fun _ _ _ _ h => h, fun _ _ => rfl⟩
theorem keep_rcd (l : List FaultEv) (r : RecS) (h : r.core = t.rcd.core) : Keep t { t with raised := l, rcd := r } :=
  ⟨rfl, rfl, rfl, rfl, rfl, rfl, rfl, rfl, rfl, rfl, rfl, rfl, fun _ _ => rfl, rfl, rfl, rfl, rfl, rfl, rfl, rfl, rfl, rfl, rfl, rfl, rfl, rfl, rfl, rfl, rfl, rfl, h, List.prefix_refl _, fun _ _ _ => rfl, fun _ _ _ _ _ => rfl, fun _ _ _ _ h => h, fun _ _ => rfl⟩
theorem keep_record (k c r l d e f : Nat) : Keep t (t.record k c r l d e f) :=
  ⟨rfl, rfl, rfl, rfl, rfl, rfl, rfl, rfl, rfl, rfl, rfl, rfl, fun _ _ => rfl, rfl, rfl, rfl, rfl, rfl, rfl, rfl, rfl, rfl, rfl, rfl, rfl, rfl, rfl, rfl, rfl, rfl, rfl, List.prefix_refl _, fun _ _ _ => rfl, fun _ _ _ _ _ => rfl, fun _ _ _ _ h => h, fun _ _ => rfl⟩

theorem keep_foldl {α : Type} (f : State → α → State) (h : ∀ s x, Keep s (f s x)) (l : List α) : Keep t (l.foldl f t) := by
  induction l generalizing t with
  | nil => exact Keep.refl _
  | cons x l ih => exact (h t x).trans (ih _)

theorem keep_ite (s : State) {c : Prop} [Decidable c] {a b : State} (ha : Keep s a) (hb : Keep s b) : Keep s (if c then a else b) := by
  split <;> assumption

end

/-! ### The parts of `settle` -/

/-- The registers named in `settleReg`. -/
theorem settleReg_mem {b : Nat} (h : b ∈ [Addr.FLT_STAT, Addr.FLT_FIRST, Addr.FLT_LAST, Addr.FLT_COUNT, Addr.FLT_GCNT, Addr.REC_STAT, Addr.REC_DROPCNT,
    Addr.REC_GEN, Addr.PAIR_CLAIM, Addr.PAIR_STAT, Addr.FIO_SSTAT, Addr.FIO_STAT]) : settleReg b := .inr h

theorem keep_wf (t : State) (a : Nat) (f : Fld) (x : Nat) (ha : settleReg a) (h1 : a ≠ Addr.FIO_STAT := by decide) (h2 : a ≠ Addr.PAIR_STAT := by decide)
    (h3 : a < 0x40003040 ∨ 0x40003080 ≤ a := by decide) : Keep t (t.wf a f x) := keep_wr _ _ _ ha h1 h2 h3

/-- One field of FIO_STAT and three of PAIR_STAT are written. -/
theorem keep_safeact (t : State) (x : Nat) : Keep t (t.wf Addr.FIO_STAT Fl.FIO_STAT_SAFEACT x) := by
  refine ⟨rfl, rfl, rfl, rfl, rfl, rfl, rfl, rfl, rfl, rfl, rfl, rfl, fun _ _ => rfl, rfl, rfl, rfl, rfl, rfl, rfl, rfl, rfl, rfl, rfl, rfl, rfl, rfl, rfl, rfl, rfl, rfl, rfl, List.prefix_refl _, fun f hf ha => ?_, fun f _ _ _ _ => ?_, fun k b hk hb h => ?_,
    fun _ hb => State.rd_wf_ne _ _ _ _ _ (fun h => hb (h ▸ settleReg_mem (by decide)))⟩
  · simp only [State.rf, State.rd_wf_same]
    exact getF_setF_apart _ _ _ _ hf ha
  · simp only [State.rf]
    rw [State.rd_wf_ne _ _ _ _ _ (by decide)]
  · simp only [State.rf] at *
    rwa [State.rd_wf_ne _ _ _ _ _ (by simp only [Addr.INT_CAUSE, Addr.FIO_STAT]; omega)]

theorem keep_pst (t : State) (g : Fld) (x : Nat) (hg : g = Fl.PAIR_STAT_YIELD ∨ g = Fl.PAIR_STAT_ALLOW ∨ g = Fl.PAIR_STAT_LINECL) :
    Keep t (t.wf Addr.PAIR_STAT g x) := by
  refine ⟨rfl, rfl, rfl, rfl, rfl, rfl, rfl, rfl, rfl, rfl, rfl, rfl, fun _ _ => rfl, rfl, rfl, rfl, rfl, rfl, rfl, rfl, rfl, rfl, rfl, rfl, rfl, rfl, rfl, rfl, rfl, rfl, rfl, List.prefix_refl _, fun f _ _ => ?_, fun f hf h1 h2 h3 => ?_, fun k b hk hb h => ?_,
    fun _ hb => State.rd_wf_ne _ _ _ _ _ (fun h => hb (h ▸ settleReg_mem (by decide)))⟩
  · simp only [State.rf]
    rw [State.rd_wf_ne _ _ _ _ _ (by decide)]
  · simp only [State.rf, State.rd_wf_same]
    rcases hg with rfl | rfl | rfl
    · exact getF_setF_apart _ _ _ _ hf h1
    · exact getF_setF_apart _ _ _ _ hf h2
    · exact getF_setF_apart _ _ _ _ hf h3
  · simp only [State.rf] at *
    rwa [State.rd_wf_ne _ _ _ _ _ (by simp only [Addr.INT_CAUSE, Addr.PAIR_STAT]; omega)]

theorem keep_capture (s : State) (f : FaultEv) : Keep s (s.capture f) := by
  simp only [State.capture]
  refine ((keep_ite (s := s) ?_ ?_).trans ((keep_wr _ Addr.FLT_LAST _ (settleReg_mem (by decide)) (by decide) (by decide) (by decide)).trans (keep_modFlt _ _ (by intro; rfl)))).trans
    ((keep_wf _ Addr.FLT_COUNT _ _ (settleReg_mem (by decide))).trans (keep_irq _ _ _))
  · exact keep_ite _ (Keep.refl _) ((keep_wf _ Addr.FLT_STAT _ _ (settleReg_mem (by decide))).trans (keep_irq _ _ _))
  · exact (((keep_wf _ Addr.FLT_STAT _ _ (settleReg_mem (by decide))).trans (keep_wr _ Addr.FLT_FIRST _ (settleReg_mem (by decide)) (by decide) (by decide) (by decide))).trans (keep_irq _ _ _)).trans (keep_modFlt _ _ (by intro; rfl))

theorem keep_listFault (s : State) (f : FaultEv) : Keep s (s.listFault f) := by
  simp only [State.listFault]
  exact keep_ite _ (Keep.refl _) (keep_ite _ (keep_modFlt _ _ (by intro; rfl)) (keep_ite _ (Keep.refl _)
    ((keep_wf _ _ _ _ (settleReg_mem (by decide))).trans (keep_irq _ _ _))))

theorem keep_emcy (s : State) (f : FaultEv) : Keep s (s.emcy f) := by
  simp only [State.emcy]
  exact keep_modCia _ _ (by intro; rfl)

theorem keep_posLost (s : State) (n : Nat) : Keep s (s.posLost n) := by
  simp only [State.posLost]
  exact keep_ite _ (Keep.refl _) ((keep_modAx _ _ _).trans (keep_raise _ _ _ _))

theorem keep_homeFail (s : State) (n c : Nat) : Keep s (s.homeFail n c) := by
  simp only [State.homeFail]
  exact keep_ite _ (Keep.refl _) ((keep_modAx _ _ _).trans (keep_raise _ _ _ _))

theorem keep_stpExt (t : State) (b : Bool) : Keep t { t with stp := { t.stp with ext := b } } :=
  ⟨rfl, rfl, rfl, rfl, rfl, rfl, rfl, rfl, rfl, rfl, rfl, rfl, fun _ _ => rfl, rfl, rfl, rfl, rfl, rfl, rfl, rfl, rfl, rfl, rfl, rfl, rfl, rfl, rfl, rfl, rfl, rfl, rfl, List.prefix_refl _,
    fun _ _ _ => rfl, fun _ _ _ _ _ => rfl, fun _ _ _ _ h => h, fun _ _ => rfl⟩

theorem keep_dorImm (t : State) (k : Nat) : Keep t { t with dor := setAt 4 DorS.init t.dor k (fun x => { x with imm := true }) } := by
  refine ⟨rfl, rfl, rfl, rfl, rfl, rfl, rfl, rfl, rfl, rfl, rfl, rfl, fun d hd => ?_, rfl, rfl, rfl, rfl, rfl, rfl, rfl, rfl, rfl, rfl, rfl, rfl, rfl, rfl, rfl, rfl, rfl, rfl,
    List.prefix_refl _, fun _ _ _ => rfl, fun _ _ _ _ _ => rfl, fun _ _ _ _ h => h, fun _ _ => rfl⟩
  have hk : d - 1 < 4 := by omega
  simp only [State.dorS, setAt, List.getD_eq_getElem?_getD, List.getElem?_map, List.getElem?_range hk, Option.map_some, Option.getD_some]
  split <;> rfl

/-- An immediate stop tells the stop table and the door of its axis. -/
theorem keep_stopNote (s : State) (n : Nat) :
    Keep s (if n = 0 then { s with stp := { s.stp with ext := true } } else { s with dor := setAt 4 DorS.init s.dor (n - 1) (fun x => { x with imm := true }) }) := by
  refine keep_ite _ ?_ ?_
  · exact keep_stpExt s _
  · exact keep_dorImm s _

theorem keep_immStop1 (s : State) (n c : Nat) : Keep s (s.immStop1 n c) := by
  simp only [State.immStop1]
  refine Keep.trans ?_ (keep_modAx _ _ _)
  exact ((keep_ite _ (keep_homeFail _ _ _) (Keep.refl _)).trans (keep_ite _ (keep_posLost _ _) (Keep.refl _))).trans (keep_stopNote _ _)

theorem keep_immStopAll (s : State) : Keep s s.immStopAll :=
  keep_foldl _ _ (fun _ _ => keep_ite _ (keep_immStop1 _ _ _) (Keep.refl _)) _

theorem keep_respond (s : State) (f : FaultEv) : Keep s (s.respond f) := by
  simp only [State.respond]
  refine keep_ite _ (Keep.refl _) ?_
  have hm : Keep s (match s.mode with
      | .READY | .RUN | .HOLD => if s.standby then s else s.modFlt (fun x => { x with fltDue := true })
      | _ => s) := by
    split <;> first | exact keep_ite _ (Keep.refl _) (keep_modFlt _ _ (by intro; rfl)) | exact Keep.refl _
  refine keep_ite _ hm (hm.trans (keep_ite _ ?_ ?_))
  · exact (keep_immStopAll _).trans ((keep_modFio _ _ (by intro; rfl)).trans (keep_modFlt _ _ (by intro; rfl)))
  · exact (keep_immStopAll _).trans (keep_modFlt _ _ (by intro; rfl))

theorem keep_gleanRaise (s : State) (f : FaultEv) : Keep s (s.gleanRaise f).2 := by
  unfold State.gleanRaise
  dsimp only
  split
  · show Keep s (s.modG _ _)
    exact keep_modFlt s _ (by intro; rfl)
  · split
    · rename_i h
      simp only [State.gOpen, Option.map_eq_some_iff] at h
      obtain ⟨k, _, rfl⟩ := h
      dsimp only
      exact keep_modFlt s _ (by intro; rfl)
    · exact keep_wf _ _ _ _ (settleReg_mem (by decide))

theorem keep_startFlush (s : State) : Keep s s.startFlush := by
  simp only [State.startFlush]
  exact keep_ite _ (Keep.refl _) (keep_ite _ (keep_modRec _ _ (by intro; rfl)) ((keep_wf _ _ _ _ (settleReg_mem (by decide))).trans (keep_modRec _ _ (by intro; rfl))))

theorem keep_answer (s : State) (f : FaultEv) : Keep s (s.answer f) := by
  simp only [State.answer]
  have h1 : Keep s ((s.capture f).listFault f) := (keep_capture _ _).trans (keep_listFault _ _)
  have h2 := h1.trans (keep_ite (c := f.cls ≥ 1) _ (keep_emcy ((s.capture f).listFault f) f) (Keep.refl _))
  have h3 := (h2.trans (keep_respond _ f)).trans (keep_gleanRaise _ f)
  have h4 := fun (a b c d e f g : Nat) (p : Prop) (_ : Decidable p) => h3.trans (keep_ite (c := p) _ (keep_record _ a b c d e f g) (Keep.refl _))
  exact (h4 ..).trans (keep_ite _ (keep_startFlush _) (Keep.refl _))

theorem keep_answerAll (s : State) (n : Nat) : Keep s (s.answerAll n) := by
  induction n generalizing s with
  | zero => exact keep_raised _ _
  | succ n ih =>
    simp only [State.answerAll]
    split
    · exact Keep.refl _
    · exact ((keep_raised _ _).trans (keep_foldl _ _ keep_answer _)).trans (ih _)

theorem keep_dropRec (s : State) : Keep s s.dropRec := by
  simp only [State.dropRec]
  have h : Keep s ((s.bump Addr.REC_DROPCNT ⟨0, 32⟩).setRstat Fl.REC_STAT_DROP true) :=
    (keep_wf _ Addr.REC_DROPCNT _ _ (settleReg_mem (by decide))).trans (keep_wf _ Addr.REC_STAT _ _ (settleReg_mem (by decide)))
  generalize (s.bump Addr.REC_DROPCNT ⟨0, 32⟩).setRstat Fl.REC_STAT_DROP true = w at h
  exact h.trans (keep_ite _ (keep_modRec _ _ (by intro; rfl)) ((keep_modRec _ _ (by intro; rfl)).trans (keep_raise _ _ _ _)))

theorem keep_keepRec (s : State) (r : RecR) : Keep s (s.keepRec r) := by
  simp only [State.keepRec]
  refine keep_ite _ (keep_dropRec _) ?_
  have h1 := fun (f : RecS → RecS) (hf : ∀ x, (f x).core = x.core) (x : Nat) (p : Prop) (_ : Decidable p) => (keep_modRec s f hf).trans
    (keep_ite (c := p) _ (keep_wf (s.modRec f) Addr.REC_GEN Fl.REC_GEN_GEN x (settleReg_mem (by decide))) (Keep.refl _))
  exact keep_ite _ ((h1 _ (by intro; simp only [RecS.core]) ..).trans (keep_startFlush _)) (h1 _ (by intro; simp only [RecS.core]) ..)

theorem keep_waitRec (s : State) (r : RecR) : Keep s (s.waitRec r) := by
  simp only [State.waitRec]
  exact keep_ite _ (keep_dropRec _) (keep_modRec _ _ (by intro; rfl))

theorem keep_numberRecs (s : State) : Keep s s.numberRecs := by
  simp only [State.numberRecs]
  have h := keep_modRec s (fun r => { r with queue := [] }) (by intro; rfl)
  refine keep_ite _ (((h.trans (keep_foldl _ _ keep_keepRec _)).trans (keep_modRec _ _ (by intro; rfl))).trans (keep_foldl _ _ keep_keepRec _)) (h.trans (keep_foldl _ _ keep_waitRec _))

theorem keep_modG (s : State) (k : Nat) (f : GEnt → GEnt) : Keep s (s.modG k f) := keep_modFlt _ _ (by intro; rfl)

theorem keep_gleanBuf (s : State) : Keep s s.gleanBuf := by
  simp only [State.gleanBuf]
  refine keep_ite _ (Keep.refl _) ?_
  have h1 : ∀ (s : State) (k : Nat) (r : CTx), Keep s (match s.gEnt k with
      | some e =>
        if e.buf = true ∧ e.st = .pending then
          if r.res = 1 ∨ r.res = 3 then (s.modG k (fun e => { e with st := .sent, buf := false })).bump Addr.FLT_GCNT Fl.FLT_GCNT_SENT
          else (s.modG k (fun e => { e with st := .suppressed, buf := false })).bump Addr.FLT_GCNT Fl.FLT_GCNT_SUPP
        else s
      | none => s) := by
    intro s k r
    split
    · exact keep_ite _ (keep_ite _ ((keep_modG _ _ _).trans (keep_wf _ _ _ _ (settleReg_mem (by decide))))
        ((keep_modG _ _ _).trans (keep_wf _ _ _ _ (settleReg_mem (by decide))))) (Keep.refl _)
    · exact Keep.refl _
  have h2 := keep_foldl s _ (fun s k => h1 s k ((s.canS 1).txO 128))
  have h3 := keep_foldl s _ (fun t k => h1 t k ((s.canS 1).txO 128)) (List.range 16)
  split
  · exact h3
  · split
    · exact (h3.trans (keep_modCan1 _ _ (by intro; rfl))).trans (keep_modG _ _ _)
    · exact h3

theorem keep_openPairs (s : State) (m : Nat) : Keep s (s.openPairs m) := by
  refine keep_modFio _ _ (fun x => ?_)
  dsimp only
  split <;> split <;> rfl

theorem keep_handling (s : State) : Keep s s.handling := by
  simp only [State.handling]
  split
  · exact Keep.refl _
  · have h := keep_ite (c := (s.atStandstill || decide (s.now ≥ s.flt.hT + s.rf Addr.FLT_RCFG Fl.FLT_RCFG_SDLY * 2000000)) = true) s
      ((keep_openPairs s s.flt.hSel).trans (keep_modFlt _ (fun x => { x with hSel := 0 }) (by intro; rfl))) (Keep.refl _)
    exact keep_ite _ (h.trans (keep_modFlt _ _ (by intro; rfl))) h
  · exact keep_ite _ (keep_modFlt _ _ (by intro; rfl)) (Keep.refl _)

theorem keep_sendBeacon (s : State) : Keep s s.sendBeacon := by
  simp only [State.sendBeacon]
  exact keep_ite _ (Keep.refl _) (keep_modPair _ _ (by intro; rfl) (by intro; exact List.prefix_append _ _))

theorem keep_claimUpd (s : State) : Keep s s.claimUpd := by
  simp only [State.claimUpd]
  have h := fun (v : Word) (x : Nat) => (keep_wr s Addr.PAIR_CLAIM v (settleReg_mem (by decide)) (by decide) (by decide) (by decide)).trans
    (keep_pst _ Fl.PAIR_STAT_YIELD x (.inl rfl))
  exact keep_ite _ (h ..) ((h ..).trans (keep_sendBeacon _))

theorem keep_gateWindow (s : State) : Keep s s.gateWindow := by
  simp only [State.gateWindow]
  exact keep_modFio _ _ (by intro; rfl)

theorem keep_fioEval (s : State) : Keep s s.fioEval := by
  simp only [State.fioEval]
  refine Keep.trans ?_ (keep_safeact _ _)
  refine Keep.trans ?_ (keep_pst _ Fl.PAIR_STAT_LINECL _ (.inr (.inr rfl)))
  refine Keep.trans ?_ (keep_pst _ Fl.PAIR_STAT_ALLOW _ (.inr (.inl rfl)))
  refine Keep.trans ?_ (keep_wr _ Addr.FIO_SSTAT _ (settleReg_mem (by decide)) (by decide) (by decide) (by decide))
  refine Keep.trans ?_ (keep_ite _ (keep_irq _ _ _) (Keep.refl _))
  refine Keep.trans ?_ (keep_modFio _ _ (by intro; rfl))
  refine Keep.trans ?_ (keep_gateWindow _)
  refine Keep.trans ?_ (keep_ite _ (keep_modFio _ _ (by intro; rfl)) (Keep.refl _))
  refine Keep.trans ?_ (keep_ite _ (keep_modFio _ _ (by intro; rfl)) (Keep.refl _))
  exact keep_ite _ (Keep.refl _) (keep_ite _ (keep_modFio _ _ (by intro; rfl)) (keep_modFio _ _ (by intro; rfl)))

theorem keep_zeroTimes (s : State) : Keep s s.zeroTimes := by
  simp only [State.zeroTimes]
  exact keep_modFlt _ _ (by intro; rfl)

/-- The end of a command keeps everything named in `Keep`. -/
theorem keep_settle (s : State) : Keep s s.settle := by
  have h1 : Keep s ((((s.answerAll 4).numberRecs).answerAll 4).numberRecs) :=
    (((keep_answerAll _ _).trans (keep_numberRecs _)).trans (keep_answerAll _ _)).trans (keep_numberRecs _)
  have h2 := h1.trans ((keep_gleanBuf _).trans (keep_handling _))
  simp only [State.settle]
  generalize ((((s.answerAll 4).numberRecs).answerAll 4).numberRecs).gleanBuf.handling = w at h2
  have h3 := h2.trans (keep_ite (c := (w.cia.act && !w.faultActive) = true) w (keep_emcy w ⟨0, 0, 0⟩) (Keep.refl _))
  generalize (if (w.cia.act && !w.faultActive) = true then w.emcy ⟨0, 0, 0⟩ else w) = v at h3
  have h4 := h3.trans (keep_modCia v (fun c => { c with act := v.faultActive }) (by intro; rfl))
  generalize (v.modCia (fun c => { c with act := v.faultActive })) = u at h4
  exact (h4.trans (keep_rcd u [] { u.rcd with queue := [] } rfl)).trans ((keep_claimUpd _).trans ((keep_fioEval _).trans (keep_zeroTimes _)))

/-- How a command ends: a next state with the queue as it was that keeps everything of the command's effect named in `Keep`. -/
theorem done_keep (s t : State) : ∃ u, s.done t = .next u ∧ u.pending = s.pending ∧ Keep { t with id := s.id } u := by
  simp only [State.done]
  have h := keep_settle { t with id := s.id }
  generalize ({ t with id := s.id } : State).settle = w at h
  exact ⟨_, rfl, rfl, h.id, h.mem, h.pend, h.smem, h.intp, h.frm, h.ecyc, h.cyc, h.sch, h.hops, h.fb, h.drv, h.dor, h.thr, h.stp, h.bid, h.nrg, h.hdl,
    h.loft, h.pwr, h.hlk, h.sdo, h.ctl, h.free, h.fio, h.pair, h.cia, h.can0, h.can1, h.flt, h.rcd, h.tx, h.fst, h.pst, h.irq, h.rd⟩

end Sys2Proof.Machine
end

