-- ==== Sys2Proof/Laws/Commands.lean ====
section
/-! SUPPORT. Every command ends through `State.done`; what follows for its next state. -/

namespace Sys2Proof.Machine

/-- Every command answers a next state, through `State.done`. -/
theorem exec_done (c : Instr) (s : State) : ∃ t, exec c s = s.done t := by
  cases c <;> exact ⟨_, rfl⟩

/-- A command completes with whatever its effect `t` and the parts that the end of a command keeps give. -/
theorem completes_of {c : Instr} {s t : State} {P : State → Prop} (h : exec c s = s.done t)
    (hp : ∀ u, u.pending = s.pending → Keep { t with id := s.id } u → P u) : Completes c s P := by
  obtain ⟨u, hu, hq, hk⟩ := done_keep s t
  exact ⟨u, h.trans hu, hp u hq hk⟩

/-- A slot command that is due does its operation at the slot's START. -/
theorem onSlot_due {s : State} {k unit op : Nat} {sl : Slot} (h : s.due k unit op sl) (f : Slot → State → State) :
    s.onSlot k unit op f = f sl (s.at sl.start) := by
  simp only [State.due] at h
  simp only [State.onSlot, h]

theorem onLane_due {s : State} {k unit op : Nat} {sl : Slot} (h : s.due k unit op sl) (f : Slot → State → State) :
    s.onLane k unit op false f = f sl (s.at sl.start) := by
  simp [State.onLane, onSlot_due h]

theorem live_awake {s : State} (h : s.awake) (f : State → State) : s.live f = f s := by
  simp only [State.awake] at h
  simp [State.live, h]

/-- In RESET a command to the logic island does nothing. -/
theorem live_reset {s : State} (h : s.mode = .RESET) (f : State → State) : s.live f = s := by
  simp [State.live, h]

/-- Unit k of a row of n after unit j was changed. -/
theorem getD_setAt {α : Type} (n : Nat) (d : α) (l : List α) (j k : Nat) (f : α → α) (h : k < n) :
    (setAt n d l j f).getD k d = if k = j then f (l.getD k d) else l.getD k d := by
  simp [setAt, List.getD_eq_getElem?_getD, h]

end Sys2Proof.Machine
end

