-- ==== Sys2Proof/Laws/Access.lean ====
section
/-! SUPPORT. Register accesses of software: when a command register's command is carried out, and a plain register write or read. -/

namespace Sys2Proof.Machine

/-- A register whose every field any state and value may be written to: no CONFIG-only field, no range. -/
def openRow (a : Nat) : Bool :=
  match regRow? a with
  | some r => (r.has .rw || r.has .rwf || r.has .wo || r.has .w1c) && r.rows.all (fun f => !f.cfg && f.rng.isEmpty)
  | none => false

theorem cfgHit_open {r : RegRow} (h : r.rows.all (fun f => !f.cfg && f.rng.isEmpty) = true) (o v : Word) : r.cfgHit o v = false := by
  simp only [RegRow.cfgHit, List.any_eq_false]
  intro f hf
  have := List.all_eq_true.1 h f hf
  simp_all

theorem inRange_open {r : RegRow} (h : r.rows.all (fun f => !f.cfg && f.rng.isEmpty) = true) (o v : Word) : r.inRange o v = true := by
  simp only [RegRow.inRange, List.all_eq_true]
  intro f hf
  have := List.all_eq_true.1 h f hf
  simp_all [FieldRow.inRange]

/-- The registers that `relOk` and the state rules name. -/
def freeAddr (a : Nat) : Bool :=
  a != Addr.AX_TGT 0 && a != Addr.NRG_CMD && a != Addr.PAIR_CMD && a != Addr.PWR_MCMD && !Dbl.all.any (fun k => k.addr == a) && a != Addr.CRC_CFG && !inMem a

/-- A write of a register with no range, no CONFIG-only field and no relation is accepted while writes are taken. -/
theorem writeErr_open {s : State} {a : Nat} {v : Word} (h : s.taking) (ha : s.addrErr a = 0) (ho : openRow a = true) (hf : freeAddr a = true)
    (hr : ∀ o n, s.relOk a o n = true) : s.writeErr a v = 0 := by
  obtain ⟨_, hs, hp⟩ := h
  simp only [openRow] at ho
  split at ho
  · rename_i r hrow
    simp only [Bool.and_eq_true] at ho
    simp only [freeAddr, Bool.and_eq_true, bne_iff_ne, Bool.not_eq_true'] at hf
    obtain ⟨⟨⟨⟨⟨⟨h0, h1⟩, h2⟩, h3⟩, h4⟩, h5⟩, h6⟩ := hf
    have hv : s.regValueOk a v = true := by
      simp [State.regValueOk, h4, h5, State.valueOk, hrow, h3, inRange_open ho.2, hr]
    have hst : s.stateRefuses a v = 0 := by
      simp [State.stateRefuses, hrow, hs, hp, cfgHit_open ho.2, h0, h1, h2]
    have hw : (!(r.has .rw || r.has .rwf || r.has .wo || r.has .w1c)) = false := by simp [ho.1]
    simp only [State.writeErr, ha, h6, hrow, hw, hst, hv]
    simp
  · cases ho

/-- The address of a register outside the shared-shaft and door windows. -/
def plainAddr (a : Nat) : Bool :=
  let p := (a - 0x40000000) / 0x1000
  let o := a % 0x1000
  a % 4 == 0 && !inMem a && decide (0x40000000 ≤ a) && decide (a < 0x4001B000) && !(p == 0x0D && decide (0x100 ≤ o) && decide (o < 0x200)) &&
    !(p == 0x12 && decide (0x100 ≤ o) && decide (o < 0x500)) && (regRow? a).isSome

/-- A register of a present block can be accessed. -/
theorem addrErr_plain {s : State} {a : Nat} (ha : plainAddr a = true) (hp : s.hasPage ((a - 0x40000000) / 0x1000) = true) : s.addrErr a = 0 := by
  simp only [plainAddr, Bool.and_eq_true, Bool.not_eq_true', decide_eq_true_eq, beq_iff_eq, Option.isSome_iff_ne_none] at ha
  obtain ⟨⟨⟨⟨⟨⟨h1, h2⟩, h3⟩, h4⟩, h5⟩, h6⟩, h7⟩ := ha
  have h8 : ¬ (a < 0x40000000 ∨ a ≥ 0x4001B000) := by omega
  have h9 : (regRow? a).isNone = false := by cases h : regRow? a <;> simp_all
  simp only [State.addrErr, h1, h2, h8, h5, h6, hp, h9]
  simp

/-- A register in a door's window of a present door can be accessed. -/
theorem addrErr_door {s : State} {a d : Nat} (h1 : a % 4 = 0) (h2 : inMem a = false) (hp : (a - 0x40000000) / 0x1000 = 0x12) (hd : a % 0x1000 / 0x100 = d)
    (hr : (regRow? a).isSome = true) (h : s.hasDoor d = true) : s.addrErr a = 0 := by
  have h8 : ¬ (a < 0x40000000 ∨ a ≥ 0x4001B000) := by omega
  have h9 : (regRow? a).isNone = false := by simpa [Option.isSome_iff_ne_none] using hr
  have h10 : s.hasPage 0x12 = true := by rfl
  simp only [State.addrErr, h1, h2, h8, h9, hp, h10, hd, h]
  simp

/-- The command of a command register that is accepted acts as its application at a boundary. -/
theorem command_ok {s : State} {a : Nat} {v : Word} (h : s.awake) (he : s.writeErr a v = 0) {t : State} (hr : s.applyReg a v false true false = (0, t)) :
    s.command a v = t := by
  simp [State.command, live_awake h, he, hr]

/-- A register write that is not staged acts at once. -/
theorem ctl_now {s : State} {a : Nat} {v : Word} (h : s.awake) (he : s.writeErr a v = 0) (hs : stagedReg a = false) {t : State} (hr : s.rwPut a v = (0, t)) :
    s.ctl a v = t := by
  simp [State.ctl, live_awake h, State.ctlWrite, State.regWrite, he, hs, hr]

/-- A register write that is staged joins staging when there is room. -/
theorem ctl_staged {s : State} {a : Nat} {v : Word} (h : s.awake) (he : s.writeErr a v = 0) (hs : stagedReg a = true) (hq : a ≠ Addr.STP_CALLQ)
    (hf : s.stgFree ≠ 0) : s.ctl a v = s.stage a false v.toNat 0 noTag := by
  simp [State.ctl, live_awake h, State.ctlWrite, State.regWrite, he, hs, hq, hf]

/-- A refused write is logged and changes nothing else. -/
theorem ctl_refused {s : State} {a : Nat} {v : Word} (h : s.awake) (he : s.writeErr a v ≠ 0) :
    s.ctl a v = s.violate 0 false a true (s.writeErr a v) := by
  simp [State.ctl, live_awake h, State.ctlWrite, State.regWrite, he]

/-- A read of a register answers its value and does what a read does. -/
theorem look_ok {s : State} {a : Nat} (h : s.awake) (ha : s.addrErr a = 0) {v : Word} {t : State} (hr : s.wordRead a = (0, v, t)) :
    s.look a = { t with ctlData := [v] } := by
  simp [State.look, live_awake h, State.ctlRead, ha, hr]

end Sys2Proof.Machine
end

