-- ==== Sys2Proof/Laws/Calm.lean ====
section
/-! SUPPORT. A command that raises nothing of stop or trip class leaves the axes as its effect put them: no stop is taken. -/

namespace Sys2Proof.Machine

/-- Nothing of stop or trip class is raised. -/
def State.calm (s : State) : Prop := ∀ f ∈ s.raised, f.cls < 2

/-- The axes are the same, and nothing of stop or trip class is added. -/
structure Still (s t : State) : Prop where
  ax   : t.ax = s.ax
  calm : s.calm → t.calm

theorem Still.refl (s : State) : Still s s := ⟨rfl, id⟩
theorem Still.trans {s t u : State} (h : Still s t) (k : Still t u) : Still s u := ⟨k.ax.trans h.ax, fun c => k.calm (h.calm c)⟩
theorem still_of {s t : State} (h : t.ax = s.ax) (r : t.raised = s.raised) : Still s t := ⟨h, fun c => by simpa [State.calm, r] using c⟩

theorem still_ite (s : State) {c : Prop} [Decidable c] {a b : State} (ha : Still s a) (hb : Still s b) : Still s (if c then a else b) := by
  split <;> assumption

theorem still_wr (s : State) (a : Nat) (v : Word) : Still s (s.wr a v) := ⟨rfl, id⟩
theorem still_wf (s : State) (a : Nat) (f : Fld) (x : Nat) : Still s (s.wf a f x) := ⟨rfl, id⟩
theorem still_modFlt (s : State) (f : FltS → FltS) : Still s (s.modFlt f) := ⟨rfl, id⟩
theorem still_modRec (s : State) (f : RecS → RecS) : Still s (s.modRec f) := ⟨rfl, id⟩
theorem still_modFio (s : State) (f : FioS → FioS) : Still s (s.modFio f) := ⟨rfl, id⟩
theorem still_modCan (s : State) (n : Nat) (f : CanS → CanS) : Still s (s.modCan n f) := ⟨rfl, id⟩
theorem still_modG (s : State) (n : Nat) (f : GEnt → GEnt) : Still s (s.modG n f) := ⟨rfl, id⟩
theorem still_irq (s : State) (g x : Nat) : Still s (s.irq g x) := by
  simp only [State.irq]
  exact still_ite _ (still_of rfl rfl) (Still.refl _)

theorem still_foldl {α : Type} (s : State) (f : State → α → State) (l : List α) (h : ∀ s, ∀ x ∈ l, Still s (f s x)) : Still s (l.foldl f s) := by
  induction l generalizing s with
  | nil => exact Still.refl _
  | cons x l ih => exact (h s x (by simp)).trans (ih _ (fun s y hy => h s y (by simp [hy])))

theorem still_capture (s : State) (f : FaultEv) : Still s (s.capture f) := by
  simp only [State.capture]
  refine ((still_ite s ?_ ?_).trans ((still_wr _ _ _).trans (still_modFlt _ _))).trans ((still_wf _ _ _ _).trans (still_irq _ _ _))
  · exact still_ite _ (Still.refl _) ((still_wf _ _ _ _).trans (still_irq _ _ _))
  · exact (((still_wf _ _ _ _).trans (still_wr _ _ _)).trans (still_irq _ _ _)).trans (still_modFlt _ _)

theorem still_listFault (s : State) (f : FaultEv) : Still s (s.listFault f) := by
  simp only [State.listFault]
  exact still_ite _ (Still.refl _) (still_ite _ (still_modFlt _ _) (still_ite _ (Still.refl _)
    ((still_wf _ _ _ _).trans (still_irq _ _ _))))

theorem still_gleanRaise (s : State) (f : FaultEv) : Still s (s.gleanRaise f).2 := by
  unfold State.gleanRaise
  dsimp only
  split
  · exact still_of rfl rfl
  · split
    · rename_i h
      simp only [State.gOpen, Option.map_eq_some_iff] at h
      obtain ⟨k, _, rfl⟩ := h
      exact still_of rfl rfl
    · exact still_of rfl rfl

theorem still_startFlush (s : State) : Still s s.startFlush := by
  simp only [State.startFlush]
  exact still_ite _ (Still.refl _) (still_ite _ (still_modRec _ _) ((still_wf _ _ _ _).trans (still_modRec _ _)))

theorem still_answer (s : State) (f : FaultEv) (h : f.cls < 2) : Still s (s.answer f) := by
  simp only [State.answer]
  have h1 : Still s ((s.capture f).listFault f) := (still_capture _ _).trans (still_listFault _ _)
  generalize (s.capture f).listFault f = w at h1
  have h2 := h1.trans (still_ite (c := f.cls ≥ 1) w (still_of (t := w.emcy f) rfl rfl) (Still.refl _))
  generalize (if f.cls ≥ 1 then w.emcy f else w) = v at h2
  have h3 : v.respond f = v := by simp [State.respond, h]
  rw [h3]
  have h4 := h2.trans (still_gleanRaise v f)
  generalize (v.gleanRaise f) = u at h4
  have h5 := fun (a b c d e f g : Nat) (p : Prop) (_ : Decidable p) => h4.trans (still_ite (c := p) _ (still_of (t := u.2.record a b c d e f g) rfl rfl) (Still.refl _))
  exact (h5 ..).trans (still_ite _ (still_startFlush _) (Still.refl _))

theorem sortFaults_mem (l : List FaultEv) (f : FaultEv) (h : f ∈ sortFaults l) : f ∈ l := by
  induction l with
  | nil => exact h
  | cons g t ih =>
    have ins : ∀ (l : List FaultEv), f ∈ insFault g l → f = g ∨ f ∈ l := by
      intro l
      induction l with
      | nil => intro h; exact .inl (by simpa [insFault] using h)
      | cons x l ihl =>
        intro h
        simp only [insFault] at h
        split at h
        · exact List.mem_cons.1 h
        · rcases List.mem_cons.1 h with h | h
          · exact .inr (h ▸ List.mem_cons_self)
          · exact (ihl h).imp id (List.mem_cons_of_mem _)
    rcases ins _ h with h | h
    · exact h ▸ List.mem_cons_self
    · exact List.mem_cons_of_mem _ (ih h)

theorem still_answerAll (s : State) (n : Nat) (h : s.calm) : Still s (s.answerAll n) := by
  induction n generalizing s with
  | zero => exact ⟨rfl, fun _ f hf => by simp [State.answerAll] at hf⟩
  | succ n ih =>
    simp only [State.answerAll]
    split
    · exact Still.refl _
    · have h0 : Still s { s with raised := [] } := ⟨rfl, fun _ f hf => by simp at hf⟩
      have h1 := h0.trans (still_foldl { s with raised := [] } State.answer (sortFaults s.raised) (fun t f hf => still_answer t f (h f (sortFaults_mem _ _ hf))))
      exact h1.trans (ih _ (h1.calm h))

theorem still_dropRec (s : State) : Still s s.dropRec := by
  simp only [State.dropRec]
  refine still_ite _ (still_of rfl rfl) ⟨rfl, fun c f hf => ?_⟩
  simp only [State.raise_raised, List.mem_append, List.mem_singleton] at hf
  rcases hf with hf | rfl
  · exact c f hf
  · show 0 < 2; decide

theorem still_waitRec (s : State) (r : RecR) : Still s (s.waitRec r) := still_ite _ (still_dropRec _) (still_modRec _ _)

theorem still_keepRec (s : State) (r : RecR) : Still s (s.keepRec r) := by
  simp only [State.keepRec]
  refine still_ite _ (still_dropRec _) ?_
  · have h1 := fun (f : RecS → RecS) (x : Nat) (p : Prop) (_ : Decidable p) => (still_of (s := s) (t := s.modRec f) rfl rfl).trans
      (still_ite (c := p) _ (still_of (t := (s.modRec f).wf Addr.REC_GEN Fl.REC_GEN_GEN x) rfl rfl) (Still.refl _))
    exact still_ite _ ((h1 ..).trans (still_startFlush _)) (h1 ..)

theorem still_numberRecs (s : State) : Still s s.numberRecs := by
  simp only [State.numberRecs]
  have h := still_modRec s (fun r => { r with queue := [] })
  exact still_ite _ (((h.trans (still_foldl _ _ _ (fun s x _ => still_keepRec s x))).trans (still_modRec _ _)).trans
    (still_foldl _ _ _ (fun s x _ => still_keepRec s x))) (h.trans (still_foldl _ _ _ (fun s x _ => still_waitRec s x)))

theorem still_gleanBuf (s : State) : Still s s.gleanBuf := by
  simp only [State.gleanBuf]
  refine still_ite _ (Still.refl _) ?_
  have h1 : ∀ (s : State) (k : Nat) (r : CTx), Still s (match s.gEnt k with
      | some e =>
        if e.buf = true ∧ e.st = .pending then
          if r.res = 1 ∨ r.res = 3 then (s.modG k (fun e => { e with st := .sent, buf := false })).bump Addr.FLT_GCNT Fl.FLT_GCNT_SENT
          else (s.modG k (fun e => { e with st := .suppressed, buf := false })).bump Addr.FLT_GCNT Fl.FLT_GCNT_SUPP
        else s
      | none => s) := by
    intro s k r
    split
    · exact still_ite _ (still_ite _ ((still_modG _ _ _).trans (still_wf _ _ _ _)) ((still_modG _ _ _).trans (still_wf _ _ _ _))) (Still.refl _)
    · exact Still.refl _
  have h3 := still_foldl s _ (List.range 16) (fun t k _ => h1 t k ((s.canS 1).txO 128))
  split
  · exact h3
  · split
    · exact (h3.trans (still_modCan _ _ _)).trans (still_modG _ _ _)
    · exact h3

theorem still_handling (s : State) : Still s s.handling := by
  simp only [State.handling]
  split
  · exact Still.refl _
  · have h := still_ite (c := (s.atStandstill || decide (s.now ≥ s.flt.hT + s.rf Addr.FLT_RCFG Fl.FLT_RCFG_SDLY * 2000000)) = true) s
      ((still_modFio s _).trans (still_modFlt (s.openPairs s.flt.hSel) (fun x => { x with hSel := 0 }))) (Still.refl _)
    exact still_ite _ (h.trans (still_modFlt _ _)) h
  · exact still_ite _ (still_modFlt _ _) (Still.refl _)

theorem ax_claimUpd (s : State) : s.claimUpd.ax = s.ax := by
  simp only [State.claimUpd]
  split
  · rfl
  · simp only [State.sendBeacon]; split <;> rfl

theorem ax_irq (s : State) (g x : Nat) : (s.irq g x).ax = s.ax := (still_irq s g x).ax

theorem ax_fioEval (s : State) : s.fioEval.ax = s.ax := by
  simp only [State.fioEval, State.gateWindow, State.setFstat, State.wf_ax, State.wr_ax]
  have hi : ∀ (c : Prop) [Decidable c] (a b : State), (if c then a else b).ax = if c then a.ax else b.ax := by intros; split <;> rfl
  simp only [hi, ax_irq, State.modFio_ax, ite_self]

/-- A calm command's axes are those of its effect. -/
theorem ax_settle (s : State) (h : s.calm) : s.settle.ax = s.ax := by
  have h1 := still_answerAll s 4 h
  have h2 := h1.trans (still_numberRecs _)
  have h3 := h2.trans (still_answerAll _ 4 (h2.calm h))
  have h4 := h3.trans (still_numberRecs _)
  have h5 := h4.trans ((still_gleanBuf _).trans (still_handling _))
  simp only [State.settle]
  generalize ((((s.answerAll 4).numberRecs).answerAll 4).numberRecs).gleanBuf.handling = w at h5
  have h6 := h5.trans (still_ite (c := (w.cia.act && !w.faultActive) = true) w (still_of (t := w.emcy ⟨0, 0, 0⟩) rfl rfl) (Still.refl _))
  generalize (if (w.cia.act && !w.faultActive) = true then w.emcy ⟨0, 0, 0⟩ else w) = v at h6
  have hz : ∀ u : State, u.zeroTimes.ax = u.ax := fun u => by simp only [State.zeroTimes, State.modFlt_ax]
  rw [hz, ax_fioEval, ax_claimUpd]
  exact h6.ax

/-- A calm command completes with the axes of its effect as well. -/
theorem completes_calm {c : Instr} {s t : State} {P : State → Prop} (h : exec c s = s.done t) (hc : t.calm)
    (hp : ∀ u, u.pending = s.pending → Keep { t with id := s.id } u → u.ax = t.ax → P u) : Completes c s P := by
  have hk := keep_settle { t with id := s.id }
  have ha : ({ t with id := s.id } : State).settle.ax = t.ax := ax_settle { t with id := s.id } hc
  rw [State.done] at h
  generalize ({ t with id := s.id } : State).settle = w at h hk ha
  exact ⟨_, h, hp { w with pending := s.pending } rfl ⟨hk.id, hk.mem, hk.pend, hk.smem, hk.intp, hk.frm, hk.ecyc, hk.cyc, hk.sch, hk.hops, hk.fb, hk.drv, hk.dor, hk.thr,
    hk.stp, hk.bid, hk.nrg, hk.hdl, hk.loft, hk.pwr, hk.hlk, hk.sdo, hk.ctl, hk.free, hk.fio, hk.pair, hk.cia, hk.can0, hk.can1, hk.flt, hk.rcd, hk.tx, hk.fst, hk.pst, hk.irq, hk.rd⟩ ha⟩

end Sys2Proof.Machine
end

