-- ==== Sys2Proof/Laws/Hopper.lean ====
section
/-! SUPPORT. Laws of the hoppers (R60–R62): what a push with room and a pop of waiting words do, and that they do nothing else. -/

namespace Sys2Proof.Machine

theorem hop_setHop (s : State) (h k : Nat) (ws : List Word) : (s.setHop h ws).hop k = if k = h then ws else s.hop k := by
  simp only [State.hop, State.setHop]
  split
  · subst_vars
    split
    · subst_vars; rw [aget_adel_same]; rfl
    · rw [aget_adel_ne _ _ _ (by omega)]
  · split
    · subst_vars; rw [aget_aput_same]; rfl
    · rw [aget_aput_ne _ _ _ _ (by omega)]

/-- Everything but the hoppers. -/
def State.offHops (s : State) : State := { s with hops := [] }

theorem setHop_offHops (s : State) (h : Nat) (ws : List Word) : (s.setHop h ws).offHops = s.offHops := rfl

theorem depth_setHop (s : State) (h k : Nat) (ws : List Word) : (s.setHop h ws).depth k = s.depth k := rfl

/-- A push that finds room adds its words in order, and does nothing else. -/
theorem push_room (ws : List Word) (s : State) (h : Nat) (hr : s.room h ws.length) :
    (s.push h ws).offHops = s.offHops ∧ ∀ k, (s.push h ws).hop k = if k = h then s.hop h ++ ws else s.hop k := by
  induction ws generalizing s with
  | nil => exact ⟨rfl, fun k => by simp only [State.push, List.append_nil]; split <;> simp_all⟩
  | cons w ws ih =>
    obtain ⟨h1, h2⟩ := hr
    simp only [List.length_cons] at h2
    have hlt : (s.hop h).length < s.depth h := by omega
    simp only [State.push, h1, if_false, hlt, if_true]
    have := ih (s.setHop h (s.hop h ++ [w])) ⟨h1, by rw [hop_setHop, if_pos rfl, depth_setHop]; simp; omega⟩
    refine ⟨this.1, fun k => ?_⟩
    rw [this.2 k, hop_setHop, hop_setHop]
    split <;> simp_all

/-- The hopper 0xFF takes no word (R61). -/
theorem push_none (ws : List Word) (s : State) : s.push 0xFF ws = s := by
  cases ws <;> simp [State.push]

/-- A pop of waiting words takes them in order, and does nothing else. -/
theorem pop_waiting (n : Nat) (s : State) (h : Nat) (h1 : h ≠ 0xFF) (h2 : n ≤ (s.hop h).length) :
    (s.pop h n).1 = (s.hop h).take n ∧ (s.pop h n).2.offHops = s.offHops ∧
      ∀ k, (s.pop h n).2.hop k = if k = h then (s.hop h).drop n else s.hop k := by
  induction n generalizing s with
  | zero => exact ⟨rfl, rfl, fun k => by simp only [State.pop, List.drop_zero]; split <;> simp_all⟩
  | succ n ih =>
    cases hq : s.hop h with
    | nil => simp [hq] at h2
    | cons w q =>
      have := ih (s.setHop h q) (by rw [hop_setHop, if_pos rfl]; simp [hq] at h2; omega)
      simp only [State.pop, h1, if_false, hq]
      refine ⟨?_, this.2.1, fun k => ?_⟩
      · rw [this.1, hop_setHop, if_pos rfl]; rfl
      · rw [this.2.2 k, hop_setHop, hop_setHop]
        split <;> simp_all

/-- The hopper 0xFF gives words 0 (R61). -/
theorem pop_none (n : Nat) (s : State) : s.pop 0xFF n = (List.replicate n 0, s) := by
  cases n <;> simp [State.pop]

/-- Two states that agree off the hoppers agree in every other part. -/
theorem offHops_eq {s t : State} (h : t.offHops = s.offHops) :
    t.id = s.id ∧ t.mem = s.mem ∧ t.regs = s.regs ∧ t.pend = s.pend ∧ t.smem = s.smem ∧ t.intp = s.intp ∧ t.frm = s.frm ∧ t.sch = s.sch ∧
      t.fb = s.fb ∧ t.ax = s.ax ∧ t.drv = s.drv ∧ t.dor = s.dor ∧ t.thr = s.thr ∧ t.stp = s.stp ∧ t.can = s.can ∧ t.bid = s.bid ∧ t.nrg = s.nrg ∧
      t.fio = s.fio ∧ t.hdl = s.hdl ∧ t.pair = s.pair ∧ t.raised = s.raised ∧ t.free = s.free := by
  simp only [State.offHops, State.mk.injEq] at h
  simp [h]

end Sys2Proof.Machine
end

