-- ==== Sys2Proof/WellFormed.lean ====
section
/-! DEFINITION. Which commands are well formed: every operand inside the range that the manual gives it. The meanings are total;
a command outside these ranges stands for nothing that can happen. -/

namespace Sys2Proof

def bytesWf (bs : List Nat) : Bool := bs.all (fun b => decide (b < 256))

/-- A pad's run of equal samples: FILT + 1 is at most 8 (R116). -/
def padWf (p : Pad) : Bool := decide (p.run ≤ 8)

def hallWf (h : HallPads) : Bool := padWf h.h1 && padWf h.h2 && padWf h.h3

def zpadWf (z : ZPad) : Bool := padWf z.pad && decide (z.cyc < 25004)

/-- A CAN frame: an 11-bit or 29-bit identifier, DLC 0 to 15, whole bytes (R453). -/
def frmWf (f : CanFrm) : Bool :=
  (if f.ide then decide (f.id < 2 ^ 29) else decide (f.id < 2 ^ 11)) && decide (f.dlc < 16) && decide (f.data.length ≤ 64) && bytesWf f.data

/-- A host request: bytes, at most the longest payload of R534. -/
def reqWf (r : HReq) : Bool :=
  decide (r.addr < 256) && decide (r.tag < 256) && decide (r.body.length ≤ 1032) && bytesWf r.body && decide (r.cyc < 25004)

/-- Inputs of a frame edge. -/
def frameInWf (i : FrameIn) : Bool :=
  i.adc.all (fun l => l.all (fun v => decide (v < 2 ^ 23))) && i.sd.all (fun l => l.all (fun v => decide (v < 2 ^ 2500))) && decide (i.mis < 2 ^ 20) &&
    decide (i.vf < 65536)

/-- Fields of a BEACON (R562). -/
def beaconWf (b : Machine.Beacon) : Bool :=
  decide (b.claim < 16) && decide (b.mst < 8) && decide (b.role < 5) && decide (b.frame < 2 ^ 32) && decide (b.conf < 2 ^ 32)

/-- Is a command well formed? -/
def Instr.wf (i : Instr) : Bool :=
  match i with
  | .frameBoundary i => frameInWf i
  | .release => true
  | .frameCommit => true
  | .accumulationIntervalEnd => true
  | .hopperCheck es => es.all (fun e => decide (e.mem < 12))
  | .frameOverrun k cyc => decide (k < 4096) && decide (cyc < 25004)
  | .backgroundCrcPass => true
  | .hmove k => decide (k < 4096)
  | .inLatch k => decide (k < 4096)
  | .edgePop k => decide (k < 4096)
  | .outStage k => decide (k < 4096)
  | .fbLatch k => decide (k < 4096)
  | .fbSpeed k => decide (k < 4096)
  | .sdTake k => decide (k < 4096)
  | .rms k => decide (k < 4096)
  | .acc k => decide (k < 4096)
  | .rxTake k => decide (k < 4096)
  | .txStage k => decide (k < 4096)
  | .imgTake k => decide (k < 4096)
  | .imgSend k => decide (k < 4096)
  | .fmaBlk k _ => decide (k < 4096)
  | .piLoop k _ => decide (k < 4096)
  | .pidLoop k _ => decide (k < 4096)
  | .plaus k _ => decide (k < 4096)
  | .blend k _ => decide (k < 4096)
  | .segEval k => decide (k < 4096)
  | .limChk k => decide (k < 4096)
  | .homeStep k => decide (k < 4096)
  | .envelope k _ => decide (k < 4096)
  | .termChk k _ => decide (k < 4096)
  | .ovsChk k _ => decide (k < 4096)
  | .shaftChk k _ => decide (k < 4096)
  | .zoneChk k _ => decide (k < 4096)
  | .ucmChk k _ => decide (k < 4096)
  | .stopScan k => decide (k < 4096)
  | .stpCommit k => decide (k < 4096)
  | .cost k => decide (k < 4096)
  | .bidStage k => decide (k < 4096)
  | .doorSeq k => decide (k < 4096)
  | .forceEst k => decide (k < 4096)
  | .pwmStage k => decide (k < 4096)
  | .stepStage k => decide (k < 4096)
  | .chopUpd k => decide (k < 4096)
  | .smemLoad k => decide (k < 4096)
  | .smemStore k => decide (k < 4096)
  | .compareLoad n cyc => decide (n < 6) && decide (cyc < 25004)
  | .quadratureEdge n a b cyc => decide (n < 8) && padWf a && padWf b && decide (cyc < 25004)
  | .hallTransition n h cyc => decide (n < 8) && hallWf h && decide (cyc < 25004)
  | .qualifiedIndex n z => decide (n < 8) && zpadWf z
  | .serialWord n _ data _ _ crc cyc => decide (n < 8) && decide (data < 2 ^ 64) && decide (crc < 2 ^ 64) && decide (cyc < 25004)
  | .serialTimeout n => decide (n < 8)
  | .standstill n => decide (n < 8)
  | .posSet n => decide (n < 8)
  | .zrefClr n => decide (n < 8)
  | .zarm n => decide (n < 8)
  | .positionSnapshotRead n => decide (n < 8)
  | .axMove n => decide (n < 6)
  | .axTable n => decide (n < 6)
  | .axHalt n => decide (n < 6)
  | .axAbort n => decide (n < 6)
  | .axHome n => decide (n < 6)
  | .chatClr n => decide (n < 6)
  | .posset n => decide (n < 6)
  | .dwellElapsed n => decide (n < 6)
  | .homingTimeout n cyc => decide (n < 6) && decide (cyc < 25004)
  | .chatterLatch n k => decide (n < 6) && decide (k < 3)
  | .currentReduction n cyc => decide (n < 6) && decide (cyc < 25004)
  | .stepIssued n cyc => decide (n < 6) && decide (cyc < 25004)
  | .overcurrent n uv cyc => decide (n < 6) && decide (uv < 2 ^ 23) && decide (cyc < 25004)
  | .ocClear n => decide (n < 6)
  | .drivePhaseEnd n x uv peak cyc => decide (n < 6) && decide (x < 2) && decide (uv < 2 ^ 23) && decide (peak < 2 ^ 23) && decide (cyc < 25004)
  | .decayPhaseEnd n x uv cyc => decide (n < 6) && decide (x < 2) && decide (uv < 2 ^ 23) && decide (cyc < 25004)
  | .doorOpen d => decide (1 ≤ d) && decide (d ≤ 4)
  | .doorClose d => decide (1 ≤ d) && decide (d ≤ 4)
  | .doorNudge d => decide (1 ≤ d) && decide (d ≤ 4)
  | .doorStop d => decide (1 ≤ d) && decide (d ≤ 4)
  | .doorFreset d => decide (1 ≤ d) && decide (d ≤ 4)
  | .holdTimerExpiry d cyc => decide (1 ≤ d) && decide (d ≤ 4) && decide (cyc < 25004)
  | .tlockExpiry d cyc => decide (1 ≤ d) && decide (d ≤ 4) && decide (cyc < 25004)
  | .tmoveExceeded d cyc => decide (1 ≤ d) && decide (d ≤ 4) && decide (cyc < 25004)
  | .setCc e => decide (e < 1024)
  | .clearCc e => decide (e < 1024)
  | .awardHu e => decide (e < 1024)
  | .awardHd e => decide (e < 1024)
  | .withdrawHu e => decide (e < 1024)
  | .withdrawHd e => decide (e < 1024)
  | .clearEveryCc => true
  | .addDestinationRecord e dest side pax => decide (e < 1024) && decide (dest < 256) && decide (side < 2) && decide (pax < 64)
  | .resume => true
  | .tstartExpiry cyc => decide (cyc < 25004)
  | .relevelTrigger => true
  | .relevelTimeout cyc => decide (cyc < 25004)
  | .hallCallWord w => decide (w < 2 ^ 32)
  | .dupclr => true
  | .announce f _ => frmWf f
  | .tick f _ => frmWf f
  | .bid f _ => frmWf f
  | .holdFrame f _ => frmWf f
  | .closeFrame f _ => frmWf f
  | .status f _ => frmWf f
  | .statusPeriod => true
  | .holdPublication k => decide (k < 192)
  | .carAbsent n => decide (n < 64)
  | .tripclr => true
  | .guardArmed => true
  | .overspeed => true
  | .escalationTrip src => decide (src < 2)
  | .neighbourRecordMissing => true
  | .zoneDisagreement => true
  | .inputChange k _ _ cyc => decide (k < 32) && decide (cyc < 25004)
  | .edgeAccepted k _ cyc => decide (k < 32) && decide (cyc < 25004)
  | .runAbandoned k _ cyc => decide (k < 32) && decide (cyc < 25004)
  | .staleInput k cyc => decide (k < 32) && decide (cyc < 25004)
  | .staleFlagClear m => decide (m < 2 ^ 32)
  | .tapDiscrepancy j cyc => decide (j < 8) && decide (cyc < 25004)
  | .readbackDisagreement k => decide (k < 16)
  | .safetyChannelStuck k => decide (k < 4)
  | .safetyChannelFailed k => decide (k < 4)
  | .outputOverload k => decide (k < 16)
  | .silentLogic cyc => decide (cyc < 25004)
  | .fieldStart => true
  | .field24Warning => true
  | .field24Fault => true
  | .field24Recovered cyc => decide (cyc < 25004)
  | .fieldLost => true
  | .fieldPulsesResumed cyc => decide (cyc < 25004)
  | .arma => true
  | .armb => true
  | .edgeRecordRead g => decide (g < 4)
  | .clr => true
  | .snap => true
  | .modulatorStuck c => decide (c < 8)
  | .forcedBoundary => true
  | .checkpoint => true
  | .pulseStart => true
  | .pulseHighEnd => true
  | .pulseLowEnd => true
  | .canFrameReceived x cyc f age => decide (x < 2) && decide (cyc < 25004) && frmWf f && decide (age < 2 ^ 32)
  | .transmitStart x cyc => decide (x < 2) && decide (cyc < 25004)
  | .arbitrationLost x cyc => decide (x < 2) && decide (cyc < 25004)
  | .transmitComplete x cyc tdc => decide (x < 2) && decide (cyc < 25004) && decide (tdc < 4096)
  | .alone x => decide (x < 2)
  | .busError x cyc e => decide (x < 2) && decide (cyc < 25004) && decide (e.code < 8)
  | .releaseInstantDue x k cyc => decide (x < 2) && decide (k < 128) && decide (cyc < 25004)
  | .req x => decide (x < 2)
  | .cancel x => decide (x < 2)
  | .borq x => decide (x < 2)
  | .busOffRecoveryDone x => decide (x < 2)
  | .integrationDone x => decide (x < 2)
  | .sleep x => decide (x < 2)
  | .sleepEntry x => decide (x < 2)
  | .wake x => decide (x < 2)
  | .wakeEvent x => decide (x < 2)
  | .lockTimeout x cyc => decide (x < 2) && decide (cyc < 25004)
  | .rxWindowRead x w => decide (x < 2) && decide (w < 19)
  | .rxSelect x k => decide (x < 2) && decide (k < 128)
  | .hpBufferRead x => decide (x < 2)
  | .sdoDownloadInitiate x cyc bs => decide (x < 2) && decide (cyc < 25004) && bytesWf bs && decide (bs.length = 8)
  | .sdoUploadInitiate x cyc bs => decide (x < 2) && decide (cyc < 25004) && bytesWf bs && decide (bs.length = 8)
  | .sdoSegment x cyc bs => decide (x < 2) && decide (cyc < 25004) && bytesWf bs && decide (bs.length = 8)
  | .sdoTimeout x cyc => decide (x < 2) && decide (cyc < 25004)
  | .startRemoteNode node => decide (node < 128)
  | .stopRemoteNode node => decide (node < 128)
  | .enterPreOperational node => decide (node < 128)
  | .resetNode node => decide (node < 128)
  | .resetCommunication node => decide (node < 128)
  | .bootUp cyc => decide (cyc < 25004)
  | .heartbeat cyc => decide (cyc < 25004)
  | .emcySend cyc => decide (cyc < 25004)
  | .epoch r => reqWf r
  | .ident r => reqWf r
  | .objRead r => reqWf r
  | .objWrite r => reqWf r
  | .regRead r => reqWf r
  | .regWrite r => reqWf r
  | .bulkOpen r => reqWf r
  | .bulkData r => reqWf r
  | .bulkClose r => reqWf r
  | .recRead r => reqWf r
  | .fetch r => reqWf r
  | .hostFrameError _ => true
  | .response cyc _ => decide (cyc < 25004)
  | .epochLost cyc => decide (cyc < 25004)
  | .bulkSessionTimeout cyc => decide (cyc < 25004)
  | .beaconReceived _ b cyc => beaconWf b && decide (cyc < 25004)
  | .imageReceived _ _ cyc => decide (cyc < 25004)
  | .markerReceived _ frame count cyc => decide (frame < 2 ^ 32) && decide (count < 2 ^ 32) && decide (cyc < 25004)
  | .pairLinkLost => true
  | .claimWord w cyc => decide (w < 65536) && decide (cyc < 25004)
  | .peerClaimTimeout cyc => decide (cyc < 25004)
  | .gapHoldEnd cyc => decide (cyc < 25004)
  | .takeover => true
  | .peerWaitTimeout cyc => decide (cyc < 25004)
  | .discord => true
  | .handreq => true
  | .resync => true
  | .sdlyExpired cyc => decide (cyc < 25004)
  | .handlingEnd cyc => decide (cyc < 25004)
  | .rearm => true
  | .ack => true
  | .holdOffEnd k => decide (k < 16)
  | .windowEnd k cyc => decide (k < 16) && decide (cyc < 25004)
  | .reportDrop k cyc => decide (k < 16) && decide (cyc < 25004)
  | .crcPreset p => decide (1 ≤ p) && decide (p ≤ 4)
  | .crcStart => true
  | .crcOpen => true
  | .crcData _ => true
  | .crcClose => true
  | .crcAbort => true
  | .crcJobDone _ => true
  | .flush => true
  | .flushTimer cyc => decide (cyc < 25004)
  | .flushEnd bad => bad.all (fun b => decide (b < 1024))
  | .eraseDone _ => true
  | .clear => true
  | .wallTimeSet _ => true
  | .recordWindowRead => true
  | .loftScanDone _ => true
  | .powerOnReset => true
  | .brownOut => true
  | .resetPad => true
  | .railOutOfRange r _ => decide (r < 3)
  | .railRecovered r => decide (r < 3)
  | .oscillatorStable => true
  | .pllLock us => decide (us < 65536)
  | .resetEnd => true
  | .memoryInitDone => true
  | .bootSlotChecked => true
  | .pllLockLost => true
  | .powerFailWarning => true
  | .configCommand => true
  | .readyCommand => true
  | .runCommand => true
  | .holdCommand => true
  | .fclr => true
  | .loadCommand => true
  | .loadCheckDone => true
  | .storeCommand => true
  | .storeDone fails _ => decide (fails < 65536)
  | .resetCommand => true
  | .verifyRequest => true
  | .switchRequest => true
  | .bankCheckDone => true
  | .jointSwapRequest => true
  | .swapRequest a => decide (a < 2 ^ 32)
  | .frameCounterRead => true
  | .readClear a => decide (a < 2 ^ 32)
  | .writeRegister a _ => decide (a < 2 ^ 32)
  | .rateRead n => decide (n < 6)
  | .frameOffsetRead => true
  | .faultFrameRead _ => true
  | .wallTimeRead => true
  | .powerFailWarningEnd => true
  | .modulatorDataResumed c => decide (c < 8)

end Sys2Proof
end

