-- ==== Sys2Proof/Tests/Slice0.lean ====
section
/-! SUPPORT. Tests on small states: commands that are not well formed, what single commands do, and for every statement states and operands that meet
its hypotheses. Expected values come from the rules cited, by hand. -/

namespace Sys2Proof.Tests

open Sys2Proof Sys2Proof.Machine

set_option Elab.async false
set_option linter.unusedVariables false

/-! ### Small states -/

/-- Slots of a sheaf with one slot for every operation of R69. -/
def wSlots : List Slot :=
  [⟨1, 1, 0, 1, 0, 0, 2, 0, 1, 0⟩, ⟨2, 1, 0, 0, 0, 0, 1, 0xFF, 2, 0⟩, ⟨2, 2, 0, 0, 0, 0, 4, 0xFF, 3, 0⟩, ⟨2, 3, 0, 1, 0, 0, 1, 4, 0xFF, 0⟩,
   ⟨3, 1, 0, 0, 0, 0, 1, 0xFF, 0xFF, 0⟩, ⟨3, 2, 0, 1, 0, 0, 1, 0xFF, 0xFF, 0⟩, ⟨4, 1, 0, 0, 0, 0, 1, 0xFF, 0xFF, 0⟩, ⟨4, 2, 0, 1, 0, 0, 1, 0xFF, 0xFF, 0⟩,
   ⟨4, 3, 0, 1, 0, 0, 1, 0xFF, 0xFF, 0⟩, ⟨5, 1, 0, 0, 0, 0, 1, 0xFF, 5, 0⟩, ⟨6, 1, 0, 0, 0, 0, 1, 0xFF, 6, 0x8000⟩, ⟨6, 2, 0, 1, 0, 0, 1, 7, 0xFF, 0⟩,
   ⟨7, 1, 0, 0, 0, 0, 8, 0xFF, 0xFF, 0⟩, ⟨7, 2, 0, 2, 0, 0, 8, 0xFF, 0xFF, 0⟩, ⟨8, 1, 0, 1, 0, 0, 1, 8, 9, 0⟩, ⟨8, 2, 0, 1, 0, 0, 1, 10, 11, 0⟩] ++
  [⟨8, 3, 0, 1, 0, 0, 1, 12, 13, 0⟩, ⟨8, 4, 0, 1, 0, 0, 1, 14, 0xFF, 0⟩, ⟨8, 5, 0, 1, 0, 0, 1, 15, 16, 0⟩, ⟨9, 1, 1, 1, 0, 0, 1, 0xFF, 0xFF, 0⟩,
   ⟨9, 2, 1, 1, 0, 0, 1, 0xFF, 0xFF, 0⟩, ⟨9, 3, 1, 1, 0, 0, 1, 0xFF, 0xFF, 0⟩, ⟨10, 1, 0, 1, 0, 0, 1, 0xFF, 0xFF, 0⟩, ⟨10, 2, 0, 1, 0, 0, 1, 0xFF, 0xFF, 0⟩,
   ⟨10, 3, 0, 1, 0, 0, 1, 0xFF, 0xFF, 0⟩, ⟨10, 4, 0, 1, 0, 0, 1, 0xFF, 0xFF, 0⟩, ⟨10, 5, 0, 1, 0, 0, 1, 0xFF, 0xFF, 0⟩, ⟨10, 6, 0, 1, 0, 0, 1, 0xFF, 0xFF, 0⟩,
   ⟨11, 1, 0, 1, 0, 0, 1, 0xFF, 0xFF, 0⟩, ⟨11, 2, 0, 1, 0, 0, 1, 0xFF, 17, 0⟩, ⟨12, 1, 0, 1, 0, 0, 1, 0xFF, 18, 0x200⟩, ⟨12, 2, 0, 1, 0, 0, 1, 0xFF, 19, 2⟩] ++
  [⟨13, 1, 1, 1, 0, 0, 1, 0xFF, 0xFF, 0⟩, ⟨13, 2, 1, 1, 0, 0, 1, 0xFF, 20, 0⟩, ⟨14, 1, 1, 1, 0, 0, 1, 21, 0xFF, 0⟩, ⟨14, 2, 1, 1, 0, 0, 1, 0xFF, 0xFF, 0⟩,
   ⟨14, 3, 1, 1, 0, 0, 1, 22, 0xFF, 0⟩, ⟨15, 1, 0, 0, 0, 0, 2, 0xFF, 23, 0x20080000⟩, ⟨15, 2, 0, 2, 0, 0, 2, 24, 0xFF, 0x20080000⟩, ⟨2, 1, 0, 0, 0, 0, 1, 0xFF, 25, 0⟩,
   ⟨2, 1, 0, 0, 0, 0, 1, 0xFF, 0xFF, 0⟩]

def wSlot (k : Nat) : Slot := wSlots.getD k ⟨0, 0, 0, 0, 0, 0, 0, 0, 0, 0⟩

/-- Records: a program with one input and one output, a loop, a blend point of axis 0 without sources, a plausibility check (R208, R211–R213); receive
object 3 (owner software), receive object 4 (queue) and transmit object 5 (owner software, FD) of CANA (R459). -/
def wFma : SRec := ⟨1, 0, 0x0101, 4, [0x00010100, 0, 0], 0⟩
def wLoop : SRec := ⟨1, 1, 0x0102, 3, [0, 0], 0⟩
def wBlend : SRec := ⟨1, 2, 0x0103, 3, [0, 0xFEFEFEFE], 0⟩
def wPlaus : SRec := ⟨1, 3, 0x0104, 3, [0, 0], 0⟩
def wRx : SRec := ⟨3, 4, 0x0501, 4, [0x203, 0x123, 0x7FF], 0⟩
def wRxQ : SRec := ⟨3, 5, 0x0501, 4, [0x104, 0x124, 0x7FF], 0⟩
def wTx : SRec := ⟨3, 6, 0x0501, 4, [0xA85, 0x125, 0], 0⟩

/-- A sheaf of those slots and records, of role SHAFT, over an image of four bytes. -/
def wSheaf : Sheaf :=
  ⟨4, crc32c [], 0, 1, 2, 100, 200, 300, 400, 0, 0, [2, 2, 1, 8, 1, 4, 4, 4, 1, 1, 3, 1, 3, 1, 2, 1, 1, 4, 2, 8, 3, 2, 1, 2, 2, 1] ++ List.replicate 38 0,
   wSlots, [wFma, wLoop, wBlend, wPlaus, wRx, wRxQ, wTx], 0, 0⟩

/-- A module after reset in a module state, with a claim of the peer seen by nobody. -/
def inMode (m : MSt) : State := State.reset.wf Addr.PWR_MSTATE Fl.PWR_MSTATE_STATE m.code

/-- A module in RUN that runs `wSheaf`: words in the hoppers that slots pop, an edge record, quadrature on channel 0, a stepper on axis 1, door 1 and dispatch enabled, a
landing table of 256 landings of which the first two and the last are open. -/
def base : State :=
  let s : State := { (inMode .RUN) with
    sch := { SchS.init with active := some wSheaf }
    hops := [(0, [1, 2]), (4, [5]), (7, [1, 2, 3, 4]), (8, [0x3F800000]), (10, [0, 0, 0]), (12, [0, 0, 0]), (14, [0x3F800000, 0]), (15, [0x3F800000]),
      (21, [0, 0]), (22, [0x3F800000]), (24, [6, 7]), (25, [9])] }
  let s := s.modFio (fun f => { f with fifo := [[(0x80000000, 0, 0)], [(0x91000000, 7, 3), (0x80000000, 8, 4)], [], []] })
  let s := s.modStp (fun x => { x with la := ⟨256, [], [(0, 15), (1, 15), (255, 15)]⟩ })
  let s := s.wf (Addr.FB_CTL 0) Fl.FB_CTL_MODE 1
  let s := s.wf (Addr.AX_PCFG 1) Fl.AX_PCFG_DRIVE 2
  let s := s.wf (Addr.DOR_CFG 1) Fl.DOR_CFG_EN 1
  s.wf Addr.BID_CFG Fl.BID_CFG_EN 1

/-- The same in another module state. -/
def baseIn (m : MSt) : State := base.wf Addr.PWR_MSTATE Fl.PWR_MSTATE_STATE m.code

def noIn : FrameIn := ⟨[], [], 0, 2400, false, false⟩

/-- A passing sheaf image of one slot, IN_LATCH into no hopper (R64–R68), built by hand; and its bytes that are not 0 by offset. -/
def wImg : List Nat :=
  [0x53, 0x48, 0x46, 0x31, 0, 1, 0x80, 0, 0x14, 1, 0, 0, 0, 2, 0, 0, 1, 0, 0, 0, 100, 0, 200, 0, 44, 1, 144, 1, 1, 0, 0, 0, 6, 0, 0, 0] ++
  List.replicate 8 0 ++ [6] ++ List.replicate 19 0 ++ [0x80, 0, 0, 0, 16, 0, 0, 0] ++ List.replicate 40 0 ++ [0x90, 0, 0, 0, 0x80, 0, 0, 0] ++
  List.replicate 8 0 ++ [2, 1, 0, 0, 0, 0, 6, 0, 1, 0, 0xFF, 0xFF, 0, 0, 0, 0] ++ List.replicate 128 0 ++ [59, 66, 99, 249]

/-- Bank B holds that image, bank A nothing. -/
def withImg (s : State) : State := { s with mem := putBytes s.mem (bankBase 1) wImg }

/-- The state a command leaves. -/
def out : Host.Outcome State Fault Refusal → State
  | .next t => t
  | _ => State.reset

def frame (id : Nat) (ide : Bool) (data : List Nat) : CanFrm := ⟨id, ide, false, false, false, data.length, data, 0, false⟩
def hreq (body : List Nat) : HReq := ⟨0, 7, body, 100⟩
def hallCall : Nat := 0x10000001
def bidE : BidE := { BidE.init with st := 1, seq := 9, idw := 0x1234, mine := true }
def gent : GEnt := ⟨0x4301, .holdoff, 1, 0, 2, 0, 0, 0, false, 0⟩
def rec0 : RecR := ⟨0, 0, 0, false, false, false, 1, 1, 1, 1, 0, 0, 0⟩
def wf0 : WinF := ⟨true, false, true, false, 0, 0, 0⟩

/-- A module in LOAD whose loft holds that image in slot 1. -/
def bootState : State :=
  (((inMode .LOAD).wf Addr.REC_STAT Fl.REC_STAT_READY 1).modPwr (fun p => { p with
    load := 1, memInit := false, desc := ⟨[⟨false, 0, 0, false, 0⟩, ⟨true, wImg.length, 0, true, 1⟩], 0, 0⟩ })).modLoft
    (fun l => { l with imgs := [[], wImg] })

theorem ok_of {α β : Type} [DecidableEq β] {x : Except α β} {e : β} (h : x.toOption = some e) : x = .ok e := by
  cases x with
  | error _ => simp [Except.toOption] at h
  | ok a => simp [Except.toOption] at h; rw [h]

theorem some_of (p : Chk × Option Sheaf) (d : Sheaf) (h : p.2.isSome = true) : p = (p.1, some (p.2.getD d)) := by
  obtain ⟨c, o⟩ := p
  cases o with
  | none => simp at h
  | some x => rfl


/-! ### Well-formedness -/

def wFrm : CanFrm := ⟨0, false, false, false, false, 0, [], 0, false⟩
def wReq : HReq := ⟨0, 0, [], 0⟩
def wHall : HallPads := ⟨⟨false, 8⟩, ⟨true, 8⟩, ⟨true, 0⟩⟩
def wZ : ZPad := ⟨⟨true, 8⟩, 25003⟩
def wErr : BusErr := ⟨0, false, false, false, 0, none⟩
def wBcn : Machine.Beacon := ⟨0, 0, 0, false, false, false, 0, 0⟩
def b8 : List Nat := [0, 0, 0, 0, 0, 0, 0, 0]

theorem test_wf_frame_bits : frmWf { wFrm with id := 2047 } = true ∧ frmWf { wFrm with id := 2048 } = false ∧
    frmWf { wFrm with ide := true, id := 2 ^ 29 - 1 } = true ∧ frmWf { wFrm with ide := true, id := 2 ^ 29 } = false ∧ frmWf { wFrm with dlc := 16 } = false ∧
    frmWf { wFrm with data := [256] } = false ∧ frmWf { wFrm with data := List.replicate 65 0 } = false := by decide

theorem test_wf_pads : padWf ⟨true, 8⟩ = true ∧ padWf ⟨true, 9⟩ = false ∧ hallWf { wHall with h1 := ⟨true, 9⟩ } = false ∧ hallWf { wHall with h2 := ⟨true, 9⟩ } = false ∧
    zpadWf { wZ with pad := ⟨true, 9⟩ } = false := by decide

theorem test_wf_request : reqWf wReq = true ∧ reqWf { wReq with addr := 256 } = false ∧ reqWf { wReq with tag := 256 } = false ∧
    reqWf { wReq with body := [256] } = false ∧ reqWf { wReq with cyc := 25004 } = false := by decide

theorem test_wf_request_length : reqWf { wReq with body := List.replicate 1033 0 } = false := by decide +kernel

theorem test_wf_frame_inputs : frameInWf noIn = true ∧ frameInWf { noIn with adc := [[2 ^ 23]] } = false ∧
    frameInWf { noIn with mis := 2 ^ 20 } = false ∧ frameInWf { noIn with vf := 65536 } = false := by decide

theorem test_wf_beacon : beaconWf wBcn = true ∧ beaconWf { wBcn with claim := 16 } = false ∧ beaconWf { wBcn with mst := 8 } = false ∧
    beaconWf { wBcn with role := 5 } = false ∧ beaconWf { wBcn with frame := 2 ^ 32 } = false ∧ beaconWf { wBcn with conf := 2 ^ 32 } = false := by decide

/-- Each term breaks one check of its row. -/
theorem test_wf_refuses_1 : ([.frameBoundary { noIn with mis := 2 ^ 20 }, .hopperCheck [⟨12, 0, false⟩], .frameOverrun 4096 0, .frameOverrun 0 25004, .hmove 4096, .inLatch 4096,
   .edgePop 4096, .outStage 4096, .fbLatch 4096, .fbSpeed 4096, .sdTake 4096, .rms 4096, .acc 4096, .rxTake 4096, .txStage 4096, .imgTake 4096,
   .imgSend 4096, .fmaBlk 4096 false, .piLoop 4096 false, .pidLoop 4096 false, .plaus 4096 false, .blend 4096 false, .segEval 4096, .limChk 4096,
   .homeStep 4096, .envelope 4096 false, .termChk 4096 false, .ovsChk 4096 false, .shaftChk 4096 false, .zoneChk 4096 false, .ucmChk 4096 false,
   .stopScan 4096, .stpCommit 4096, .cost 4096, .bidStage 4096, .doorSeq 4096, .forceEst 4096, .pwmStage 4096, .stepStage 4096, .chopUpd 4096,
   .smemLoad 4096, .smemStore 4096, .compareLoad 6 0, .compareLoad 0 25004, .quadratureEdge 8 ⟨false, 8⟩ ⟨false, 8⟩ 0,
   .quadratureEdge 0 ⟨false, 8⟩ ⟨false, 8⟩ 25004, .quadratureEdge 0 ⟨true, 9⟩ ⟨false, 8⟩ 0, .quadratureEdge 0 ⟨false, 8⟩ ⟨true, 9⟩ 0,
   .hallTransition 8 wHall 0, .hallTransition 0 wHall 25004, .hallTransition 0 { wHall with h3 := ⟨false, 9⟩ } 0, .qualifiedIndex 8 wZ,
   .qualifiedIndex 0 { wZ with cyc := 25004 }, .serialWord 8 false 0 false false 0 0, .serialWord 0 false 18446744073709551616 false false 0 0,
   .serialWord 0 false 0 false false 18446744073709551616 0, .serialWord 0 false 0 false false 0 25004, .serialTimeout 8, .standstill 8, .posSet 8,
   .zrefClr 8, .zarm 8, .positionSnapshotRead 8, .axMove 6] : List Instr).all (fun i => !i.wf) = true := by
  decide +kernel

/-- Each term breaks one check of its row. -/
theorem test_wf_refuses_2 : ([.axTable 6, .axHalt 6, .axAbort 6, .axHome 6, .chatClr 6, .posset 6, .dwellElapsed 6, .homingTimeout 6 0, .homingTimeout 0 25004, .chatterLatch 6 0,
   .chatterLatch 0 3, .currentReduction 6 0, .currentReduction 0 25004, .stepIssued 6 0, .stepIssued 0 25004, .overcurrent 6 0 0,
   .overcurrent 0 8388608 0, .overcurrent 0 0 25004, .ocClear 6, .drivePhaseEnd 6 0 0 0 0, .drivePhaseEnd 0 2 0 0 0, .drivePhaseEnd 0 0 8388608 0 0,
   .drivePhaseEnd 0 0 0 8388608 0, .drivePhaseEnd 0 0 0 0 25004, .decayPhaseEnd 6 0 0 0, .decayPhaseEnd 0 2 0 0, .decayPhaseEnd 0 0 8388608 0,
   .decayPhaseEnd 0 0 0 25004, .doorOpen 5, .doorOpen 0, .doorClose 5, .doorClose 0, .doorNudge 5, .doorNudge 0, .doorStop 5, .doorStop 0, .doorFreset 5,
   .doorFreset 0, .holdTimerExpiry 1 25004, .holdTimerExpiry 5 0, .holdTimerExpiry 0 0, .tlockExpiry 1 25004, .tlockExpiry 5 0, .tlockExpiry 0 0,
   .tmoveExceeded 1 25004, .tmoveExceeded 5 0, .tmoveExceeded 0 0, .setCc 1024, .clearCc 1024, .awardHu 1024, .awardHd 1024, .withdrawHu 1024,
   .withdrawHd 1024, .addDestinationRecord 1024 0 0 0, .addDestinationRecord 0 256 0 0, .addDestinationRecord 0 0 2 0, .addDestinationRecord 0 0 0 64,
   .tstartExpiry 25004, .relevelTimeout 25004, .hallCallWord 4294967296, .announce { wFrm with id := 2048 } false, .tick { wFrm with id := 2048 } false,
   .bid { wFrm with id := 2048 } false, .holdFrame { wFrm with id := 2048 } false] : List Instr).all (fun i => !i.wf) = true := by
  decide +kernel

/-- Each term breaks one check of its row. -/
theorem test_wf_refuses_3 : ([.closeFrame { wFrm with id := 2048 } false, .status { wFrm with id := 2048 } false, .holdPublication 192, .carAbsent 64, .escalationTrip 2,
   .inputChange 32 false false 0, .inputChange 0 false false 25004, .edgeAccepted 32 false 0, .edgeAccepted 0 false 25004, .runAbandoned 32 false 0,
   .runAbandoned 0 false 25004, .staleInput 32 0, .staleInput 0 25004, .staleFlagClear 4294967296, .tapDiscrepancy 8 0, .tapDiscrepancy 0 25004,
   .readbackDisagreement 16, .safetyChannelStuck 4, .safetyChannelFailed 4, .outputOverload 16, .silentLogic 25004, .field24Recovered 25004,
   .fieldPulsesResumed 25004, .edgeRecordRead 4, .modulatorStuck 8, .canFrameReceived 2 0 wFrm 0, .canFrameReceived 0 25004 wFrm 0,
   .canFrameReceived 0 0 wFrm 4294967296, .canFrameReceived 0 0 { wFrm with id := 2048 } 0, .transmitStart 2 0, .transmitStart 0 25004,
   .arbitrationLost 2 0, .arbitrationLost 0 25004, .transmitComplete 2 0 0, .transmitComplete 0 25004 0, .transmitComplete 0 0 4096, .alone 2,
   .busError 2 0 wErr, .busError 0 25004 wErr, .busError 0 0 { wErr with code := 8 }, .releaseInstantDue 2 0 0, .releaseInstantDue 0 128 0,
   .releaseInstantDue 0 0 25004, .req 2, .cancel 2, .borq 2, .busOffRecoveryDone 2, .integrationDone 2, .sleep 2, .sleepEntry 2, .wake 2, .wakeEvent 2,
   .lockTimeout 2 0, .lockTimeout 0 25004, .rxWindowRead 2 0, .rxWindowRead 0 19, .rxSelect 2 0, .rxSelect 0 128, .hpBufferRead 2,
   .sdoDownloadInitiate 2 0 b8, .sdoDownloadInitiate 0 25004 b8, .sdoDownloadInitiate 0 0 [0], .sdoDownloadInitiate 0 0 [256, 0, 0, 0, 0, 0, 0, 0],
   .sdoUploadInitiate 2 0 b8] : List Instr).all (fun i => !i.wf) = true := by
  decide +kernel

/-- Each term breaks one check of its row. -/
theorem test_wf_refuses_4 : ([.sdoUploadInitiate 0 25004 b8, .sdoUploadInitiate 0 0 [0], .sdoUploadInitiate 0 0 [256, 0, 0, 0, 0, 0, 0, 0], .sdoSegment 2 0 b8,
   .sdoSegment 0 25004 b8, .sdoSegment 0 0 [0], .sdoSegment 0 0 [256, 0, 0, 0, 0, 0, 0, 0], .sdoTimeout 2 0, .sdoTimeout 0 25004, .startRemoteNode 128,
   .stopRemoteNode 128, .enterPreOperational 128, .resetNode 128, .resetCommunication 128, .bootUp 25004, .heartbeat 25004, .emcySend 25004,
   .epoch { wReq with addr := 256 }, .ident { wReq with addr := 256 }, .objRead { wReq with addr := 256 }, .objWrite { wReq with addr := 256 },
   .regRead { wReq with addr := 256 }, .regWrite { wReq with addr := 256 }, .bulkOpen { wReq with addr := 256 }, .bulkData { wReq with addr := 256 },
   .bulkClose { wReq with addr := 256 }, .recRead { wReq with addr := 256 }, .fetch { wReq with addr := 256 }, .response 25004 false, .epochLost 25004,
   .bulkSessionTimeout 25004, .beaconReceived ⟨0, 0⟩ wBcn 25004, .beaconReceived ⟨0, 0⟩ { wBcn with claim := 16 } 0,
   .imageReceived ⟨0, 0⟩ ((.shaft [])) 25004, .markerReceived ⟨0, 0⟩ 4294967296 0 0, .markerReceived ⟨0, 0⟩ 0 4294967296 0,
   .markerReceived ⟨0, 0⟩ 0 0 25004, .claimWord 65536 0, .claimWord 0 25004, .peerClaimTimeout 25004, .gapHoldEnd 25004, .peerWaitTimeout 25004,
   .sdlyExpired 25004, .handlingEnd 25004, .holdOffEnd 16, .windowEnd 16 0, .windowEnd 0 25004, .reportDrop 16 0, .reportDrop 0 25004, .crcPreset 5,
   .crcPreset 0, .flushTimer 25004, .flushEnd [1024], .railOutOfRange 3 false, .railRecovered 3, .pllLock 65536, .storeDone 65536 false,
   .swapRequest 4294967296, .readClear 4294967296, .writeRegister 4294967296 0, .rateRead 6, .modulatorDataResumed 8] : List Instr).all (fun i => !i.wf) = true := by
  decide +kernel

/-- One well-formed term of each row, its operands at the top of their ranges. -/
theorem test_wf_accepts_1 : ([.frameBoundary noIn, .release, .frameCommit, .accumulationIntervalEnd, .hopperCheck [], .frameOverrun 4095 25003, .backgroundCrcPass, .hmove 4095,
   .inLatch 4095, .edgePop 4095, .outStage 4095, .fbLatch 4095, .fbSpeed 4095, .sdTake 4095, .rms 4095, .acc 4095, .rxTake 4095, .txStage 4095,
   .imgTake 4095, .imgSend 4095, .fmaBlk 4095 false, .piLoop 4095 false, .pidLoop 4095 false, .plaus 4095 false, .blend 4095 false, .segEval 4095,
   .limChk 4095, .homeStep 4095, .envelope 4095 false, .termChk 4095 false, .ovsChk 4095 false, .shaftChk 4095 false, .zoneChk 4095 false,
   .ucmChk 4095 false, .stopScan 4095, .stpCommit 4095, .cost 4095, .bidStage 4095, .doorSeq 4095, .forceEst 4095, .pwmStage 4095, .stepStage 4095,
   .chopUpd 4095, .smemLoad 4095, .smemStore 4095, .compareLoad 5 25003, .quadratureEdge 7 ⟨false, 8⟩ ⟨false, 8⟩ 25003, .hallTransition 7 wHall 25003,
   .qualifiedIndex 7 wZ, .serialWord 7 false 18446744073709551615 false false 18446744073709551615 25003, .serialTimeout 7, .standstill 7, .posSet 7,
   .zrefClr 7, .zarm 7, .positionSnapshotRead 7, .axMove 5, .axTable 5, .axHalt 5, .axAbort 5, .axHome 5, .chatClr 5, .posset 5, .dwellElapsed 5,
   .homingTimeout 5 25003, .chatterLatch 5 2, .currentReduction 5 25003, .stepIssued 5 25003, .overcurrent 5 8388607 25003, .ocClear 5,
   .drivePhaseEnd 5 1 8388607 8388607 25003, .decayPhaseEnd 5 1 8388607 25003, .doorOpen 4, .doorClose 4, .doorNudge 4, .doorStop 4, .doorFreset 4,
   .holdTimerExpiry 4 25003, .tlockExpiry 4 25003, .tmoveExceeded 4 25003, .setCc 1023, .clearCc 1023, .awardHu 1023, .awardHd 1023, .withdrawHu 1023] : List Instr).all (fun i => i.wf) = true := by
  decide +kernel

/-- One well-formed term of each row, its operands at the top of their ranges. -/
theorem test_wf_accepts_2 : ([.withdrawHd 1023, .clearEveryCc, .addDestinationRecord 1023 255 1 63, .resume, .tstartExpiry 25003, .relevelTrigger, .relevelTimeout 25003,
   .hallCallWord 4294967295, .dupclr, .announce wFrm false, .tick wFrm false, .bid wFrm false, .holdFrame wFrm false, .closeFrame wFrm false,
   .status wFrm false, .statusPeriod, .holdPublication 191, .carAbsent 63, .tripclr, .guardArmed, .overspeed, .escalationTrip 1, .neighbourRecordMissing,
   .zoneDisagreement, .inputChange 31 false false 25003, .edgeAccepted 31 false 25003, .runAbandoned 31 false 25003, .staleInput 31 25003,
   .staleFlagClear 4294967295, .tapDiscrepancy 7 25003, .readbackDisagreement 15, .safetyChannelStuck 3, .safetyChannelFailed 3, .outputOverload 15,
   .silentLogic 25003, .fieldStart, .field24Warning, .field24Fault, .field24Recovered 25003, .fieldLost, .fieldPulsesResumed 25003, .arma, .armb,
   .edgeRecordRead 3, .clr, .snap, .modulatorStuck 7, .forcedBoundary, .checkpoint, .pulseStart, .pulseHighEnd, .pulseLowEnd,
   .canFrameReceived 1 25003 wFrm 4294967295, .transmitStart 1 25003, .arbitrationLost 1 25003, .transmitComplete 1 25003 4095, .alone 1,
   .busError 1 25003 wErr, .releaseInstantDue 1 127 25003, .req 1, .cancel 1, .borq 1, .busOffRecoveryDone 1, .integrationDone 1, .sleep 1, .sleepEntry 1,
   .wake 1, .wakeEvent 1, .lockTimeout 1 25003, .rxWindowRead 1 18, .rxSelect 1 127, .hpBufferRead 1, .sdoDownloadInitiate 1 25003 b8,
   .sdoUploadInitiate 1 25003 b8, .sdoSegment 1 25003 b8, .sdoTimeout 1 25003, .startRemoteNode 127, .stopRemoteNode 127, .enterPreOperational 127,
   .resetNode 127, .resetCommunication 127, .bootUp 25003, .heartbeat 25003, .emcySend 25003, .epoch wReq] : List Instr).all (fun i => i.wf) = true := by
  decide +kernel

/-- One well-formed term of each row, its operands at the top of their ranges. -/
theorem test_wf_accepts_3 : ([.ident wReq, .objRead wReq, .objWrite wReq, .regRead wReq, .regWrite wReq, .bulkOpen wReq, .bulkData wReq, .bulkClose wReq, .recRead wReq, .fetch wReq,
   .hostFrameError .crc, .response 25003 false, .epochLost 25003, .bulkSessionTimeout 25003, .beaconReceived ⟨0, 0⟩ wBcn 25003,
   .imageReceived ⟨0, 0⟩ ((.shaft [])) 25003, .markerReceived ⟨0, 0⟩ 4294967295 4294967295 25003, .pairLinkLost, .claimWord 65535 25003,
   .peerClaimTimeout 25003, .gapHoldEnd 25003, .takeover, .peerWaitTimeout 25003, .discord, .handreq, .resync, .sdlyExpired 25003, .handlingEnd 25003,
   .rearm, .ack, .holdOffEnd 15, .windowEnd 15 25003, .reportDrop 15 25003, .crcPreset 4, .crcStart, .crcOpen, .crcData 0, .crcClose, .crcAbort,
   .crcJobDone false, .flush, .flushTimer 25003, .flushEnd [1023], .eraseDone false, .clear, .wallTimeSet 0, .recordWindowRead, .loftScanDone false,
   .swapRequest 4294967295, .readClear 4294967295, .writeRegister 4294967295 0, .rateRead 5, .faultFrameRead false, .modulatorDataResumed 7,
   .storeDone 65535 false, .powerOnReset, .brownOut, .resetPad, .railOutOfRange 2 false, .railRecovered 2, .oscillatorStable, .pllLock 65535, .resetEnd,
   .memoryInitDone, .bootSlotChecked, .pllLockLost, .powerFailWarning, .configCommand, .readyCommand, .runCommand, .holdCommand, .fclr, .loadCommand,
   .loadCheckDone, .storeCommand, .resetCommand, .verifyRequest, .switchRequest, .bankCheckDone, .jointSwapRequest, .frameCounterRead, .frameOffsetRead,
   .wallTimeRead, .powerFailWarningEnd] : List Instr).all (fun i => i.wf) = true := by
  decide +kernel

theorem witness_StepRunsTheFrontCommand_2 : ∃ s : State, s.pending = [] :=
  ⟨base, by decide +kernel⟩
theorem witness_EveryStepKeepsSafety : ∃ s : State, ∃ t : State, s.Inv ∧ step s = .next t :=
  ⟨{ State.reset with pending := [.fieldStart] }, out (step { State.reset with pending := [.fieldStart] }), by simp only [State.Inv]; decide +kernel, rfl⟩
theorem witness_ResetTakesNoCommand : ∃ s : State, ∃ c : Instr, s.mode = .RESET ∧ ((∃ i, c = .frameBoundary i) ∨ (∃ a v, c = .writeRegister a v) ∨ (∃ a, c = .readClear a) ∨ (∃ r, c = .regWrite r) ∨ (∃ r, c = .objWrite r) ∨ (∃ x y f g, c = .canFrameReceived x y f g) ∨ (∃ n a b y, c = .quadratureEdge n a b y) ∨ c = .configCommand ∨ c = .readyCommand ∨ c = .runCommand ∨ c = .holdCommand ∨ c = .fclr ∨ c = .loadCommand ∨ c = .storeCommand) :=
  ⟨State.reset, .fclr, by decide +kernel, by simp⟩
theorem witness_FrameCounter_1 : ∃ s : State, s.mode = .RESET ∧ s.pwr.lock = true :=
  ⟨State.reset.modPwr (fun p => { p with lock := true }), by decide +kernel⟩
theorem witness_FrameCounter_2 : ∃ s : State, ∃ i : FrameIn, s.awake :=
  ⟨base, noIn, by simp only [State.awake]; decide +kernel⟩
theorem witness_FrameCounter_3 : ∃ c : Instr, ∃ s : State, c ≠ .resetEnd ∧ (∀ i, c ≠ .frameBoundary i) :=
  ⟨.release, base, by simp, by simp⟩
theorem witness_FrameCommitActs_1 : ∃ s : State, s.running = true ∧ s.sch.noCommit = false ∧ s.role ≠ 2 ∧ s.role ≠ 3 ∧ ¬ (s.role = 4 ∧ s.pair.drop ≠ 0) :=
  ⟨base, by decide +kernel⟩
theorem witness_FrameCommitActs_2 : ∃ s : State, s.sch.noCommit = true :=
  ⟨base.modSch (fun x => { x with noCommit := true }), by decide +kernel⟩
theorem witness_BoundaryActs_1 : ∃ s : State, ∃ i : FrameIn, s.plain ∧ s.flag Addr.SCH_BANK Fl.SCH_BANK_SWPEND = false ∧ (let due := s.sch.staging.filter (fun e => !e.late)
   (∀ e ∈ due, e.obj = false ∧ ∃ n, n < 6 ∧ e.addr ∈ [Addr.AX_VRUN n, Addr.AX_ARUN n, Addr.AX_JRUN n])) :=
  ⟨base.modSch (fun x => { x with staging := [⟨Addr.AX_VRUN 5, false, 9, 1, 7, false⟩, ⟨Addr.AX_VRUN 5, false, 8, 1, 7, false⟩, ⟨Addr.AX_ARUN 5, false, 3, 1, 8, true⟩] }), noIn, by simp only [State.plain, State.awake]; decide +kernel⟩
theorem witness_BoundaryActs_2 : ∃ s : State, ∃ i : FrameIn, ∃ h : Sheaf, s.plain ∧ (s.mode = .READY ∨ s.mode = .HOLD) ∧ s.flt.fltDue = false ∧ s.flag Addr.SCH_BANK Fl.SCH_BANK_SWPEND = true ∧ s.sch.next = some h ∧ (∀ e ∈ s.sch.staging, e.late = true ∧ (e.obj = true ∨ e.addr ≠ Addr.STP_CALLQ)) :=
  ⟨((withImg (baseIn .READY)).wf Addr.SCH_BANK Fl.SCH_BANK_SWPEND 1).modSch (fun x => { x with next := some { wSheaf with frate := 1 }, staging := [⟨Addr.AX_ARUN 5, false, 3, 1, 8, true⟩] }), noIn, { wSheaf with frate := 1 }, by simp only [State.plain, State.awake]; decide +kernel⟩
theorem witness_BoundaryActs_3 : ∃ s : State, ∃ i : FrameIn, s.plain ∧ s.flag Addr.SCH_BANK Fl.SCH_BANK_SWPEND = false ∧ s.sch.staging = [] ∧ (∀ a ∈ s.sch.jswDue, a ∉ s.sch.swpDue) :=
  ⟨base.modSch (fun x => { x with jswDue := [(Dbl.table 5).addr], swpDue := [(Dbl.coef 5).addr, (Dbl.land).addr] }), noIn, by simp only [State.plain, State.awake]; decide +kernel⟩
theorem witness_BoundaryActs_4 : ∃ s : State, ∃ i : FrameIn, s.plain ∧ (s.mode = .READY ∨ s.mode = .RUN ∨ s.mode = .HOLD) ∧ s.flt.fltDue = true ∧ s.sch.staging = [] :=
  ⟨((baseIn .READY).wf Addr.SCH_BANK Fl.SCH_BANK_SWPEND 1).modFlt (fun f => { f with fltDue := true }), noIn, by simp only [State.plain, State.awake]; decide +kernel⟩
theorem witness_BoundaryActs_5_1 : ∃ s : State, ∃ i : FrameIn, ∃ b : Nat, ∃ c : Nat, ∃ rdy : Bool, ∃ h : Sheaf, s.mode = .LOAD ∧ s.role = 0 ∧ s.sch.staging = [] ∧ s.sch.failDue = none ∧ s.flag Addr.SCH_BANK Fl.SCH_BANK_SWPEND = false ∧ b < 2 ∧ c < 16 ∧ s.pwr.actDue = some (b, rdy, c, h) :=
  ⟨(inMode .LOAD).modPwr (fun p => { p with actDue := some (1, true, 2, wSheaf) }), noIn, 1, 2, true, wSheaf, by decide +kernel⟩
theorem witness_BoundaryActs_5_2 : ∃ s : State, ∃ i : FrameIn, ∃ c : Nat, ∃ w : Nat, s.mode = .LOAD ∧ s.role = 0 ∧ s.sch.staging = [] ∧ s.sch.failDue = none ∧ s.flag Addr.SCH_BANK Fl.SCH_BANK_SWPEND = false ∧ c < 16 ∧ s.pwr.actDue = none ∧ s.pwr.failDue = some (c, w) :=
  ⟨(inMode .LOAD).modPwr (fun p => { p with failDue := some (3, 0xFFFF0001) }), noIn, 3, 0xFFFF0001, by decide +kernel⟩
theorem witness_ReleaseDrivesTheOutputs_1 : ∃ s : State, s.running = true ∧ s.sch.noRelease = false ∧ s.role ≠ 3 :=
  ⟨base, by decide +kernel⟩
theorem witness_ReleaseDrivesTheOutputs_2 : ∃ s : State, s.sch.noRelease = true :=
  ⟨base.modSch (fun x => { x with noRelease := true }), by decide +kernel⟩
theorem witness_OverrunAndPasses_1 : ∃ s : State, ∃ k : Nat, ∃ cyc : Nat, ∃ sh : Sheaf, ∃ sl : Slot, s.running = true ∧ s.sch.aborted = false ∧ s.sch.active = some sh ∧ sh.slots[k]? = some sl :=
  ⟨base, 0, 5, wSheaf, wSlot 0, by decide +kernel⟩
theorem witness_OverrunAndPasses_2_1 : ∃ s : State, ∃ sh : Sheaf, s.awake ∧ s.sch.active = some sh ∧ crc32c (s.bytes (bankBase (s.rf Addr.SCH_BANK Fl.SCH_BANK_ACT)) (sh.imgLen - 4)) = sh.crc :=
  ⟨base, wSheaf, by simp only [State.awake]; decide +kernel⟩
theorem witness_OverrunAndPasses_2_2 : ∃ s : State, ∃ sh : Sheaf, s.running = true ∧ s.sch.active = some sh ∧ crc32c (s.bytes (bankBase (s.rf Addr.SCH_BANK Fl.SCH_BANK_ACT)) (sh.imgLen - 4)) ≠ sh.crc :=
  ⟨base.modSch (fun x => { x with active := some { wSheaf with crc := 1 } }), { wSheaf with crc := 1 }, by decide +kernel⟩
theorem witness_OverrunAndPasses_2_3 : ∃ s : State, s.awake ∧ s.nrg.iend = true :=
  ⟨base.modNrg (fun n => { n with iend := true }), by simp only [State.awake]; decide +kernel⟩
theorem witness_HopperCheckEmptiesHoppers_1 : ∃ s : State, ∃ es : List EccEv, s.awake :=
  ⟨base, [⟨2, 0x20080000, false⟩], by simp only [State.awake]; decide +kernel⟩
theorem witness_HopperCheckEmptiesHoppers_2 : ∃ s : State, ∃ i : FrameIn, s.awake :=
  ⟨base, noIn, by simp only [State.awake]; decide +kernel⟩
theorem witness_HopperCheckEmptiesHoppers_3 : ∃ s : State, ∃ h : Nat, ∃ ws : List Word, s.running = true ∧ s.hops = [(h, ws)] ∧ h < 64 :=
  ⟨{ base with hops := [(63, [1, 2])] }, 63, [1, 2], by decide +kernel⟩
theorem witness_SlotsMoveWords_1_1 : ∃ s : State, ∃ k : Nat, ∃ sl : Slot, s.due k 1 1 sl ∧ sl.hin ≠ 0xFF ∧ sl.hin ≠ sl.hout ∧ sl.n ≤ (s.hop sl.hin).length ∧ s.room sl.hout sl.n :=
  ⟨base, 0, wSlot 0, by simp only [State.due, State.room]; decide +kernel⟩
theorem witness_SlotsMoveWords_1_2 : ∃ s : State, ∃ k : Nat, ∃ sl : Slot, s.due k 2 1 sl ∧ s.room sl.hout 1 :=
  ⟨base, 1, wSlot 1, by simp only [State.due, State.room]; decide +kernel⟩
theorem witness_SlotsMoveWords_1_3 : ∃ s : State, ∃ k : Nat, ∃ sl : Slot, s.due k 2 2 sl ∧ s.room sl.hout (edgeTake s.frm sl.n (s.fio.fifo.getD (sl.arg % 4) [])).1.length :=
  ⟨base, 2, wSlot 2, by simp only [State.due, State.room]; decide +kernel⟩
theorem witness_SlotsMoveWords_1_4 : ∃ s : State, ∃ k : Nat, ∃ sl : Slot, s.due k 15 1 sl ∧ s.room sl.hout sl.n :=
  ⟨base, 37, wSlot 37, by simp only [State.due, State.room]; decide +kernel⟩
theorem witness_SlotsMoveWords_2_1 : ∃ s : State, ∃ k : Nat, ∃ sl : Slot, ∃ w : Word, ∃ q : List Word, s.due k 2 3 sl ∧ sl.hin ≠ 0xFF ∧ s.hop sl.hin = w :: q :=
  ⟨base, 3, wSlot 3, 5, [], by simp only [State.due]; decide +kernel⟩
theorem witness_SlotsMoveWords_2_2 : ∃ s : State, ∃ k : Nat, ∃ sl : Slot, s.due k 15 2 sl ∧ sl.hin ≠ 0xFF ∧ sl.n ≤ (s.hop sl.hin).length :=
  ⟨base, 38, wSlot 38, by simp only [State.due]; decide +kernel⟩
theorem witness_SlotsMoveWords_2_3 : ∃ s : State, ∃ k : Nat, ∃ sl : Slot, ∃ w : Word, ∃ q : List Word, s.due k 14 3 sl ∧ sl.inst < 6 ∧ sl.hin ≠ 0xFF ∧ s.hop sl.hin = w :: q ∧ f32 w ≠ .nan :=
  ⟨base, 36, wSlot 36, 0x3F800000, [], by simp only [State.due]; decide +kernel⟩
theorem witness_SlotsMoveWords_3_1 : ∃ s : State, ∃ k : Nat, ∃ sl : Slot, s.due k 2 1 sl ∧ sl.hout ≠ 0xFF ∧ s.depth sl.hout ≤ (s.hop sl.hout).length :=
  ⟨base, 39, wSlot 39, by simp only [State.due]; decide +kernel⟩
theorem witness_SlotsMoveWords_3_2 : ∃ s : State, ∃ k : Nat, ∃ sl : Slot, s.due k 2 1 sl ∧ sl.hout = 0xFF :=
  ⟨base, 40, wSlot 40, by simp only [State.due]; decide +kernel⟩
theorem witness_UnitSlots_1_1 : ∃ s : State, ∃ k : Nat, ∃ sl : Slot, s.due k 3 1 sl ∧ sl.inst < 8 :=
  ⟨base, 4, wSlot 4, by simp only [State.due]; decide +kernel⟩
theorem witness_UnitSlots_1_2 : ∃ s : State, ∃ k : Nat, ∃ sl : Slot, s.due k 3 2 sl ∧ ((s.fbS sl.inst).tout = false ∨ s.fbMode sl.inst < 3) :=
  ⟨base, 5, wSlot 5, by simp only [State.due]; decide +kernel⟩
theorem witness_UnitSlots_1_3 : ∃ s : State, ∃ k : Nat, ∃ sl : Slot, s.due k 3 2 sl ∧ (s.fbS sl.inst).tout = true ∧ 3 ≤ s.fbMode sl.inst :=
  ⟨(base.wf (Addr.FB_CTL 0) Fl.FB_CTL_MODE 3).modFb 0 (fun f => { f with tout := true }), 5, wSlot 5, by simp only [State.due]; decide +kernel⟩
theorem witness_UnitSlots_2_1 : ∃ s : State, ∃ k : Nat, ∃ sl : Slot, s.due k 4 1 sl :=
  ⟨base, 6, wSlot 6, by simp only [State.due]; decide +kernel⟩
theorem witness_UnitSlots_2_2 : ∃ s : State, ∃ k : Nat, ∃ sl : Slot, s.due k 4 2 sl ∧ s.nrg.skip = 0 ∧ s.nrg.w.sgn = 0 ∧ s.nrgForceDue = false :=
  ⟨base, 7, wSlot 7, by simp only [State.due]; decide +kernel⟩
theorem witness_UnitSlots_2_3 : ∃ s : State, ∃ k : Nat, ∃ sl : Slot, s.due k 4 3 sl ∧ s.nrg.skip = 0 :=
  ⟨base, 8, wSlot 8, by simp only [State.due]; decide +kernel⟩
theorem witness_UnitSlots_2_4_1 : ∃ s : State, ∃ k : Nat, ∃ sl : Slot, s.nrg.skip ≠ 0 ∧ s.due k 4 2 sl :=
  ⟨base.modNrg (fun n => { n with skip := 1 }), 7, wSlot 7, by simp only [State.due]; decide +kernel⟩
theorem witness_UnitSlots_2_4_2 : ∃ s : State, ∃ k : Nat, ∃ sl : Slot, s.nrg.skip ≠ 0 ∧ s.due k 4 3 sl :=
  ⟨base.modNrg (fun n => { n with skip := 1 }), 8, wSlot 8, by simp only [State.due]; decide +kernel⟩
theorem witness_UnitSlots_3_1 : ∃ s : State, ∃ x : Nat, ∃ k : Nat, ∃ sl : Slot, x < 2 ∧ s.due k (5 + x) 1 sl ∧ bitOf sl.arg 15 = false ∧ sl.n = 1 ∧ s.room sl.hout 4 :=
  ⟨base, 0, 9, wSlot 9, by simp only [State.due, State.room]; decide +kernel⟩
theorem witness_UnitSlots_3_2 : ∃ s : State, ∃ x : Nat, ∃ k : Nat, ∃ sl : Slot, ∃ f : CanFrm, ∃ own : Bool, ∃ fr : Nat, ∃ q : List (CanFrm × Bool × Nat), x < 2 ∧ s.due k (5 + x) 1 sl ∧ bitOf sl.arg 15 = true ∧ sl.n = 1 ∧ s.room sl.hout 4 ∧ (s.canS x).q = (f, own, fr) :: q ∧ fr < s.frm :=
  ⟨{ (base.modCan 1 (fun c => { c with q := [(frame 0x124 false [1], false, 0)] })) with frm := 1 }, 1, 10, wSlot 10, frame 0x124 false [1], false, 0, [], by simp only [State.due, State.room]; decide +kernel⟩
theorem witness_UnitSlots_3_3 : ∃ s : State, ∃ x : Nat, ∃ k : Nat, ∃ sl : Slot, x < 2 ∧ s.due k (5 + x) 2 sl ∧ sl.hin ≠ 0xFF ∧ 4 * sl.n ≤ (s.hop sl.hin).length :=
  ⟨base, 1, 11, wSlot 11, by simp only [State.due]; decide +kernel⟩
theorem witness_UnitSlots_4_1 : ∃ s : State, ∃ k : Nat, ∃ sl : Slot, s.due k 7 1 sl ∧ s.pairRole = 2 :=
  ⟨base, 12, wSlot 12, by simp only [State.due]; decide +kernel⟩
theorem witness_UnitSlots_4_2 : ∃ s : State, ∃ k : Nat, ∃ sl : Slot, s.due k 7 2 sl ∧ s.pairRole = 2 :=
  ⟨base, 13, wSlot 13, by simp only [State.due]; decide +kernel⟩
theorem witness_EngineSlots_1_1 : ∃ s : State, ∃ k : Nat, ∃ sl : Slot, ∃ rec : SRec, sl.hin ≠ 0xFF ∧ sl.hin ≠ sl.hout ∧ 3 ≤ (s.hop sl.hin).length ∧ s.room sl.hout 1 ∧ (s.recsOf 0x0102).find? (fun r => r.b 1 4 0 == sl.arg % 32) = some rec ∧ s.due k 8 2 sl :=
  ⟨base, 15, wSlot 15, wLoop, by simp only [State.due, State.room]; decide +kernel⟩
theorem witness_EngineSlots_1_2 : ∃ s : State, ∃ k : Nat, ∃ sl : Slot, ∃ rec : SRec, sl.hin ≠ 0xFF ∧ sl.hin ≠ sl.hout ∧ 3 ≤ (s.hop sl.hin).length ∧ s.room sl.hout 1 ∧ (s.recsOf 0x0102).find? (fun r => r.b 1 4 0 == sl.arg % 32) = some rec ∧ s.due k 8 3 sl :=
  ⟨base, 16, wSlot 16, wLoop, by simp only [State.due, State.room]; decide +kernel⟩
theorem witness_EngineSlots_2_1 : ∃ s : State, ∃ k : Nat, ∃ sl : Slot, ∃ r : SRec, s.due k 8 1 sl ∧ (s.recsOf 0x0101).find? (fun r => r.b 1 7 0 == sl.arg % 256) = some r ∧ sl.hin ≠ 0xFF ∧ sl.hin ≠ sl.hout ∧ r.fma.nin ≤ (s.hop sl.hin).length ∧ s.room sl.hout r.fma.outs.length :=
  ⟨base, 14, wSlot 14, wFma, by simp only [State.due, State.room]; decide +kernel⟩
theorem witness_EngineSlots_2_2 : ∃ s : State, ∃ k : Nat, ∃ sl : Slot, ∃ rec : SRec, ∃ m : Word, ∃ q : Word, ∃ rest : List Word, s.due k 8 4 sl ∧ sl.hin ≠ 0xFF ∧ s.hop sl.hin = m :: q :: rest ∧ (s.recsOf 0x0104).find? (fun r => r.b 1 3 0 == sl.arg % 16) = some rec :=
  ⟨base, 17, wSlot 17, wPlaus, 0x3F800000, 0, [], by simp only [State.due]; decide +kernel⟩
theorem witness_EngineSlots_2_3 : ∃ s : State, ∃ k : Nat, ∃ sl : Slot, ∃ b : Nat × Nat × List Nat, ∃ w : Word, ∃ rest : List Word, s.due k 8 5 sl ∧ sl.hin ≠ 0xFF ∧ sl.hin ≠ sl.hout ∧ s.hop sl.hin = w :: rest ∧ s.room sl.hout 1 ∧ s.blends.find? (fun b => b.1 == sl.arg % 16) = some b ∧ s.thrStop b.2.1 (24 + sl.arg % 16) = false ∧ bBlend (s.sw (thrB (sl.arg % 16) 8)) = false ∧ b.2.2.getD (bMode (s.sw (thrB (sl.arg % 16) 8))) 0xFE = 0xFE :=
  ⟨base, 18, wSlot 18, (0, 0, [0xFE, 0xFE, 0xFE, 0xFE]), 0x3F800000, [], by simp only [State.due, State.room]; decide +kernel⟩
theorem witness_LaneMismatchStops : ∃ s : State, ∃ k : Nat, ∃ unit : Nat, ∃ op : Nat, ∃ sl : Slot, ∃ c : Instr, s.due k unit op sl ∧ ((c = .fmaBlk k true ∧ unit = 8 ∧ op = 1) ∨ (c = .piLoop k true ∧ unit = 8 ∧ op = 2) ∨ (c = .pidLoop k true ∧ unit = 8 ∧ op = 3) ∨ (c = .plaus k true ∧ unit = 8 ∧ op = 4) ∨ (c = .blend k true ∧ unit = 8 ∧ op = 5) ∨ (c = .envelope k true ∧ unit = 10 ∧ op = 1) ∨ (c = .termChk k true ∧ unit = 10 ∧ op = 2) ∨ (c = .ovsChk k true ∧ unit = 10 ∧ op = 3) ∨ (c = .shaftChk k true ∧ unit = 10 ∧ op = 4) ∨ (c = .zoneChk k true ∧ unit = 10 ∧ op = 5) ∨ (c = .ucmChk k true ∧ unit = 10 ∧ op = 6)) :=
  ⟨base, 14, 8, 1, wSlot 14, .fmaBlk 14 true, by simp only [State.due]; decide +kernel⟩
theorem witness_MotionSlotsAdvance_1 : ∃ s : State, ∃ k : Nat, ∃ sl : Slot, s.due k 9 1 sl ∧ sl.inst < 6 ∧ ¬ (sl.inst = 0 ∧ s.guardDue = true) ∧ (s.axS sl.inst).mot = .idle ∧ (s.axS sl.inst).wake = false ∧ (s.axS sl.inst).v = 0 :=
  ⟨base, 19, wSlot 19, by simp only [State.due]; decide +kernel⟩
theorem witness_MotionSlotsAdvance_2 : ∃ s : State, ∃ k : Nat, ∃ sl : Slot, s.due k 9 1 sl ∧ sl.inst < 6 ∧ s.raised = [] ∧ ¬ (sl.inst = 0 ∧ s.guardDue = true) ∧ (s.axS sl.inst).mot = .table ∧ (s.axS sl.inst).wake = false ∧ 200 * ((s.axS sl.inst).tab.pt ((s.axS sl.inst).tab.n - 1)).1 ≤ ((s.axS sl.inst).tK + 1) * s.ncyc :=
  ⟨base.modAx 1 (fun x => { x with mot := .table, tab := ⟨2, [(0, (0, 0, 0)), (1, (10, 5, 0))]⟩ }), 19, wSlot 19, by simp only [State.due]; decide +kernel⟩
theorem witness_MotionSlotsAdvance_3 : ∃ s : State, ∃ k : Nat, ∃ sl : Slot, s.due k 9 2 sl ∧ sl.inst < 6 ∧ (s.axS sl.inst).mot = .move ∧ s.rs (Addr.AX_VLO sl.inst) < s.rs (Addr.AX_VHI sl.inst) ∧ (s.axS sl.inst).spd > 0 ∧ (s.axS sl.inst).pos > s.rs (Addr.AX_VHI sl.inst) * sc :=
  ⟨(base.wf (Addr.AX_VHI 1) ⟨0, 32⟩ 10).modAx 1 (fun x => { x with mot := .move, v := 1, s := 11 * sc }), 20, wSlot 20, by simp only [State.due]; decide +kernel⟩
theorem witness_MotionSlotsAdvance_4 : ∃ s : State, ∃ k : Nat, ∃ sl : Slot, s.due k 9 2 sl ∧ (s.axS sl.inst).mot = .idle :=
  ⟨base, 20, wSlot 20, by simp only [State.due]; decide +kernel⟩
theorem witness_MotionSlotsAdvance_5 : ∃ s : State, ∃ k : Nat, ∃ sl : Slot, s.due k 9 3 sl ∧ sl.inst < 6 ∧ s.raised = [] ∧ (s.axS sl.inst).mot = .home ∧ (s.axS sl.inst).hst = .find ∧ (s.axFeedback sl.inst = true → s.flag (Addr.FB_STAT sl.inst) Fl.FB_STAT_VALID = true) ∧ (s.fbS sl.inst).zarmed = false :=
  ⟨base.modAx 1 (fun x => { x with mot := .home, hst := .find }), 21, wSlot 21, by simp only [State.due]; decide +kernel⟩
theorem witness_DriveSlots_1_1 : ∃ s : State, ∃ k : Nat, ∃ sl : Slot, s.due k 14 2 sl ∧ sl.inst < 6 ∧ s.raised = [] ∧ 1 ≤ s.axDrive sl.inst ∧ s.axDrive sl.inst ≤ 4 :=
  ⟨base, 35, wSlot 35, by simp only [State.due]; decide +kernel⟩
theorem witness_DriveSlots_1_2 : ∃ s : State, ∃ k : Nat, ∃ sl : Slot, s.due k 14 1 sl ∧ sl.inst < 6 ∧ sl.hin ≠ 0xFF ∧ 2 ≤ (s.hop sl.hin).length :=
  ⟨base, 34, wSlot 34, by simp only [State.due]; decide +kernel⟩
theorem witness_DriveSlots_1_3 : ∃ s : State, ∃ n : Nat, ∃ cyc : Nat, ∃ c : Nat × Nat × Nat, s.awake ∧ n < 6 ∧ (s.drvS n).cmpR = some c ∧ s.axDrive n = 5 ∧ 0 < s.rf (Addr.AX_PWMCFG n) Fl.AX_PWMCFG_PER ∧ (s.ecyc + cyc - (s.drvS n).car0) % (2 * s.rf (Addr.AX_PWMCFG n) Fl.AX_PWMCFG_PER) = 0 :=
  ⟨((base.wf (Addr.AX_PCFG 1) Fl.AX_PCFG_DRIVE 5).wf (Addr.AX_PWMCFG 1) Fl.AX_PWMCFG_PER 100).modDrv 1 (fun d => { d with cmpR := some (1, 2, 3) }), 1, 400, (1, 2, 3), by simp only [State.awake]; decide +kernel⟩
theorem witness_DriveSlots_1_4 : ∃ s : State, ∃ n : Nat, ∃ cyc : Nat, s.awake ∧ (s.ecyc + cyc - (s.drvS n).car0) % (2 * s.rf (Addr.AX_PWMCFG n) Fl.AX_PWMCFG_PER) ≠ 0 :=
  ⟨((base.wf (Addr.AX_PCFG 1) Fl.AX_PCFG_DRIVE 5).wf (Addr.AX_PWMCFG 1) Fl.AX_PWMCFG_PER 100), 1, 401, by simp only [State.awake]; decide +kernel⟩
theorem witness_DriveSlots_2_1 : ∃ s : State, ∃ k : Nat, ∃ sl : Slot, s.due k 13 2 sl ∧ 1 ≤ sl.inst ∧ sl.inst ≤ 4 ∧ s.axDrive sl.inst ≠ 5 ∧ s.axDrive sl.inst ≠ 2 ∧ s.axDrive sl.inst ≠ 4 :=
  ⟨base.wf (Addr.AX_PCFG 1) Fl.AX_PCFG_DRIVE 0, 33, wSlot 33, by simp only [State.due]; decide +kernel⟩
theorem witness_DriveSlots_2_2 : ∃ s : State, ∃ k : Nat, ∃ sl : Slot, s.due k 13 2 sl ∧ 1 ≤ sl.inst ∧ sl.inst ≤ 4 ∧ s.axDrive sl.inst = 5 ∧ s.room sl.hout 3 :=
  ⟨((base.wf (Addr.AX_PCFG 1) Fl.AX_PCFG_DRIVE 5).wf (Addr.AX_PWMCFG 1) Fl.AX_PWMCFG_PER 100), 33, wSlot 33, by simp only [State.due, State.room]; decide +kernel⟩
theorem witness_GuardSlots_1_1 : ∃ s : State, ∃ k : Nat, ∃ sl : Slot, s.due k 10 1 sl :=
  ⟨base, 22, wSlot 22, by simp only [State.due]; decide +kernel⟩
theorem witness_GuardSlots_1_2 : ∃ s : State, ∃ k : Nat, ∃ sl : Slot, s.due k 10 2 sl :=
  ⟨base, 23, wSlot 23, by simp only [State.due]; decide +kernel⟩
theorem witness_GuardSlots_1_3 : ∃ s : State, ∃ k : Nat, ∃ sl : Slot, s.due k 10 3 sl ∧ s.hdl.v = 0 :=
  ⟨base, 24, wSlot 24, by simp only [State.due]; decide +kernel⟩
theorem witness_GuardSlots_1_4 : ∃ s : State, ∃ k : Nat, ∃ sl : Slot, s.due k 10 5 sl :=
  ⟨base, 26, wSlot 26, by simp only [State.due]; decide +kernel⟩
theorem witness_GuardSlots_1_5 : ∃ s : State, ∃ k : Nat, ∃ sl : Slot, s.due k 10 6 sl ∧ s.hdlLocked = true :=
  ⟨(base.wf (Addr.DOR_STAT 1) Fl.DOR_STAT_STATE 0).modHdl (fun h => { h with act := true }), 27, wSlot 27, by simp only [State.due]; decide +kernel⟩
theorem witness_GuardSlots_2_1 : ∃ s : State, ∃ k : Nat, ∃ sl : Slot, s.hdl.act = false ∧ s.due k 10 2 sl :=
  ⟨base, 23, wSlot 23, by simp only [State.due]; decide +kernel⟩
theorem witness_GuardSlots_2_2 : ∃ s : State, ∃ k : Nat, ∃ sl : Slot, s.hdl.act = false ∧ s.due k 10 3 sl :=
  ⟨base, 24, wSlot 24, by simp only [State.due]; decide +kernel⟩
theorem witness_GuardSlots_2_3 : ∃ s : State, ∃ k : Nat, ∃ sl : Slot, s.hdl.act = false ∧ s.due k 10 4 sl :=
  ⟨base, 25, wSlot 25, by simp only [State.due]; decide +kernel⟩
theorem witness_GuardSlots_2_4 : ∃ s : State, ∃ k : Nat, ∃ sl : Slot, s.hdl.act = false ∧ s.due k 10 6 sl :=
  ⟨base, 27, wSlot 27, by simp only [State.due]; decide +kernel⟩
theorem witness_TableSlotsAnswer_1 : ∃ s : State, ∃ k : Nat, ∃ sl : Slot, s.due k 11 1 sl :=
  ⟨base, 28, wSlot 28, by simp only [State.due]; decide +kernel⟩
theorem witness_TableSlotsAnswer_2 : ∃ s : State, ∃ k : Nat, ∃ e : Nat, ∃ sl : Slot, ∃ w : Word, ∃ q : List Word, s.due k 11 1 sl ∧ sl.arg % 256 = 1 ∧ sl.hin ≠ 0xFF ∧ s.hop sl.hin = w :: q ∧ e < 1024 ∧ w.toNat = 2 ^ 28 + e ∧ s.stp.la.open_ e = true :=
  ⟨{ (base.modSch (fun x => { x with active := some { wSheaf with slots := wSlots.set 28 ⟨11, 1, 0, 1, 0, 0, 1, 26, 0xFF, 1⟩ } })) with hops := [(26, [0x100003FF])] }, 28, 1023, ⟨11, 1, 0, 1, 0, 0, 1, 26, 0xFF, 1⟩, 0x100003FF, [], by simp only [State.due]; decide +kernel⟩
theorem witness_TableSlotsAnswer_3 : ∃ s : State, ∃ k : Nat, ∃ sl : Slot, s.due k 11 2 sl :=
  ⟨base, 29, wSlot 29, by simp only [State.due]; decide +kernel⟩
theorem witness_TableSlotsAnswer_4 : ∃ s : State, ∃ k : Nat, ∃ sl : Slot, s.due k 11 2 sl ∧ s.stp.w.cst = 3 ∧ s.ax0Foreign = false ∧ s.stp.w.commit = true :=
  ⟨base.modStp (fun x => { x with w := { x.w with cst := 3, commit := true } }), 29, wSlot 29, by simp only [State.due]; decide +kernel⟩
theorem witness_TableSlotsAnswer_5 : ∃ s : State, ∃ k : Nat, ∃ sl : Slot, s.due k 12 1 sl ∧ s.bidPart = true :=
  ⟨base, 30, wSlot 30, by simp only [State.due]; decide +kernel⟩
theorem witness_TableSlotsAnswer_6 : ∃ s : State, ∃ k : Nat, ∃ sl : Slot, s.due k 12 2 sl ∧ s.bidPart = true ∧ s.standby = false :=
  ⟨base, 31, wSlot 31, by simp only [State.due]; decide +kernel⟩
theorem witness_TableSlotsAnswer_7_1 : ∃ s : State, ∃ k : Nat, ∃ sl : Slot, s.bidPart = false ∧ sl.hin = 0xFF ∧ s.due k 12 1 sl ∧ s.room sl.hout (sl.arg / 256 % 256) :=
  ⟨base.wf Addr.BID_CFG Fl.BID_CFG_EN 0, 30, wSlot 30, by simp only [State.due, State.room]; decide +kernel⟩
theorem witness_TableSlotsAnswer_7_2 : ∃ s : State, ∃ k : Nat, ∃ sl : Slot, s.bidPart = false ∧ sl.hin = 0xFF ∧ s.due k 12 2 sl ∧ s.room sl.hout (4 * (sl.arg % 64)) :=
  ⟨base.wf Addr.BID_CFG Fl.BID_CFG_EN 0, 31, wSlot 31, by simp only [State.due, State.room]; decide +kernel⟩
theorem witness_TableSlotsAnswer_8 : ∃ s : State, ∃ k : Nat, ∃ sl : Slot, s.standby = true ∧ s.bidPart = true ∧ sl.hin = 0xFF ∧ s.due k 12 2 sl ∧ s.room sl.hout (4 * (sl.arg % 64)) :=
  ⟨base.wf Addr.PAIR_STAT Fl.PAIR_STAT_ROLE 2, 31, wSlot 31, by simp only [State.due, State.room]; decide +kernel⟩
theorem witness_TableSlotsAnswer_9 : ∃ s : State, ∃ k : Nat, ∃ sl : Slot, s.due k 13 1 sl ∧ 1 ≤ sl.inst ∧ sl.inst ≤ 4 ∧ s.dorEn sl.inst = true ∧ (sl.hin = 0xFF ∨ (∃ w q, s.hop sl.hin = w :: q ∧ w.toNat % 16 < 6)) :=
  ⟨base, 32, wSlot 32, by simp only [State.due]; decide +kernel, by decide +kernel, by decide +kernel, by decide +kernel, .inl (by decide +kernel)⟩
theorem witness_FeedbackEvents_1_1 : ∃ s : State, ∃ n : Nat, ∃ a : Pad, ∃ b : Pad, ∃ cyc : Nat, s.awake ∧ s.fbMode n = 1 :=
  ⟨base, 0, ⟨true, 8⟩, ⟨false, 0⟩, 7, by simp only [State.awake]; decide +kernel⟩
theorem witness_FeedbackEvents_1_2 : ∃ s : State, ∃ n : Nat, ∃ cyc : Nat, ∃ h : HallPads, s.awake ∧ s.fbMode n = 2 :=
  ⟨((base.wf (Addr.FB_CTL 1) Fl.FB_CTL_MODE 2).wf (Addr.FB_STAT 1) Fl.FB_STAT_HCODE 1), 1, 0, ⟨⟨true, 8⟩, ⟨true, 8⟩, ⟨false, 8⟩⟩, by simp only [State.awake]; decide +kernel⟩
theorem witness_FeedbackEvents_2_1_1 : ∃ s : State, ∃ n : Nat, ∃ z : ZPad, s.awake ∧ s.fbMode n = 1 ∧ (let old := (s.fbS n).lvl
   (let lv := s.filterPads n Pad.unsaid Pad.unsaid z.pad
   (let dev := indexDev ((s.fbS n).acc - (s.fbS n).ref) (s.rd (Addr.FB_ZCPR n)).toNat
   s.indexOn n lv = true ∧ s.indexOn n old = false ∧ ((s.fbS n).zref = false ∨ (s.rd (Addr.FB_ZCPR n)).toNat = 0 ∨ dev.natAbs ≤ s.rf (Addr.FB_ZCFG n) Fl.FB_ZCFG_ZTOL)))) :=
  ⟨base, 0, ⟨⟨true, 8⟩, 7⟩, by simp only [State.awake]; decide +kernel⟩
theorem witness_FeedbackEvents_2_1_2 : ∃ s : State, ∃ n : Nat, ∃ z : ZPad, s.awake ∧ s.fbMode n = 1 ∧ (let old := (s.fbS n).lvl
   (let lv := s.filterPads n Pad.unsaid Pad.unsaid z.pad
   (let dev := indexDev ((s.fbS n).acc - (s.fbS n).ref) (s.rd (Addr.FB_ZCPR n)).toNat
   s.indexOn n lv = true ∧ s.indexOn n old = false ∧ (s.fbS n).zref = true ∧ (s.rd (Addr.FB_ZCPR n)).toNat ≠ 0 ∧ s.rf (Addr.FB_ZCFG n) Fl.FB_ZCFG_ZTOL < dev.natAbs))) :=
  ⟨((base.wf (Addr.FB_ZCPR 0) ⟨0, 32⟩ 100).wf (Addr.FB_ZCFG 0) Fl.FB_ZCFG_ZTOL 4).modFb 0 (fun f => { f with zref := true, acc := 105 }), 0, ⟨⟨true, 8⟩, 7⟩, by simp only [State.awake]; decide +kernel⟩
theorem witness_FeedbackEvents_2_1_3 : ∃ s : State, ∃ n : Nat, ∃ z : ZPad, s.awake ∧ s.fbMode n = 1 ∧ (let old := (s.fbS n).lvl
   (let lv := s.filterPads n Pad.unsaid Pad.unsaid z.pad
   (s.indexOn n lv = false ∨ s.indexOn n old = true))) :=
  ⟨base, 0, ⟨⟨false, 0⟩, 7⟩, by simp only [State.awake]; decide +kernel⟩
theorem witness_FeedbackEvents_2_2_1 : ∃ s : State, ∃ n : Nat, ∃ data : Nat, ∃ crc : Nat, ∃ cyc : Nat, ∃ eb : Bool, ∃ wb : Bool, s.awake ∧ (s.fbMode n = 3 ∨ s.fbMode n = 4) ∧ (s.fbS n).xfer = true ∧ (let d := data % 2 ^ s.rf (Addr.FB_SER n) Fl.FB_SER_DBITS
   (let inTime := (s.fbS n).xferT = s.ecyc ∧ cyc + 1 < s.ncyc
   inTime ∧ s.serialCrcOk n d eb wb crc = true ∧ (s.fbMode n = 3 → eb = true) ∧ (s.fbMode n = 4 → s.flag (Addr.FB_SER n) Fl.FB_SER_ERRBIT = true → eb ≠ s.flag (Addr.FB_SER n) Fl.FB_SER_ERRLVL))) :=
  ⟨((base.wf (Addr.FB_CTL 1) Fl.FB_CTL_MODE 3).modFb 1 (fun f => { f with xfer := true, missing := 255 })), 1, 5, (crcBits 6 0x03 (((base.wf (Addr.FB_CTL 1) Fl.FB_CTL_MODE 3).modFb 1 (fun f => { f with xfer := true, missing := 255 })).rf (Addr.FB_SER 1) Fl.FB_SER_DBITS + 2) 23 0 ^^^ 0x3F), 7, true, true, by simp only [State.awake]; decide +kernel⟩
theorem witness_FeedbackEvents_2_2_2 : ∃ s : State, ∃ n : Nat, ∃ data : Nat, ∃ crc : Nat, ∃ cyc : Nat, ∃ eb : Bool, ∃ wb : Bool, s.awake ∧ (s.fbMode n = 3 ∨ s.fbMode n = 4) ∧ (s.fbS n).xfer = true :=
  ⟨((base.wf (Addr.FB_CTL 1) Fl.FB_CTL_MODE 3).modFb 1 (fun f => { f with xfer := true, missing := 255 })), 1, 5, 0, 7, true, true, by simp only [State.awake]; decide +kernel⟩
theorem witness_FeedbackEvents_2_2_3 : ∃ s : State, ∃ n : Nat, ∃ data : Nat, ∃ crc : Nat, ∃ cyc : Nat, ∃ eb : Bool, ∃ wb : Bool, s.awake ∧ (s.fbMode n = 3 ∨ s.fbMode n = 4) ∧ (s.fbS n).xfer = true ∧ (let d := data % 2 ^ s.rf (Addr.FB_SER n) Fl.FB_SER_DBITS
   (let inTime := (s.fbS n).xferT = s.ecyc ∧ cyc + 1 < s.ncyc
   inTime ∧ s.serialCrcOk n d eb wb crc = false)) :=
  ⟨((base.wf (Addr.FB_CTL 1) Fl.FB_CTL_MODE 3).modFb 1 (fun f => { f with xfer := true, missing := 255 })), 1, 5, (crcBits 6 0x03 (((base.wf (Addr.FB_CTL 1) Fl.FB_CTL_MODE 3).modFb 1 (fun f => { f with xfer := true, missing := 255 })).rf (Addr.FB_SER 1) Fl.FB_SER_DBITS + 2) 23 0 ^^^ 0x3E), 7, true, true, by simp only [State.awake]; decide +kernel⟩
theorem witness_FeedbackEvents_2_3 : ∃ s : State, ∃ n : Nat, s.awake ∧ 3 ≤ s.fbMode n ∧ s.rf (Addr.FB_SER n) Fl.FB_SER_TOUT ≤ (s.fbS n).missing :=
  ⟨((base.wf (Addr.FB_CTL 1) Fl.FB_CTL_MODE 3).modFb 1 (fun f => { f with xfer := true, missing := 255 })), 1, by simp only [State.awake]; decide +kernel⟩
theorem witness_FeedbackEvents_2_4 : ∃ s : State, ∃ n : Nat, ∃ t0 : Nat, ∃ p : Int, ∃ es : List (Int × Nat), s.awake ∧ n < 8 ∧ (s.fbS n).l.e.est ≠ .still ∧ (s.fbS n).l.e.edges = (p, t0) :: es ∧ 20000 * s.rf (Addr.FB_SPDCFG n) Fl.FB_SPDCFG_TSTILL ≤ (s.fbS n).l.tfe - t0 :=
  ⟨base.modFb 7 (fun f => { f with l := { f.l with e := ⟨.run, false, [(4, 0)], 0, 0, 0, 0, 0⟩, tfe := 10 ^ 9 } }), 7, 0, 4, [], by simp only [State.awake]; decide +kernel⟩
theorem witness_FeedbackCommandsAct_1 : ∃ s : State, ∃ n : Nat, s.taking ∧ s.hasFb n = true :=
  ⟨base, 7, by simp only [State.taking, State.awake]; decide +kernel⟩
theorem witness_FeedbackCommandsAct_3 : ∃ s : State, ∃ n : Nat, s.taking ∧ s.hasFb n = true ∧ s.fbMode n = 1 ∧ s.rf (Addr.FB_CTL n) Fl.FB_CTL_ZMODE = 2 :=
  ⟨base.wf (Addr.FB_CTL 0) Fl.FB_CTL_ZMODE 2, 0, by simp only [State.taking, State.awake]; decide +kernel⟩
theorem witness_AxisRunsStart_1_1 : ∃ s : State, ∃ n : Nat, s.taking ∧ s.hasAx n = true ∧ s.mode = .RUN ∧ s.grpOf n = [n] ∧ s.dorEn n = false ∧ (n = 0 → s.stpHolds = false) ∧ s.guardHolds n = false ∧ s.raised = [] ∧ (s.axS n).mot = .idle ∧ s.shaftHolds n = false ∧ (s.axS n).poslost = false ∧ s.tgtOk n (s.axTgt n) = true :=
  ⟨base.wf (Addr.AX_TGT 5) ⟨0, 32⟩ 9, 5, by simp only [State.taking, State.awake]; decide +kernel⟩
theorem witness_AxisRunsStart_1_2 : ∃ s : State, ∃ n : Nat, s.taking ∧ s.hasAx n = true ∧ s.mode = .RUN ∧ s.grpOf n = [n] ∧ s.dorEn n = false ∧ (n = 0 → s.stpHolds = false) ∧ s.guardHolds n = false ∧ s.raised = [] ∧ (s.axS n).mot = .idle ∧ (s.axS n).tblbad = false ∧ (s.axS n).poslost = false ∧ 2 ≤ (s.axS n).tab.n ∧ s.tgtOk n ((s.axS n).pos + ((s.axS n).tab.pt ((s.axS n).tab.n - 1)).2.1 * sc) = true :=
  ⟨base.modAx 5 (fun x => { x with tab := ⟨2, [(0, (0, 0, 0)), (1, (10, 5, 0))]⟩ }), 5, by simp only [State.taking, State.awake]; decide +kernel⟩
theorem witness_AxisRunsStart_1_3 : ∃ s : State, ∃ n : Nat, s.taking ∧ s.hasAx n = true ∧ s.mode = .RUN ∧ s.grpOf n = [n] ∧ s.dorEn n = false ∧ (n = 0 → s.stpHolds = false) ∧ s.guardHolds n = false ∧ s.raised = [] ∧ (s.axS n).mot = .idle ∧ s.flag (Addr.AX_HCFG n) Fl.AX_HCFG_REFEN = true ∧ (s.axS n).chLat = 0 ∧ s.flag (Addr.AX_HCFG n) Fl.AX_HCFG_HIDX = false ∧ (s.axFeedback n = true → s.flag (Addr.FB_STAT n) Fl.FB_STAT_VALID = true) :=
  ⟨base.wf (Addr.AX_HCFG 5) Fl.AX_HCFG_REFEN 1, 5, by simp only [State.taking, State.awake]; decide +kernel⟩
theorem witness_AxisRunsStart_2 : ∃ s : State, ∃ n : Nat, ∃ c : Instr, s.taking ∧ s.hasAx n = true ∧ s.mode ≠ .RUN ∧ s.guardHolds n = false ∧ s.raised = [] ∧ (c = .axMove n ∨ c = .axTable n ∨ c = .axHome n) :=
  ⟨baseIn .READY, 5, .axMove 5, by simp only [State.taking, State.awake]; decide +kernel⟩
theorem witness_AxisStopsAndEvents_1_1 : ∃ s : State, ∃ n : Nat, s.taking ∧ s.hasAx n = true ∧ s.running = true ∧ s.grpOf n = [n] ∧ s.raised = [] ∧ s.guardHolds n = false ∧ ((s.axS n).mot = .move ∨ (s.axS n).mot = .table) :=
  ⟨base.modAx 5 (fun x => { x with mot := .move }), 5, by simp only [State.taking, State.awake]; decide +kernel⟩
theorem witness_AxisStopsAndEvents_1_2 : ∃ s : State, ∃ n : Nat, s.taking ∧ s.hasAx n = true ∧ s.running = true ∧ s.grpOf n = [n] ∧ s.raised = [] :=
  ⟨base, 5, by simp only [State.taking, State.awake]; decide +kernel⟩
theorem witness_AxisStopsAndEvents_1_4 : ∃ s : State, ∃ n : Nat, s.taking ∧ s.hasAx n = true ∧ s.running = true ∧ s.grpOf n = [n] ∧ s.raised = [] ∧ s.axStepOnly n = true ∧ (s.axS n).mot ≠ .limstop :=
  ⟨base.wf (Addr.AX_PCFG 5) Fl.AX_PCFG_DRIVE 2, 5, by simp only [State.taking, State.awake]; decide +kernel⟩
theorem witness_AxisStopsAndEvents_2_1 : ∃ s : State, ∃ n : Nat, s.awake ∧ n < 6 ∧ s.raised = [] ∧ (s.axS n).mot = .dwell ∧ (s.axS n).dwell = 0 :=
  ⟨base.modAx 0 (fun x => { x with mot := .dwell, tgt := 3 }), 0, by simp only [State.awake]; decide +kernel⟩
theorem witness_AxisStopsAndEvents_2_2 : ∃ s : State, ∃ n : Nat, ∃ cyc, s.awake ∧ n < 6 ∧ s.raised = [] ∧ (s.axS n).mot = .home ∧ (s.axS n).hst ≠ .fail ∧ (s.axS n).hStart + 20000000 * s.rf (Addr.AX_HTIME n) Fl.AX_HTIME_HTIME ≤ s.ecyc + cyc :=
  ⟨base.modAx 5 (fun x => { x with mot := .home, hst := .seek }), 5, 20000000 * 65535, by simp only [State.awake]; decide +kernel⟩
theorem witness_AxisStopsAndEvents_2_3 : ∃ s : State, ∃ n : Nat, ∃ k, s.awake ∧ n < 6 ∧ s.raised = [] ∧ k < 3 ∧ s.rf (Addr.AX_LSW n) Fl.AX_LSW_CHN < ((s.axS n).chat.getD k []).length :=
  ⟨base.modAx 5 (fun x => { x with chat := [[], [], List.replicate 256 0] }), 5, 2, by simp only [State.awake]; decide +kernel⟩
theorem witness_AxisStopsAndEvents_2_4 : ∃ s : State, ∃ n : Nat, ∃ cyc, s.awake ∧ n < 6 ∧ s.raised = [] ∧ (s.axDrive n = 2 ∨ s.axDrive n = 4) ∧ (s.axS n).v = 0 ∧ s.rf (Addr.AX_IRED n) Fl.AX_IRED_IREDP < 100 ∧ (s.axS n).lastStp + 200000 * s.rf (Addr.AX_IRED n) Fl.AX_IRED_IREDT ≤ s.ecyc + cyc :=
  ⟨base.wf (Addr.AX_IRED 1) Fl.AX_IRED_IREDP 50, 1, 200000 * 65535, by simp only [State.awake]; decide +kernel⟩
theorem witness_AxisStopsAndEvents_2_5 : ∃ s : State, ∃ n : Nat, ∃ cyc, s.awake ∧ n < 6 ∧ s.raised = [] ∧ (s.axS n).lapsed = false ∧ (s.axS n).psiT ≤ s.ecyc + cyc :=
  ⟨base, 5, 7, by simp only [State.awake]; decide +kernel⟩
theorem witness_DriveEventsAct_1 : ∃ s : State, ∃ n : Nat, ∃ uv : Nat, ∃ cyc : Nat, s.awake ∧ s.hasAx n = true ∧ s.axInt n = true ∧ 1000 * s.rf (Addr.AX_IOC n) Fl.AX_IOC_IOC < (s.uA n uv).natAbs :=
  ⟨((base.wf (Addr.AX_ISCFG 1) Fl.AX_ISCFG_ISCALE 1).wf (Addr.AX_IOC 1) Fl.AX_IOC_IOC 2), 1, 0, 7, by simp only [State.awake]; decide +kernel⟩
theorem witness_DriveEventsAct_2 : ∃ s : State, ∃ n : Nat, s.awake ∧ s.hasAx n = true :=
  ⟨base, 1, by simp only [State.awake]; decide +kernel⟩
theorem witness_DriveEventsAct_3 : ∃ s : State, ∃ n : Nat, ∃ x : Nat, ∃ uv : Nat, ∃ peak : Nat, ∃ cyc : Nat, s.awake ∧ n < 6 ∧ x < 2 ∧ s.axStp n = true ∧ (let u := (s.at cyc).coilSync n
   (let c := (u.drvS n).coils.getD x CoilS.init
   c.ph = 1 ∧ c.t0 + s.rf (Addr.AX_CHOP n) Fl.AX_CHOP_TBLANK ≤ s.ecyc + cyc ∧ 1000 * (2 * (u.coilTgt n x).natAbs + s.rf (Addr.AX_CHOP n) Fl.AX_CHOP_HYST - 2 * c.ofs) ≤ 2 * (s.uA n uv * c.dir))) :=
  ⟨((((base.wf (Addr.AX_ISCFG 1) Fl.AX_ISCFG_ISCALE 1000).wf (Addr.AX_ICOIL 1) Fl.AX_ICOIL_IRUN 1000).modDrv 1 (fun d => { d with scl := 0x3F800000, coils := [⟨1, 1, 0, 0, 0, [], 0⟩, CoilS.init] })).modAx 1 (fun x => { x with m := 64 })), 1, 0, 1200000, 1200000, 10000, by simp only [State.awake]; decide +kernel⟩
theorem witness_DriveEventsAct_4 : ∃ s : State, ∃ n : Nat, ∃ x : Nat, ∃ uv : Nat, ∃ cyc : Nat, s.awake ∧ n < 6 ∧ x < 2 ∧ s.axStp n = true ∧ (let u := (s.at cyc).coilSync n
   (let c := (u.drvS n).coils.getD x CoilS.init
   c.ph = 2 ∧ 2 * (s.uA n uv * c.dir) ≤ 1000 * (2 * (u.coilTgt n x).natAbs - s.rf (Addr.AX_CHOP n) Fl.AX_CHOP_HYST - 2 * c.ofs))) :=
  ⟨((((base.wf (Addr.AX_ISCFG 1) Fl.AX_ISCFG_ISCALE 1000).wf (Addr.AX_ICOIL 1) Fl.AX_ICOIL_IRUN 1000).modDrv 1 (fun d => { d with scl := 0x3F800000, coils := [⟨1, 2, 0, 0, 0, [], 0⟩, CoilS.init] })).modAx 1 (fun x => { x with m := 64 })), 1, 0, 2048, 10000, by simp only [State.awake]; decide +kernel⟩
theorem witness_DoorsAct_1_1_1 : ∃ s : State, ∃ d : Nat, ∃ k : Nat, ∃ c : Instr, s.taking ∧ 1 ≤ d ∧ d ≤ 4 ∧ (k, c) ∈ [(1, Instr.doorOpen d), (2, .doorClose d), (3, .doorNudge d), (4, .doorStop d), (5, .doorFreset d)] ∧ s.dorEn d = true ∧ s.running = true :=
  ⟨(baseIn .HOLD).modDor 1 (fun x => { x with st := 0 }), 1, 5, .doorFreset 1, by simp only [State.taking, State.awake]; decide +kernel⟩
theorem witness_DoorsAct_1_1_2 : ∃ s : State, ∃ d : Nat, ∃ k : Nat, ∃ c : Instr, s.taking ∧ 1 ≤ d ∧ d ≤ 4 ∧ (k, c) ∈ [(1, Instr.doorOpen d), (2, .doorClose d), (3, .doorNudge d), (4, .doorStop d), (5, .doorFreset d)] ∧ s.hasDoor d = true ∧ (s.dorEn d = false ∨ s.running = false) :=
  ⟨base, 2, 4, .doorStop 2, by simp only [State.taking, State.awake]; decide +kernel⟩
theorem witness_DoorsAct_1_2_1 : ∃ s : State, ∃ k : Nat, ∃ sl : Slot, s.due k 13 1 sl ∧ sl.hin = 0xFF ∧ 1 ≤ sl.inst ∧ sl.inst ≤ 4 ∧ s.dorEn sl.inst = true ∧ (let d := sl.inst
   (let v := s.at sl.start
   (let u := v.dorCounts d
   (let cs := v.dorWords d []
   (let st := (s.dorS d).st
   (st = 7 ∨ u.dorItem1 d = none) ∧ u.dorItem2 d = none ∧ u.dorItem3 d = none ∧ s.mode = .RUN ∧ (st = 0 ∨ st = 6) ∧ 1 ∈ cs ∧ (s.flag (Addr.DOR_CFG d) Fl.DOR_CFG_ZPERM = true → s.dorZone d = true)))))) :=
  ⟨((base).modAx 1 (fun x => { x with homed := true })).modDor 1 (fun x => { x with st := 6, cmds := [3, 1, 4] }), 32, wSlot 32, by simp only [State.due]; decide +kernel⟩
theorem witness_DoorsAct_1_2_2 : ∃ s : State, ∃ k : Nat, ∃ sl : Slot, s.due k 13 1 sl ∧ sl.hin = 0xFF ∧ 1 ≤ sl.inst ∧ sl.inst ≤ 4 ∧ s.dorEn sl.inst = true ∧ (let d := sl.inst
   (let v := s.at sl.start
   (let u := v.dorCounts d
   (let cs := v.dorWords d []
   (let st := (s.dorS d).st
   (st = 7 ∨ u.dorItem1 d = none) ∧ u.dorItem2 d = none ∧ u.dorItem3 d = none ∧ s.mode = .RUN ∧ (st = 0 ∨ st = 6) ∧ 1 ∈ cs ∧ s.flag (Addr.DOR_CFG d) Fl.DOR_CFG_ZPERM = true ∧ s.dorZone d = false))))) :=
  ⟨((base.wf (Addr.DOR_CFG 1) Fl.DOR_CFG_ZPERM 1).modAx 1 (fun x => { x with homed := true })).modDor 1 (fun x => { x with st := 0, cmds := [1] }), 32, wSlot 32, by simp only [State.due]; decide +kernel⟩
theorem witness_DoorsAct_1_2_3 : ∃ s : State, ∃ k : Nat, ∃ sl : Slot, s.due k 13 1 sl ∧ sl.hin = 0xFF ∧ 1 ≤ sl.inst ∧ sl.inst ≤ 4 ∧ s.dorEn sl.inst = true ∧ (let d := sl.inst
   (let v := s.at sl.start
   (let u := v.dorCounts d
   (let cs := v.dorWords d []
   (let st := (s.dorS d).st
   (st = 7 ∨ u.dorItem1 d = none) ∧ u.dorItem2 d = none ∧ u.dorItem3 d = none ∧ s.mode = .RUN ∧ (st = 1 ∨ st = 3 ∨ st = 4) ∧ 4 ∈ cs ∧ 1 ∉ cs))))) :=
  ⟨((base.modAx 1 (fun x => { x with mot := .move })).modAx 1 (fun x => { x with homed := true })).modDor 1 (fun x => { x with st := 4, cmds := [2, 4, 3], tMove := 10 ^ 9 }), 32, wSlot 32, by simp only [State.due]; decide +kernel⟩
theorem witness_DoorsAct_1_2_4 : ∃ s : State, ∃ k : Nat, ∃ sl : Slot, s.due k 13 1 sl ∧ sl.hin = 0xFF ∧ 1 ≤ sl.inst ∧ sl.inst ≤ 4 ∧ s.dorEn sl.inst = true ∧ (let d := sl.inst
   (let v := s.at sl.start
   (let u := v.dorCounts d
   (let cs := v.dorWords d []
   (let st := (s.dorS d).st
   (st = 7 ∨ u.dorItem1 d = none) ∧ u.dorItem2 d = none ∧ u.dorItem3 d = none ∧ s.mode = .RUN ∧ (st = 1 ∨ st = 2 ∨ st = 3) ∧ 3 ∈ cs ∧ 1 ∉ cs ∧ 4 ∉ cs))))) :=
  ⟨((base.modAx 1 (fun x => { x with mot := .move })).modAx 1 (fun x => { x with homed := true })).modDor 1 (fun x => { x with st := 3, cmds := [2, 3], tMove := 10 ^ 9 }), 32, wSlot 32, by simp only [State.due]; decide +kernel⟩
theorem witness_DoorsAct_1_2_5 : ∃ s : State, ∃ k : Nat, ∃ sl : Slot, s.due k 13 1 sl ∧ sl.hin = 0xFF ∧ 1 ≤ sl.inst ∧ sl.inst ≤ 4 ∧ s.dorEn sl.inst = true ∧ (let d := sl.inst
   (let v := s.at sl.start
   (let u := v.dorCounts d
   (let cs := v.dorWords d []
   (let st := (s.dorS d).st
   (st = 7 ∨ u.dorItem1 d = none) ∧ u.dorItem2 d = none ∧ u.dorItem3 d = none ∧ s.mode = .RUN ∧ st = 2 ∧ 2 ∈ cs ∧ 1 ∉ cs ∧ 3 ∉ cs ∧ 4 ∉ cs ∧ s.dorRev d = false))))) :=
  ⟨((base).modAx 1 (fun x => { x with homed := true })).modDor 1 (fun x => { x with st := 2, cmds := [2] }), 32, wSlot 32, by simp only [State.due]; decide +kernel⟩
theorem witness_DoorsAct_1_2_6 : ∃ s : State, ∃ k : Nat, ∃ sl : Slot, s.due k 13 1 sl ∧ sl.hin = 0xFF ∧ 1 ≤ sl.inst ∧ sl.inst ≤ 4 ∧ s.dorEn sl.inst = true ∧ (let d := sl.inst
   (let v := s.at sl.start
   (let u := v.dorCounts d
   (let cs := v.dorWords d []
   (let st := (s.dorS d).st
   (st = 7 ∨ u.dorItem1 d = none) ∧ u.dorItem2 d = none ∧ u.dorItem3 d = none ∧ s.mode ≠ .RUN ∧ st ≠ 7 ∧ (∃ c ∈ cs, 1 ≤ c ∧ c ≤ 4)))))) :=
  ⟨(((baseIn .HOLD).modAx 1 (fun x => { x with mot := .move })).modAx 1 (fun x => { x with homed := true })).modDor 1 (fun x => { x with st := 1, cmds := [4], tMove := 10 ^ 9 }), 32, wSlot 32, by simp only [State.due]; decide +kernel⟩
theorem witness_DoorsAct_1_2_7 : ∃ s : State, ∃ k : Nat, ∃ sl : Slot, s.due k 13 1 sl ∧ sl.hin = 0xFF ∧ 1 ≤ sl.inst ∧ sl.inst ≤ 4 ∧ s.dorEn sl.inst = true ∧ (let d := sl.inst
   (let v := s.at sl.start
   (let u := v.dorCounts d
   (let cs := v.dorWords d []
   (let st := (s.dorS d).st
   (st = 7 ∨ u.dorItem1 d = none) ∧ u.dorItem2 d = none ∧ u.dorItem3 d = none ∧ st = 7 ∧ 5 ∈ cs ∧ s.dorRefd d = true ∧ s.flag (Addr.DOR_IN d) Fl.DOR_IN_CLSEN = true))))) :=
  ⟨((base.wf (Addr.DOR_IN 1) Fl.DOR_IN_CLSEN 1).modAx 1 (fun x => { x with homed := true })).modDor 1 (fun x => { x with st := 7, cmds := [5] }), 32, wSlot 32, by simp only [State.due]; decide +kernel⟩
theorem witness_DoorsAct_2_1 : ∃ s : State, ∃ d : Nat, ∃ cyc : Nat, s.dorEn d = true ∧ s.running = true ∧ (s.at cyc).holdOver d = true ∧ s.dorHoldIn d = false ∧ s.dorRev d = false :=
  ⟨base.modDor 1 (fun x => { x with st := 2 }), 1, 20000000 * 255, by decide +kernel⟩
theorem witness_DoorsAct_2_2 : ∃ s : State, ∃ d : Nat, ∃ cyc : Nat, s.dorEn d = true ∧ s.running = true ∧ (s.at cyc).lockOver d = true :=
  ⟨(base.wf (Addr.DOR_CFG 1) Fl.DOR_CFG_LOCKEN 1).modDor 1 (fun x => { x with st := 0 }), 1, 2000000 * 255, by decide +kernel⟩
theorem witness_DoorsAct_2_3 : ∃ s : State, ∃ d : Nat, ∃ cyc : Nat, s.dorEn d = true ∧ s.running = true ∧ (s.at cyc).tmoveOver d = true :=
  ⟨base.modDor 1 (fun x => { x with st := 5 }), 1, 20000000 * 255 + 1, by decide +kernel⟩
theorem witness_StopTableActs_1_1_1 : ∃ s : State, ∃ e : Nat, s.taking ∧ s.hasUnit 4 = true ∧ e < 1024 ∧ s.stp.la.open_ e = true :=
  ⟨base, 1023, by simp only [State.taking, State.awake]; decide +kernel⟩
theorem witness_StopTableActs_1_1_3_1 : ∃ s : State, ∃ e : Nat, s.taking ∧ s.hasUnit 4 = true ∧ e < 1024 ∧ s.stp.la.open_ e = true ∧ s.cmode = 0 :=
  ⟨base, 1023, by simp only [State.taking, State.awake]; decide +kernel⟩
theorem witness_StopTableActs_1_1_3_3_1 : ∃ s : State, ∃ e : Nat, s.taking ∧ s.hasUnit 4 = true ∧ e < 1024 ∧ s.stp.la.open_ e = true ∧ s.cmode = 0 ∧ s.committedEntries.contains e = false :=
  ⟨base, 1023, by simp only [State.taking, State.awake]; decide +kernel⟩
theorem witness_StopTableActs_1_1_3_4 : ∃ s : State, ∃ e : Nat, s.taking ∧ s.hasUnit 4 = true ∧ e < 1024 ∧ s.stp.la.open_ e = true ∧ s.cmode = 0 ∧ s.committedEntries.contains e = true ∧ bitOf (s.stp.w.flags e) 1 = true :=
  ⟨base.modStp (fun x => { x with w := { x.w with commit := true, next := some (⟨some 1, none⟩, 0), tab := [(4, 2)] } }), 4, by simp only [State.taking, State.awake]; decide +kernel⟩
theorem witness_StopTableActs_1_2 : ∃ s : State, s.taking ∧ s.hasUnit 4 = true :=
  ⟨base, by simp only [State.taking, State.awake]; decide +kernel⟩
theorem witness_StopTableActs_1_3 : ∃ s : State, ∃ e : Nat, ∃ dest : Nat, ∃ side : Nat, ∃ pax : Nat, ∃ k : Nat, s.taking ∧ s.hasUnit 4 = true ∧ s.cmode = 2 ∧ e < 1024 ∧ dest < 256 ∧ side < 2 ∧ 0 < pax ∧ pax < 64 ∧ s.stp.la.open_ e = true ∧ s.stp.la.open_ (4 * dest + 2 * (e / 2 % 2) + side) = true ∧ dest ≠ e / 4 ∧ (List.range 64).find? (fun k => (aget s.stp.w.recs k).isNone) = some k :=
  ⟨base.wf Addr.STP_CFG Fl.STP_CFG_CMODE 2, 0, 255, 0, 63, 0, by simp only [State.taking, State.awake]; decide +kernel⟩
theorem witness_StopTableActs_2_2_1 : ∃ s : State, ∃ cyc : Nat, s.hasUnit 4 = true ∧ s.running = true ∧ (s.at cyc).tstartOver = true :=
  ⟨base.modStp (fun x => { x with w := { x.w with cst := 2 } }), 20000000 * 65535, by decide +kernel⟩
theorem witness_StopTableActs_2_2_2 : ∃ s : State, ∃ cyc : Nat, s.hasUnit 4 = true ∧ s.running = true ∧ s.relevelDue = true :=
  ⟨base.modStp (fun x => { x with w := { x.w with cst := 5, pres := some (⟨some 1, none⟩, 0), rlc := 65535 } }), 0, by decide +kernel⟩
theorem witness_StopTableActs_2_2_3 : ∃ s : State, ∃ cyc : Nat, s.hasUnit 4 = true ∧ s.running = true ∧ (s.at cyc).relevelOver = true :=
  ⟨base.modStp (fun x => { x with w := { x.w with cst := 6 } }), 1000000001, by decide +kernel⟩
theorem witness_GroupFramesAct_1 : ∃ s : State, ∃ f : CanFrm, ∃ own : Bool, ∃ g : Grp, ∃ k : Nat, s.awake ∧ s.bidPart = true ∧ gfrmOf f = some g ∧ g.pcl = 0 ∧ g.kind = 1 ∧ s.bid.w.hasId (ofLE ((List.range 4).map (fun j => f.data.getD j 0 % 256))) = false ∧ s.bid.w.bySeq g.seq = none ∧ s.bid.w.freeK = some k :=
  ⟨base, frame (1 * 2 ^ 22 + 9 * 64 + 5) true [1, 0, 0, 0x10, 0, 0, 0, 0], false, ⟨0, 1, 9, 0, false⟩, 0, by simp only [State.awake]; decide +kernel⟩
theorem witness_GroupFramesAct_2_1 : ∃ s : State, ∃ f : CanFrm, ∃ own : Bool, ∃ g : Grp, ∃ k : Nat, ∃ e : BidE, s.awake ∧ s.bidPart = true ∧ gfrmOf f = some g ∧ s.bid.w.bySeq g.seq = some (k, e) ∧ aget s.bid.w.tab k = some e ∧ g.pcl = 0 ∧ g.kind = 2 ∧ e.round = g.round :=
  ⟨base.modBid (fun c => { c with tab := [(3, bidE)] }), frame (2 * 2 ^ 22 + 9 * 64 + 5) true [1, 0, 0, 0x10, 0, 0, 0, 0], false, ⟨0, 2, 9, 0, false⟩, 3, bidE, by simp only [State.awake]; decide +kernel⟩
theorem witness_GroupFramesAct_2_2 : ∃ s : State, ∃ f : CanFrm, ∃ own : Bool, ∃ g : Grp, ∃ k : Nat, ∃ e : BidE, s.awake ∧ s.bidPart = true ∧ gfrmOf f = some g ∧ s.bid.w.bySeq g.seq = some (k, e) ∧ aget s.bid.w.tab k = some e ∧ g.pcl ≠ 0 ∧ g.rebid = false ∧ e.round = g.round ∧ e.st = 1 :=
  ⟨base.modBid (fun c => { c with tab := [(3, bidE)] }), frame (2 ^ 26 + 77 * 64 + 5) true [9, 0, 0, 0, 0, 0, 0, 0], false, ⟨1, 0, 9, 0, false⟩, 3, bidE, by simp only [State.awake]; decide +kernel⟩
theorem witness_GroupFramesAct_2_3 : ∃ s : State, ∃ f : CanFrm, ∃ own : Bool, ∃ g : Grp, ∃ k : Nat, ∃ e : BidE, s.awake ∧ s.bidPart = true ∧ gfrmOf f = some g ∧ s.bid.w.bySeq g.seq = some (k, e) ∧ aget s.bid.w.tab k = some e ∧ g.pcl = 0 ∧ g.kind = 3 ∧ e.round = ofLE ((List.range 4).map (fun j => f.data.getD (4 + j) 0 % 256)) / 2 ^ 27 % 4 :=
  ⟨base.modBid (fun c => { c with tab := [(3, bidE)] }), frame (3 * 2 ^ 22 + 9 * 64 + 5) true [1, 0, 0, 0x10, 0, 0, 0, 0], false, ⟨0, 3, 9, 0, false⟩, 3, bidE, by simp only [State.awake]; decide +kernel⟩
theorem witness_GroupFramesAct_2_4 : ∃ s : State, ∃ f : CanFrm, ∃ own : Bool, ∃ g : Grp, ∃ k : Nat, ∃ e : BidE, s.awake ∧ s.bidPart = true ∧ gfrmOf f = some g ∧ s.bid.w.bySeq g.seq = some (k, e) ∧ aget s.bid.w.tab k = some e ∧ g.pcl = 0 ∧ g.kind = 4 ∧ e.round = g.round :=
  ⟨base.modBid (fun c => { c with tab := [(3, bidE)] }), frame (4 * 2 ^ 22 + 9 * 64 + 5) true [1, 0, 0, 0x10, 0, 0, 0, 0], false, ⟨0, 4, 9, 0, false⟩, 3, bidE, by simp only [State.awake]; decide +kernel⟩
theorem witness_GroupFramesAct_3 : ∃ s : State, ∃ f : CanFrm, ∃ own : Bool, ∃ g : Grp, s.awake ∧ s.bidPart = true ∧ gfrmOf f = some g ∧ g.pcl = 0 ∧ g.kind = 5 :=
  ⟨base, frame (5 * 2 ^ 22 + 9 * 64 + 5) true [1, 0, 0, 0x10, 0, 0, 0, 0], false, ⟨0, 5, 9, 0, false⟩, by simp only [State.awake]; decide +kernel⟩
theorem witness_GroupFramesAct_4 : ∃ s : State, ∃ f : CanFrm, ∃ own : Bool, ∃ c : Instr, s.bidPart = false ∧ (c = .announce f own ∨ c = .tick f own ∨ c = .bid f own ∨ c = .holdFrame f own ∨ c = .closeFrame f own ∨ c = .status f own) :=
  ⟨inMode .RUN, frame (2 * 2 ^ 22 + 9 * 64 + 5) true [1, 0, 0, 0x10, 0, 0, 0, 0], true, .tick (frame (2 * 2 ^ 22 + 9 * 64 + 5) true [1, 0, 0, 0x10, 0, 0, 0, 0]) true, by decide +kernel⟩
theorem witness_DispatchEventsAct_1_1 : ∃ s : State, ∃ w : Nat, ∃ k : Nat, s.awake ∧ s.standby = false ∧ s.bidPart = true ∧ w < 2 ^ 32 ∧ idType w ≠ 0 ∧ s.bid.w.hasId w = true :=
  ⟨base.modBid (fun c => { c with tab := [(3, { bidE with idw := hallCall })] }), hallCall, 0, by simp only [State.awake]; decide +kernel⟩
theorem witness_DispatchEventsAct_1_2 : ∃ s : State, ∃ w : Nat, ∃ k : Nat, s.awake ∧ s.standby = false ∧ s.bidPart = true ∧ w < 2 ^ 32 ∧ idType w ≠ 0 ∧ s.bid.w.hasId w = false ∧ s.bid.w.freeK = some k ∧ s.alone = false ∧ s.dupcar = false :=
  ⟨base, hallCall, 0, by simp only [State.awake]; decide +kernel⟩
theorem witness_DispatchEventsAct_2 : ∃ s : State, s.taking ∧ s.hasUnit 0 = true :=
  ⟨base, by simp only [State.taking, State.awake]; decide +kernel⟩
theorem witness_DispatchEventsAct_3 : ∃ s : State, s.awake ∧ s.standby = false ∧ s.bidPart = true ∧ s.dupcar = false ∧ s.bid.w.stt + s.tstat ≤ s.now :=
  ⟨{ base with ecyc := 200000 * 65535 }, by simp only [State.awake]; decide +kernel⟩
theorem witness_DispatchEventsAct_4 : ∃ s : State, ∃ k : Nat, ∃ e : BidE, s.awake ∧ s.standby = false ∧ s.bidPart = true ∧ s.alone = false ∧ s.dupcar = false ∧ aget s.bid.w.tab k = some e ∧ e.mine = true ∧ e.st = 2 ∧ e.clsd = false ∧ e.pubT + 50 * s.tstat ≤ s.now :=
  ⟨{ (base.modBid (fun c => { c with tab := [(191, { bidE with st := 2 })] })) with ecyc := 50 * 200000 * 65535 }, 191, { bidE with st := 2 }, by simp only [State.awake]; decide +kernel⟩
theorem witness_DispatchEventsAct_5 : ∃ s : State, ∃ n : Nat, s.awake ∧ s.bidPart = true ∧ (aget s.bid.w.cars n).isSome = true ∧ s.carPresent n = false :=
  ⟨{ (base.modBid (fun c => { c with cars := [(63, (0, true, true))] })) with ecyc := 256 * 200000 * 65535 }, 63, by simp only [State.awake]; decide +kernel⟩
theorem witness_GuardEventsAct_1_1 : ∃ s : State, s.taking ∧ s.hasUnit 1 = true ∧ s.tripClrOk = true :=
  ⟨(baseIn .HOLD).modHdl (fun h => { h with gst := 4 }), by simp only [State.taking, State.awake]; decide +kernel⟩
theorem witness_GuardEventsAct_1_2 : ∃ s : State, s.taking ∧ s.hasUnit 1 = true ∧ s.tripClrOk = false :=
  ⟨base.modHdl (fun h => { h with gst := 4 }), by simp only [State.taking, State.awake]; decide +kernel⟩
theorem witness_GuardEventsAct_2 : ∃ s : State, s.awake ∧ s.hdl.gst = 1 ∧ 16 ≤ s.hdl.armN :=
  ⟨base.modHdl (fun h => { h with gst := 1, armN := 16 }), by simp only [State.awake]; decide +kernel⟩
theorem witness_GuardEventsAct_3_1 : ∃ s : State, s.awake ∧ s.hdl.act = true ∧ s.hdl.gst = 2 ∧ s.rf Addr.HDL_OVCFG Fl.HDL_OVCFG_OVN ≤ s.hdl.ovS ∧ s.hdl.ovS ≠ 0 ∧ s.hdl.ovT = 0 :=
  ⟨base.modHdl (fun h => { h with act := true, gst := 2, ovS := 255 }), by simp only [State.awake]; decide +kernel⟩
theorem witness_GuardEventsAct_3_2 : ∃ s : State, s.awake ∧ s.hdl.act = true ∧ (s.hdl.gst = 2 ∨ s.hdl.gst = 3) ∧ s.rf Addr.HDL_OVCFG Fl.HDL_OVCFG_OVN ≤ s.hdl.ovT ∧ s.hdl.ovT ≠ 0 :=
  ⟨base.modHdl (fun h => { h with act := true, gst := 3, ovT := 255 }), by simp only [State.awake]; decide +kernel⟩
theorem witness_GuardEventsAct_3_3 : ∃ s : State, s.awake ∧ s.hdl.act = true ∧ s.hdl.gst = 3 ∧ s.hdl.esc = true ∧ s.nrf < s.hdl.nH ∧ s.rf Addr.HDL_ESCCFG Fl.HDL_ESCCFG_SHN ≤ s.hdl.et.cnt :=
  ⟨base.modHdl (fun h => { h with act := true, gst := 3, esc := true, nH := 10 ^ 9, et := ⟨0, 10 ^ 9⟩ }), by simp only [State.awake]; decide +kernel⟩
theorem witness_GuardEventsAct_3_4 : ∃ s : State, s.awake ∧ s.hdl.act = true ∧ s.hdl.gst = 2 ∧ s.shToward = true ∧ s.rf Addr.HDL_SHCFG Fl.HDL_SHCFG_IMGMISS ≤ s.hdl.miss ∧ s.hdl.miss < s.rf Addr.HDL_SHCFG Fl.HDL_SHCFG_IMGTRIP :=
  ⟨((base.wf Addr.HDL_SHCFG Fl.HDL_SHCFG_IMGMISS 3).wf Addr.HDL_SHCFG Fl.HDL_SHCFG_IMGTRIP 4).modHdl (fun h => { h with act := true, gst := 2, v := 5, miss := 3 }), by simp only [State.awake]; decide +kernel⟩
theorem witness_GuardEventsAct_3_5 : ∃ s : State, s.awake ∧ s.hdl.act = true ∧ (s.hdl.gst = 2 ∨ s.hdl.gst = 3) ∧ s.shToward = true ∧ s.rf Addr.HDL_SHCFG Fl.HDL_SHCFG_IMGTRIP ≤ s.hdl.miss :=
  ⟨base.modHdl (fun h => { h with act := true, gst := 2, v := 5, miss := 255 }), by simp only [State.awake]; decide +kernel⟩
theorem witness_GuardEventsAct_4 : ∃ s : State, s.running = true ∧ s.flag Addr.HDL_ZIN Fl.HDL_ZIN_EN = true ∧ s.rf Addr.HDL_ZIN Fl.HDL_ZIN_ZDN ≤ s.hdl.zdN ∧ s.hdl.zdN ≠ 0 :=
  ⟨(base.wf Addr.HDL_ZIN Fl.HDL_ZIN_EN 1).modHdl (fun h => { h with zdN := 10 ^ 9 }), by decide +kernel⟩
theorem witness_FieldInputsAct_1_1 : ∃ s : State, ∃ k : Nat, ∃ b : Bool, ∃ v : Bool, ∃ cyc : Nat, k < 32 ∧ (s.fio.filt (filtIx k b)).raw ≠ v :=
  ⟨base, 31, true, true, 7, by decide +kernel⟩
theorem witness_FieldInputsAct_1_2 : ∃ s : State, ∃ k : Nat, ∃ cyc : Nat, ∃ w : WinF, k < 24 ∧ s.fio.filt k = w ∧ w.run = true ∧ w.raw ≠ w.acc ∧ w.since + s.deb k ≤ s.ecyc + cyc :=
  ⟨{ base with fio := { base.fio with flt := setAt 40 WinF.init base.fio.flt 23 (fun _ => wf0) } }, 23, 20000 * 255, wf0, by decide +kernel⟩
theorem witness_FieldInputsAct_1_3 : ∃ s : State, ∃ k : Nat, ∃ cyc : Nat, ∃ b : Bool, ∃ w : WinF, k < 32 ∧ s.fio.filt (filtIx k b) = w ∧ w.run = true ∧ w.raw = w.acc ∧ w.since + s.deb k ≤ s.ecyc + cyc :=
  ⟨{ base with fio := { base.fio with flt := setAt 40 WinF.init base.fio.flt 31 (fun _ => { wf0 with acc := true }) } }, 31, 20000 * 255, false, { wf0 with acc := true }, by decide +kernel⟩
theorem witness_FieldInputsAct_1_4_1 : ∃ s : State, ∃ g : Nat, ∃ w0 : Nat, ∃ fr : Nat, ∃ f : Nat, ∃ q : List (Nat × Nat × Nat), s.awake ∧ g < 4 ∧ s.fio.fifo.getD g [] = (w0, fr, f) :: q ∧ s.dpGroup g = false :=
  ⟨base, 1, 0x91000000, 7, 3, [(0x80000000, 8, 4)], by simp only [State.awake]; decide +kernel⟩
theorem witness_FieldInputsAct_1_4_2 : ∃ s : State, ∃ g : Nat, ∃ w0 : Nat, ∃ fr : Nat, ∃ f : Nat, ∃ q : List (Nat × Nat × Nat), s.awake ∧ g < 4 ∧ s.fio.fifo.getD g [] = (w0, fr, f) :: q ∧ s.dpGroup g = true :=
  ⟨base, 0, 0x80000000, 0, 0, [], by simp only [State.awake]; decide +kernel⟩
theorem witness_FieldInputsAct_2_1 : ∃ s : State, ∃ k : Nat, ∃ cyc : Nat, s.awake ∧ k < 32 ∧ bitOf (s.rd Addr.FIO_STLEN).toNat k = true ∧ s.fio.stl.getD k 0 + 200000000 * s.rf Addr.FIO_STLT ⟨8 * (k / 8), 8⟩ ≤ s.ecyc + cyc :=
  ⟨base.wf Addr.FIO_STLEN ⟨31, 1⟩ 1, 31, 200000000 * 255, by simp only [State.awake]; decide +kernel⟩
theorem witness_FieldInputsAct_2_2 : ∃ s : State, ∃ m : Nat, s.awake :=
  ⟨base, 0xFFFFFFFF, by simp only [State.awake]; decide +kernel⟩
theorem witness_FieldInputsAct_2_3 : ∃ s : State, ∃ j : Nat, ∃ cyc : Nat, ∃ t0 : Nat, s.awake ∧ j < 8 ∧ s.fio.tapT.getD j none = some t0 ∧ bitOf s.fio.tapL j = false ∧ t0 + 200000 * s.rf Addr.FIO_TAPCFG ⟨0, 8⟩ ≤ s.ecyc + cyc :=
  ⟨base.modFio (fun f => { f with tapT := List.replicate 7 none ++ [some 0] }), 7, 200000 * 255, 0, by simp only [State.awake]; decide +kernel⟩
theorem witness_FieldOutputsAct_1_1 : ∃ s : State, ∃ k : Nat, s.awake ∧ k < 16 ∧ s.compares = true :=
  ⟨(base.wf Addr.FIO_STAT Fl.FIO_STAT_UVF 0), 15, by simp only [State.awake]; decide +kernel⟩
theorem witness_FieldOutputsAct_1_2_1 : ∃ s : State, ∃ i : Nat, s.awake ∧ i < 4 ∧ s.compares = true ∧ bitOf s.conducts i = false :=
  ⟨(base.wf Addr.FIO_STAT Fl.FIO_STAT_UVF 0), 3, by simp only [State.awake]; decide +kernel⟩
theorem witness_FieldOutputsAct_1_2_2 : ∃ s : State, ∃ i : Nat, s.awake ∧ i < 4 ∧ s.compares = true ∧ bitOf s.conducts i = true :=
  ⟨(base.wf Addr.FIO_STAT Fl.FIO_STAT_UVF 0).modFio (fun f => { f with silent := false, allow := true, up := true, arm := 8, rel := 2 ^ 17, fgate := 0 }), 3, by simp only [State.awake]; decide +kernel⟩
theorem witness_FieldOutputsAct_1_3 : ∃ s : State, ∃ k : Nat, k < 16 :=
  ⟨base, 15, by decide +kernel⟩
theorem witness_FieldOutputsAct_1_4 : ∃ s : State, ∃ cyc : Nat, s.fio.up = true ∧ s.fio.silent = false ∧ s.fio.hb * 100 + 98 * (s.rf Addr.FIO_OCFG Fl.FIO_OCFG_SILN * s.fio.per) ≤ (s.ecyc + cyc) * 100 :=
  ⟨base.modFio (fun f => { f with up := true, silent := false }), 10 ^ 9, by decide +kernel⟩
theorem witness_FieldOutputsAct_1_7 : ∃ s : State, s.fstat Fl.FIO_STAT_UVF = false :=
  ⟨(base.wf Addr.FIO_STAT Fl.FIO_STAT_UVF 0), by decide +kernel⟩
theorem witness_FieldOutputsAct_1_9 : ∃ s : State, s.fstat Fl.FIO_STAT_FLOST = false :=
  ⟨base, by decide +kernel⟩
theorem witness_FieldOutputsAct_2_1 : ∃ s : State, s.taking ∧ s.armOk 0 = true ∧ s.rests ∧ s.flt.hcls = 0 :=
  ⟨(((baseIn .READY).wf Addr.FIO_STAT Fl.FIO_STAT_UVF 0).modFio (fun f => { f with silent := false })), by simp only [State.taking, State.rests, State.awake]; decide +kernel⟩
theorem witness_FieldOutputsAct_2_2 : ∃ s : State, s.taking ∧ s.armOk 1 = true ∧ s.rests ∧ s.flt.hcls = 0 :=
  ⟨(((baseIn .READY).wf Addr.FIO_STAT Fl.FIO_STAT_UVF 0).modFio (fun f => { f with silent := false })), by simp only [State.taking, State.rests, State.awake]; decide +kernel⟩
theorem witness_FieldOutputsAct_2_3 : ∃ s : State, s.taking ∧ s.armOk 0 = false :=
  ⟨base, by simp only [State.taking, State.awake]; decide +kernel⟩
theorem witness_FieldOutputsAct_2_4 : ∃ s : State, s.taking ∧ s.armOk 1 = false :=
  ⟨base, by simp only [State.taking, State.awake]; decide +kernel⟩
theorem witness_EnergyUnitActs_1_1_1 : ∃ s : State, s.taking ∧ s.hasUnit 3 = true ∧ s.mode ≠ .RUN :=
  ⟨baseIn .HOLD, by simp only [State.taking, State.awake]; decide +kernel⟩
theorem witness_EnergyUnitActs_1_1_2 : ∃ s : State, s.taking ∧ s.hasUnit 3 = true ∧ s.mode = .RUN :=
  ⟨base, by simp only [State.taking, State.awake]; decide +kernel⟩
theorem witness_EnergyUnitActs_1_2 : ∃ s : State, s.awake ∧ s.hasUnit 3 = true :=
  ⟨base, by simp only [State.awake]; decide +kernel⟩
theorem witness_EnergyUnitActs_1_3 : ∃ s : State, s.awake ∧ s.nrgActive = true ∧ s.nrg.ckT + 180000000000 < s.ecyc + s.ncyc ∧ s.loft.ckReg ≠ [] ∧ s.loft.spares ≠ [] :=
  ⟨{ (base.wf Addr.NRG_STAT Fl.NRG_STAT_ACTIVE 1) with ecyc := 10 ^ 12 }, by simp only [State.awake]; decide +kernel⟩
theorem witness_EnergyUnitActs_1_4 : ∃ s : State, s.awake ∧ s.ecyc + s.ncyc ≤ s.nrg.ckT + 180000000000 :=
  ⟨(base.wf Addr.NRG_STAT Fl.NRG_STAT_ACTIVE 1), by simp only [State.awake]; decide +kernel⟩
theorem witness_EnergyUnitActs_2_1 : ∃ s : State, ∃ c : Nat, s.awake ∧ s.nrg.clk = true ∧ s.judged c = true :=
  ⟨(base.wf Addr.NRG_CFG Fl.NRG_CFG_CHEN 0xFF).modNrg (fun n => { n with clk := true }), 7, by simp only [State.awake]; decide +kernel⟩
theorem witness_EnergyUnitActs_2_2 : ∃ s : State, ∃ c : Nat, s.awake ∧ c < 8 :=
  ⟨base, 7, by simp only [State.awake]; decide +kernel⟩
theorem witness_EnergyUnitActs_2_3 : ∃ s : State, s.awake ∧ s.nrgActive = true ∧ s.nrg.skip = 0 ∧ s.nrgForceDue = true :=
  ⟨{ (base.wf Addr.NRG_STAT Fl.NRG_STAT_ACTIVE 1) with ecyc := 10 ^ 9 }, by simp only [State.awake]; decide +kernel⟩
theorem witness_EnergyUnitActs_2_4 : ∃ s : State, s.awake ∧ s.nrgActive = true ∧ s.nrg.pph = 0 ∧ 0 < s.nrg.pend :=
  ⟨(base.wf Addr.NRG_STAT Fl.NRG_STAT_ACTIVE 1).modNrg (fun n => { n with pend := 1 }), by simp only [State.awake]; decide +kernel⟩
theorem witness_EnergyUnitActs_2_5 : ∃ s : State, s.awake ∧ s.nrg.pph = 1 ∧ s.nrg.pt0 + s.nrg.pw ≤ s.frm :=
  ⟨{ (base.modNrg (fun n => { n with pph := 1, pw := 2 })) with frm := 2 }, by simp only [State.awake]; decide +kernel⟩
theorem witness_EnergyUnitActs_2_6 : ∃ s : State, s.awake ∧ s.nrg.pph = 2 ∧ s.nrg.pt0 + s.nrg.pw ≤ s.frm :=
  ⟨{ (base.modNrg (fun n => { n with pph := 2, pw := 2 })) with frm := 2 }, by simp only [State.awake]; decide +kernel⟩
theorem witness_CanFramesMove_1_1 : ∃ s : State, ∃ x : Nat, ∃ cyc : Nat, ∃ age : Nat, ∃ f : CanFrm, ∃ r : SRec, x < 2 ∧ s.awake ∧ s.canStat x Fl.CAN_STAT_SLEEPING = false ∧ s.canStat x Fl.CAN_STAT_ACTIVE = true ∧ f.rtr = false ∧ (f.fdf = true → s.canCfg x Fl.CAN_CFG_FDEN ≠ 0) ∧ s.isNmt x f = false ∧ s.isSdo x f = false ∧ s.rxObj? x f = some r ∧ oOwner r = 1 ∧ (s.canS x).q.length < 64 :=
  ⟨(base.wf (Addr.CAN_STAT 0) Fl.CAN_STAT_ACTIVE 1), 0, 9, 0, frame 0x124 false [1], wRxQ, by simp only [State.awake]; decide +kernel⟩
theorem witness_CanFramesMove_1_2 : ∃ s : State, ∃ x : Nat, ∃ cyc : Nat, ∃ age : Nat, ∃ f : CanFrm, ∃ r : SRec, x < 2 ∧ s.awake ∧ s.canStat x Fl.CAN_STAT_SLEEPING = false ∧ s.canStat x Fl.CAN_STAT_ACTIVE = true ∧ f.rtr = false ∧ (f.fdf = true → s.canCfg x Fl.CAN_CFG_FDEN ≠ 0) ∧ s.isNmt x f = false ∧ s.isSdo x f = false ∧ s.rxObj? x f = some r ∧ oOwner r = 2 ∧ s.lockedObj x ≠ some (oObj r) :=
  ⟨(base.wf (Addr.CAN_STAT 0) Fl.CAN_STAT_ACTIVE 1), 0, 9, 0, frame 0x123 false [1], wRx, by simp only [State.awake]; decide +kernel⟩
theorem witness_CanFramesMove_2 : ∃ s : State, ∃ x : Nat, ∃ cyc : Nat, ∃ k : Nat, ∃ f : CanFrm, x < 2 ∧ s.awake ∧ s.canMaySend x = true ∧ leastOffer (s.offers x) = some (k, f) ∧ k < 128 :=
  ⟨(base.wf (Addr.CAN_STAT 0) Fl.CAN_STAT_ACTIVE 1).modCan 0 (fun c => { c with tx := [(127, { CTx.init with st := 2, frm := some (frame 0x7FF false [1]) })] }), 0, 9, 127, frame 0x7FF false [1], by simp only [State.awake]; decide +kernel⟩
theorem witness_CanFramesMove_3_1 : ∃ s : State, ∃ x : Nat, ∃ cyc : Nat, ∃ u : CCur, x < 2 ∧ s.awake ∧ (s.canS x).cur = some u ∧ u.obj < 128 ∧ (s.at cyc).inBus x = false :=
  ⟨(base.wf (Addr.CAN_STAT 0) Fl.CAN_STAT_ACTIVE 1).modCan 0 (fun c => { c with cur := some ⟨5, frame 0x125 false [1], 0⟩, tx := [(5, { CTx.init with st := 3 })] }), 0, 0, ⟨5, frame 0x125 false [1], 0⟩, by simp only [State.awake]; decide +kernel⟩
theorem witness_CanFramesMove_3_2 : ∃ s : State, ∃ x : Nat, ∃ cyc : Nat, ∃ u : CCur, ∃ tdc : Nat, x < 2 ∧ s.awake ∧ (s.canS x).cur = some u ∧ u.obj < 128 ∧ ((s.canS x).txO u.obj).st = 3 :=
  ⟨(base.wf (Addr.CAN_STAT 0) Fl.CAN_STAT_ACTIVE 1).modCan 0 (fun c => { c with cur := some ⟨5, frame 0x125 false [1], 0⟩, tx := [(5, { CTx.init with st := 3 })] }), 0, 9, ⟨5, frame 0x125 false [1], 0⟩, 0, by simp only [State.awake]; decide +kernel⟩
theorem witness_CanFramesMove_3_3 : ∃ s : State, ∃ x : Nat, ∃ cyc : Nat, ∃ u : CCur, ∃ e : BusErr, x < 2 ∧ s.awake ∧ (s.canS x).cur = some u ∧ u.obj < 128 ∧ s.canStat x Fl.CAN_STAT_ACTIVE = true ∧ ((s.canS x).txO u.obj).st = 3 ∧ ((s.canS x).txO u.obj).cancel = false ∧ e.dataPh = false :=
  ⟨(base.wf (Addr.CAN_STAT 0) Fl.CAN_STAT_ACTIVE 1).modCan 0 (fun c => { c with cur := some ⟨5, frame 0x125 false [1], 0⟩, tx := [(5, { CTx.init with st := 3 })] }), 0, 9, ⟨5, frame 0x125 false [1], 0⟩, ⟨3, false, false, false, 0, none⟩, by simp only [State.awake]; decide +kernel⟩
theorem witness_CanFramesMove_4 : ∃ s : State, ∃ x : Nat, ∃ k : Nat, ∃ cyc : Nat, x < 2 ∧ s.awake ∧ k ≠ 128 ∧ ((s.canS x).txO k).st = 1 ∧ (s.at cyc).instDue ((s.canS x).txO k).inst = true :=
  ⟨(base.wf (Addr.CAN_STAT 0) Fl.CAN_STAT_ACTIVE 1).modCan 0 (fun c => { c with tx := [(5, { CTx.init with st := 1, inst := 0 })] }), 0, 5, 200, by simp only [State.awake]; decide +kernel⟩
theorem witness_CanBusStates_1 : ∃ s : State, ∃ x : Nat, x < 2 ∧ s.awake ∧ s.canCfg x Fl.CAN_CFG_ALN ≤ (s.canS x).aln :=
  ⟨base.modCan 1 (fun c => { c with aln := 255 }), 1, by simp only [State.awake]; decide +kernel⟩
theorem witness_CanBusStates_2 : ∃ s : State, ∃ x : Nat, x < 2 ∧ s.awake ∧ s.canStat x Fl.CAN_STAT_BOFF = true :=
  ⟨base.wf (Addr.CAN_STAT 1) Fl.CAN_STAT_BOFF 1, 1, by simp only [State.awake]; decide +kernel⟩
theorem witness_CanBusStates_3 : ∃ s : State, ∃ x : Nat, x < 2 ∧ s.awake ∧ s.canStat x Fl.CAN_STAT_BOFF = true ∧ (s.canS x).recov = true :=
  ⟨(base.wf (Addr.CAN_STAT 1) Fl.CAN_STAT_BOFF 1).modCan 1 (fun c => { c with recov := true }), 1, by simp only [State.awake]; decide +kernel⟩
theorem witness_CanBusStates_4 : ∃ s : State, ∃ x : Nat, x < 2 ∧ s.awake ∧ s.canStat x Fl.CAN_STAT_INTEG = true :=
  ⟨base.wf (Addr.CAN_STAT 1) Fl.CAN_STAT_INTEG 1, 1, by simp only [State.awake]; decide +kernel⟩
theorem witness_CanBusStates_5 : ∃ s : State, ∃ x : Nat, x < 2 ∧ s.awake ∧ s.mode ≠ .RUN ∧ s.canStat x Fl.CAN_STAT_BOFF = false :=
  ⟨baseIn .HOLD, 1, by simp only [State.awake]; decide +kernel⟩
theorem witness_CanBusStates_6 : ∃ s : State, ∃ x : Nat, x < 2 ∧ s.awake ∧ s.mode = .RUN :=
  ⟨base, 1, by simp only [State.awake]; decide +kernel⟩
theorem witness_CanBusStates_7 : ∃ s : State, ∃ x : Nat, x < 2 ∧ s.awake ∧ (s.canS x).slpRq = true ∧ (s.canS x).cur = none :=
  ⟨base.modCan 1 (fun c => { c with slpRq := true }), 1, by simp only [State.awake]; decide +kernel⟩
theorem witness_CanBusStates_8 : ∃ s : State, ∃ x : Nat, x < 2 ∧ s.awake ∧ s.canStat x Fl.CAN_STAT_SLEEPING = true :=
  ⟨base.wf (Addr.CAN_STAT 1) Fl.CAN_STAT_SLEEPING 1, 1, by simp only [State.awake]; decide +kernel⟩
theorem witness_CanBusStates_9 : ∃ s : State, ∃ x : Nat, x < 2 ∧ s.awake ∧ s.canStat x Fl.CAN_STAT_SLEEPING = true ∧ s.canCfg x Fl.CAN_CFG_WAKEM = 0 :=
  ⟨base.wf (Addr.CAN_STAT 1) Fl.CAN_STAT_SLEEPING 1, 1, by simp only [State.awake]; decide +kernel⟩
theorem witness_CanSoftwareAccess_1_1 : ∃ s : State, ∃ x : Nat, ∃ r : SRec, x < 2 ∧ s.awake ∧ s.obj? x (s.rf (Addr.CAN_TXSEL x) Fl.CAN_TXSEL_OBJ) = some r ∧ oTx r = true ∧ oOwner r = 2 ∧ (let k := s.rf (Addr.CAN_TXSEL x) Fl.CAN_TXSEL_OBJ
   ((s.canS x).txO k).st = 0 ∧ oFdf r = true) :=
  ⟨(base.wf (Addr.CAN_TXSEL 0) Fl.CAN_TXSEL_OBJ 5), 0, wTx, by simp only [State.awake]; decide +kernel⟩
theorem witness_CanSoftwareAccess_1_2 : ∃ s : State, ∃ x : Nat, ∃ r : SRec, x < 2 ∧ s.awake ∧ s.obj? x (s.rf (Addr.CAN_TXSEL x) Fl.CAN_TXSEL_OBJ) = some r ∧ oTx r = true ∧ oOwner r = 2 ∧ (let k := s.rf (Addr.CAN_TXSEL x) Fl.CAN_TXSEL_OBJ
   (((s.canS x).txO k).st = 1 ∨ ((s.canS x).txO k).st = 2)) :=
  ⟨(base.wf (Addr.CAN_TXSEL 0) Fl.CAN_TXSEL_OBJ 5).modCan 0 (fun c => { c with tx := [(5, { CTx.init with st := 1 })] }), 0, wTx, by simp only [State.awake]; decide +kernel⟩
theorem witness_CanSoftwareAccess_1_3 : ∃ s : State, ∃ x : Nat, ∃ r : SRec, x < 2 ∧ s.awake ∧ s.obj? x (s.rf (Addr.CAN_TXSEL x) Fl.CAN_TXSEL_OBJ) = some r ∧ oTx r = true ∧ oOwner r = 2 ∧ (let k := s.rf (Addr.CAN_TXSEL x) Fl.CAN_TXSEL_OBJ
   ((s.canS x).txO k).st = 3) :=
  ⟨(base.wf (Addr.CAN_TXSEL 0) Fl.CAN_TXSEL_OBJ 5).modCan 0 (fun c => { c with tx := [(5, { CTx.init with st := 3 })] }), 0, wTx, by simp only [State.awake]; decide +kernel⟩
theorem witness_CanSoftwareAccess_2_1 : ∃ s : State, ∃ x : Nat, ∃ r : SRec, ∃ f : CanFrm, ∃ w, x < 2 ∧ s.awake ∧ s.obj? x (s.rf (Addr.CAN_RXSEL x) Fl.CAN_RXSEL_OBJ) = some r ∧ oTx r = false ∧ oOwner r = 2 ∧ ((s.canS x).rxO (s.rf (Addr.CAN_RXSEL x) Fl.CAN_RXSEL_OBJ)).frm = some f ∧ w < 19 :=
  ⟨(base.wf (Addr.CAN_RXSEL 0) Fl.CAN_RXSEL_OBJ 3).modCan 0 (fun c => { c with rx := [(3, { CRx.init with frm := some (frame 0x123 false [1]), new := true })] }), 0, wRx, frame 0x123 false [1], 18, by simp only [State.awake]; decide +kernel⟩
theorem witness_CanSoftwareAccess_2_2 : ∃ s : State, ∃ x : Nat, ∃ r : SRec, ∃ f : CanFrm, x < 2 ∧ s.awake ∧ s.obj? x (s.rf (Addr.CAN_RXSEL x) Fl.CAN_RXSEL_OBJ) = some r ∧ oTx r = false ∧ oOwner r = 2 ∧ ((s.canS x).rxO (s.rf (Addr.CAN_RXSEL x) Fl.CAN_RXSEL_OBJ)).frm = some f :=
  ⟨(base.wf (Addr.CAN_RXSEL 0) Fl.CAN_RXSEL_OBJ 3).modCan 0 (fun c => { c with rx := [(3, { CRx.init with frm := some (frame 0x123 false [1]), new := true })] }), 0, wRx, frame 0x123 false [1], by simp only [State.awake]; decide +kernel⟩
theorem witness_CanSoftwareAccess_3 : ∃ s : State, ∃ x : Nat, ∃ k : Nat, x < 2 ∧ s.awake ∧ k < 128 :=
  ⟨base, 1, 127, by simp only [State.awake]; decide +kernel⟩
theorem witness_CanSoftwareAccess_4 : ∃ s : State, ∃ x : Nat, ∃ cyc : Nat, ∃ t0 : Nat, x < 2 ∧ s.awake ∧ (s.canS x).lock = some t0 ∧ t0 + 200000 ≤ s.ecyc + cyc :=
  ⟨base.modCan 1 (fun c => { c with lock := some 0 }), 1, 200000, 0, by simp only [State.awake]; decide +kernel⟩
theorem witness_CanSoftwareAccess_5 : ∃ s : State, ∃ x : Nat, x < 2 ∧ s.awake :=
  ⟨base, 1, by simp only [State.awake]; decide +kernel⟩
theorem witness_CanServicesAct_1_1 : ∃ s : State, ∃ x : Nat, ∃ cyc : Nat, ∃ i0 : Nat, ∃ i1 : Nat, ∃ sub : Nat, ∃ d : List Nat, ∃ t0 : State, s.awake ∧ s.canPart x = true ∧ i0 < 256 ∧ i1 < 256 ∧ sub < 256 ∧ 1 ≤ d.length ∧ d.length ≤ 4 ∧ ((s.at cyc).sdoClose x).objRead (i0 + 256 * i1) sub = (0, d, t0) :=
  ⟨(base.wf (Addr.CAN_STAT 0) Fl.CAN_STAT_ACTIVE 1), 0, 9, 0, 16, 0, ((((base.wf (Addr.CAN_STAT 0) Fl.CAN_STAT_ACTIVE 1).at 9).sdoClose 0).objRead 0x1000 0).2.1, ((((base.wf (Addr.CAN_STAT 0) Fl.CAN_STAT_ACTIVE 1).at 9).sdoClose 0).objRead 0x1000 0).2.2, by simp only [State.awake]; decide +kernel⟩
theorem witness_CanServicesAct_1_2_1 : ∃ s : State, ∃ x : Nat, ∃ cyc : Nat, ∃ i0 : Nat, ∃ i1 : Nat, ∃ sub : Nat, ∃ c : Nat, ∃ dat : List Nat, ∃ w : Bool, ∃ t0 : State, s.awake ∧ s.canPart x = true ∧ i0 < 256 ∧ i1 < 256 ∧ sub < 256 ∧ dat.length = 4 ∧ (∀ b ∈ dat, b < 256) ∧ ((s.at cyc).sdoClose x).objWrite (i0 + 256 * i1) sub dat (3 + x) (((s.at cyc).sdoClose x).sdoS x).next = (c, w, t0) ∧ c ≠ 0 :=
  ⟨(base.wf (Addr.CAN_STAT 0) Fl.CAN_STAT_ACTIVE 1), 0, 9, 0, 16, 0, ((((base.wf (Addr.CAN_STAT 0) Fl.CAN_STAT_ACTIVE 1).at 9).sdoClose 0).objWrite 0x1000 0 [1, 0, 0, 0] 3 ((((base.wf (Addr.CAN_STAT 0) Fl.CAN_STAT_ACTIVE 1).at 9).sdoClose 0).sdoS 0).next).1, [1, 0, 0, 0], ((((base.wf (Addr.CAN_STAT 0) Fl.CAN_STAT_ACTIVE 1).at 9).sdoClose 0).objWrite 0x1000 0 [1, 0, 0, 0] 3 ((((base.wf (Addr.CAN_STAT 0) Fl.CAN_STAT_ACTIVE 1).at 9).sdoClose 0).sdoS 0).next).2.1, ((((base.wf (Addr.CAN_STAT 0) Fl.CAN_STAT_ACTIVE 1).at 9).sdoClose 0).objWrite 0x1000 0 [1, 0, 0, 0] 3 ((((base.wf (Addr.CAN_STAT 0) Fl.CAN_STAT_ACTIVE 1).at 9).sdoClose 0).sdoS 0).next).2.2, by simp only [State.awake]; decide +kernel⟩
theorem witness_CanServicesAct_1_2_2 : ∃ s : State, ∃ x : Nat, ∃ cyc : Nat, ∃ i0 : Nat, ∃ i1 : Nat, ∃ sub : Nat, ∃ c : Nat, ∃ dat : List Nat, ∃ w : Bool, ∃ t0 : State, s.awake ∧ s.canPart x = true ∧ i0 < 256 ∧ i1 < 256 ∧ sub < 256 ∧ dat.length = 4 ∧ (∀ b ∈ dat, b < 256) ∧ ((s.at cyc).sdoClose x).objWrite (i0 + 256 * i1) sub dat (3 + x) (((s.at cyc).sdoClose x).sdoS x).next = (c, w, t0) ∧ c = 0 ∧ w = true :=
  ⟨(base.wf (Addr.CAN_STAT 0) Fl.CAN_STAT_ACTIVE 1), 0, 9, 0x12, 0x31, 2, 0, [1, 0, 0, 0], true, ((((base.wf (Addr.CAN_STAT 0) Fl.CAN_STAT_ACTIVE 1).at 9).sdoClose 0).objWrite 0x3112 2 [1, 0, 0, 0] 3 ((((base.wf (Addr.CAN_STAT 0) Fl.CAN_STAT_ACTIVE 1).at 9).sdoClose 0).sdoS 0).next).2.2, by simp only [State.awake]; decide +kernel⟩
theorem witness_CanServicesAct_1_3 : ∃ s : State, ∃ x : Nat, ∃ cyc : Nat, ∃ bs : List Nat, s.awake ∧ s.canPart x = true ∧ (s.sdoS x).tr = none :=
  ⟨(base.wf (Addr.CAN_STAT 0) Fl.CAN_STAT_ACTIVE 1), 0, 9, [0, 0, 0, 0, 0, 0, 0, 0], by simp only [State.awake]; decide +kernel⟩
theorem witness_CanServicesAct_1_4 : ∃ s : State, ∃ x : Nat, ∃ cyc : Nat, ∃ bs : List Nat, ∃ tr : SdoTr, s.awake ∧ s.canPart x = true ∧ (s.sdoS x).tr = some tr ∧ tr.up = true ∧ tr.tog < 2 ∧ bs.getD 0 0 = 0x60 + 16 * tr.tog :=
  ⟨(base.wf (Addr.CAN_STAT 0) Fl.CAN_STAT_ACTIVE 1).modSdo 0 (fun d => { d with tr := some ⟨true, 0x2001, 1, false, [1, 2, 3, 4, 5, 6, 7, 8], 8, 1, 0⟩ }), 0, 9, [0x70], ⟨true, 0x2001, 1, false, [1, 2, 3, 4, 5, 6, 7, 8], 8, 1, 0⟩, by simp only [State.awake]; decide +kernel⟩
theorem witness_CanServicesAct_1_5 : ∃ s : State, ∃ x : Nat, ∃ cyc : Nat, ∃ tr : SdoTr, s.awake ∧ x < 2 ∧ (s.sdoS x).tr = some tr ∧ tr.time + 200000000 ≤ s.ecyc + cyc :=
  ⟨base.modSdo 1 (fun d => { d with tr := some ⟨true, 0x2001, 1, false, [], 0, 0, 0⟩ }), 1, 200000000, ⟨true, 0x2001, 1, false, [], 0, 0, 0⟩, by simp only [State.awake]; decide +kernel⟩
theorem witness_CanServicesAct_2_1_1 : ∃ s : State, ∃ node : Nat, s.awake ∧ s.canPart 0 = true ∧ (node = 0 ∨ node = s.cia.nodeA) ∧ s.flag Addr.SCH_BANK Fl.SCH_BANK_SWPEND = false ∧ s.stgFree ≠ 0 ∧ bitOf s.cia.nmt 0 = true ∧ (s.mode = .READY ∨ s.mode = .HOLD) :=
  ⟨((baseIn .READY).wf (Addr.CAN_STAT 0) Fl.CAN_STAT_ACTIVE 1).modCia (fun c => { c with nmt := 1 }), 0, by simp only [State.awake]; decide +kernel⟩
theorem witness_CanServicesAct_2_1_2_1 : ∃ s : State, ∃ node : Nat, s.awake ∧ s.canPart 0 = true ∧ (node = 0 ∨ node = s.cia.nodeA) ∧ s.flag Addr.SCH_BANK Fl.SCH_BANK_SWPEND = false ∧ s.stgFree ≠ 0 ∧ bitOf s.cia.nmt 1 = true ∧ s.mode = .RUN :=
  ⟨((baseIn .RUN).wf (Addr.CAN_STAT 0) Fl.CAN_STAT_ACTIVE 1).modCia (fun c => { c with nmt := 2 }), 1, by simp only [State.awake]; decide +kernel⟩
theorem witness_CanServicesAct_2_1_3 : ∃ s : State, ∃ node : Nat, s.awake ∧ s.canPart 0 = true ∧ (node = 0 ∨ node = s.cia.nodeA) ∧ s.flag Addr.SCH_BANK Fl.SCH_BANK_SWPEND = false ∧ s.stgFree ≠ 0 ∧ bitOf s.cia.nmt 2 = true ∧ s.mode ≠ .RUN :=
  ⟨((baseIn .HOLD).wf (Addr.CAN_STAT 0) Fl.CAN_STAT_ACTIVE 1).modCia (fun c => { c with nmt := 4 }), 1, by simp only [State.awake]; decide +kernel⟩
theorem witness_CanServicesAct_2_1_4 : ∃ s : State, ∃ node : Nat, s.awake ∧ s.canPart 0 = true ∧ (node = 0 ∨ node = s.cia.nodeA) ∧ s.flag Addr.SCH_BANK Fl.SCH_BANK_SWPEND = false ∧ s.stgFree ≠ 0 ∧ bitOf s.cia.nmt 3 = true ∧ s.mode ≠ .RUN :=
  ⟨((baseIn .HOLD).wf (Addr.CAN_STAT 0) Fl.CAN_STAT_ACTIVE 1).modCia (fun c => { c with nmt := 8 }), 0, by simp only [State.awake]; decide +kernel⟩
theorem witness_CanServicesAct_2_2 : ∃ s : State, ∃ node : Nat, ∃ c : Instr, node ≠ 0 ∧ node ≠ s.cia.nodeA ∧ (c = .startRemoteNode node ∨ c = .stopRemoteNode node ∨ c = .enterPreOperational node ∨ c = .resetNode node ∨ c = .resetCommunication node) :=
  ⟨base, 127, .resetNode 127, by decide +kernel⟩
theorem witness_CanServicesAct_2_3_1 : ∃ s : State, ∃ cyc : Nat, s.nmtTalks = true ∧ s.cia.boot = true :=
  ⟨(base.wf (Addr.CAN_STAT 0) Fl.CAN_STAT_ACTIVE 1), 9, by decide +kernel⟩
theorem witness_CanServicesAct_2_3_2 : ∃ s : State, ∃ cyc : Nat, ∃ t0, s.nmtTalks = true ∧ s.cia.hb = some t0 ∧ s.cia.hbt ≠ 0 ∧ t0 + s.cia.hbt * 200000 ≤ s.ecyc + cyc :=
  ⟨(base.wf (Addr.CAN_STAT 0) Fl.CAN_STAT_ACTIVE 1).modCia (fun c => { c with hb := some 0, hbt := 1 }), 200000, 0, by decide +kernel⟩
theorem witness_CanServicesAct_2_3_3 : ∃ s : State, ∃ cyc : Nat, ∃ e : Emcy, ∃ q : List Emcy, s.nmtTalks = true ∧ s.cia.emq = e :: q ∧ s.cia.emT = none :=
  ⟨(base.wf (Addr.CAN_STAT 0) Fl.CAN_STAT_ACTIVE 1).modCia (fun c => { c with emq := [⟨0x1000, 0x43, 1, 2, 5, 1⟩] }), 9, ⟨0x1000, 0x43, 1, 2, 5, 1⟩, [], by decide +kernel⟩
theorem witness_HostRequests_1_1 : ∃ s : State, ∃ r : HReq, s.freshReq r ∧ r.body = [] :=
  ⟨base, hreq [], by simp only [State.freshReq, State.awake]; decide +kernel⟩
theorem witness_HostRequests_1_2 : ∃ s : State, ∃ r : HReq, ∃ i0 : Nat, ∃ i1 : Nat, ∃ sub : Nat, ∃ d : List Nat, s.freshReq r ∧ r.body = [i0, i1, sub, 0] ∧ d.length ≤ 1020 ∧ (let u := (s.at r.cyc).modHlk (fun h => { h with held := h.held ++ [⟨r.tag, reqCrc 0x10 r, 0x10, none⟩] }); u.objRead (ofLE [i0, i1]) (ofLE [sub]) = (0, d, u)) :=
  ⟨base, hreq [0x00, 0x10, 0, 0], 0, 16, 0, (base.objRead 0x1000 0).2.1, by simp only [State.freshReq, State.awake]; decide +kernel⟩
theorem witness_HostRequests_1_3 : ∃ s : State, ∃ r : HReq, ∃ a : Nat, s.freshReq r ∧ r.body = leBytes 4 a ++ [1, 0] ∧ inMem a = true ∧ a % 4 = 0 ∧ s.pwr.memInit = false :=
  ⟨base.modPwr (fun p => { p with memInit := false }), hreq (leBytes 4 0x2007FFFC ++ [1, 0]), 0x2007FFFC, by simp only [State.freshReq, State.awake]; decide +kernel⟩
theorem witness_HostRequests_1_4 : ∃ s : State, ∃ r : HReq, ∃ n : Nat, ∃ k : Nat, s.freshReq r ∧ r.body = leBytes 4 n ++ [k, 0, 0, 0] ∧ n < 2 ^ 32 ∧ 1 ≤ k ∧ k ≤ 31 :=
  ⟨base.modRec (fun r => { r with ring := [⟨rec0, false, false⟩] }), hreq (leBytes 4 0 ++ [31, 0, 0, 0]), 0, 31, by simp only [State.freshReq, State.awake]; decide +kernel⟩
theorem witness_HostRequests_2_1 : ∃ s : State, ∃ r : HReq, ∃ a : Nat, ∃ v : Word, s.freshReq r ∧ r.body = leBytes 4 a ++ [1, 0, 0, 0] ++ leBytes 4 v.toNat ∧ a < 2 ^ 32 ∧ a ≠ Addr.STP_CALLQ ∧ s.writeErr a v = 0 ∧ stagedReg a = true ∧ s.stgFree ≠ 0 :=
  ⟨base, hreq (leBytes 4 (Addr.AX_TGT 5) ++ [1, 0, 0, 0] ++ leBytes 4 9), Addr.AX_TGT 5, 9, by simp only [State.freshReq, State.awake]; decide +kernel⟩
theorem witness_HostRequests_2_2 : ∃ s : State, ∃ r : HReq, ∃ len : Nat, s.freshReq r ∧ r.body = [1, 0, 0, 0] ++ leBytes 4 len ∧ s.hlk.bulk = none ∧ s.bankBusy = false ∧ len % 4 = 0 ∧ 0x84 ≤ len ∧ len ≤ 262144 :=
  ⟨base, hreq ([1, 0, 0, 0] ++ leBytes 4 262144), 262144, by simp only [State.freshReq, State.awake]; decide +kernel⟩
theorem witness_HostRequests_2_3_1 : ∃ s : State, ∃ r : HReq, ∃ len : Nat, ∃ t0 : Nat, ∃ ofs : Nat, ∃ d : List Nat, s.freshReq r ∧ r.body = leBytes 4 ofs ++ d ∧ ofs < 2 ^ 32 ∧ (∀ b ∈ d, b < 256) ∧ s.hlk.bulk = some (len, t0) ∧ s.bankBusy = false ∧ s.storeReads = false ∧ ofs % 4 = 0 ∧ d.length % 4 = 0 ∧ ofs + d.length ≤ len ∧ len ≤ 262144 :=
  ⟨base.modHlk (fun h => { h with bulk := some (136, 0) }), hreq (leBytes 4 132 ++ [1, 2, 3, 255]), 136, 0, 132, [1, 2, 3, 255], by simp only [State.freshReq, State.awake]; decide +kernel⟩
theorem witness_HostRequests_2_3_2 : ∃ s : State, ∃ r : HReq, ∃ len : Nat, ∃ t0 : Nat, ∃ ofs : Nat, ∃ d : List Nat, s.freshReq r ∧ r.body = leBytes 4 ofs ++ d ∧ ofs < 2 ^ 32 ∧ (∀ b ∈ d, b < 256) ∧ s.hlk.bulk = some (len, t0) ∧ s.bankBusy = false ∧ s.storeReads = false ∧ len < ofs + d.length :=
  ⟨base.modHlk (fun h => { h with bulk := some (136, 0) }), hreq (leBytes 4 136 ++ [1, 2, 3, 255]), 136, 0, 136, [1, 2, 3, 255], by simp only [State.freshReq, State.awake]; decide +kernel⟩
theorem witness_HostRequests_2_4 : ∃ s : State, ∃ r : HReq, ∃ len : Nat, ∃ t0 : Nat, s.freshReq r ∧ r.body = [] ∧ s.hlk.bulk = some (len, t0) ∧ s.bankBusy = false :=
  ⟨base.modHlk (fun h => { h with bulk := some (132, 0) }), hreq [], 132, 0, by simp only [State.freshReq, State.awake]; decide +kernel⟩
theorem witness_HostRequests_2_5 : ∃ s : State, ∃ r : HReq, ∃ i0 : Nat, ∃ i1 : Nat, ∃ sub : Nat, ∃ b0 : Nat, ∃ d : List Nat, ∃ e : OEnt, s.freshReq r ∧ r.body = [i0, i1, sub, 0] ++ (b0 :: d) ∧ i0 < 256 ∧ i1 < 256 ∧ sub < 256 ∧ d.length < 1020 ∧ (let u := (s.at r.cyc).modHlk (fun h => { h with held := h.held ++ [⟨r.tag, reqCrc 0x11 r, 0x11, none⟩] }); u.objFind (i0 + 256 * i1) sub = .ok e ∧ u.entErr e ((b0 :: d).map (· % 256)) = 0) ∧ e.cls ≠ .ro ∧ e.cls ≠ .const ∧ e.staged = true ∧ e.callq = false ∧ s.stgFree ≠ 0 :=
  ⟨base, hreq [0x12, 0x35, 2, 0, 9, 0, 0, 0], 0x12, 0x35, 2, 9, [0, 0, 0], ⟨tI32, .rwf, 0, .reg (Addr.AX_TGT 5)⟩, by simp only [State.freshReq, State.awake]; decide +kernel,
    by decide, by decide, by decide, by decide, by decide, ⟨ok_of (by decide +kernel), by decide +kernel⟩, by decide, by decide, by decide +kernel, by decide +kernel, by decide +kernel⟩
theorem witness_HostRequests_2_6 : ∃ s : State, ∃ r : HReq, ∃ i0 : Nat, ∃ i1 : Nat, ∃ sub : Nat, ∃ b0 : Nat, ∃ c : Nat, ∃ d : List Nat, ∃ w : Bool, s.freshReq r ∧ r.body = [i0, i1, sub, 0] ++ (b0 :: d) ∧ i0 < 256 ∧ i1 < 256 ∧ sub < 256 ∧ d.length < 1020 ∧ c ≠ 0 ∧ (let u := (s.at r.cyc).modHlk (fun h => { h with held := h.held ++ [⟨r.tag, reqCrc 0x11 r, 0x11, none⟩] }); u.objWrite (i0 + 256 * i1) sub ((b0 :: d).map (· % 256)) 1 r.tag = (c, w, u)) :=
  ⟨base, hreq [0x00, 0x10, 0, 0, 1], 0, 16, 0, 1, (((base.at 100).modHlk (fun h => { h with held := h.held ++ [⟨7, reqCrc 0x11 (hreq [0x00, 0x10, 0, 0, 1]), 0x11, none⟩] })).objWrite 0x1000 0 [1] 1 7).1, [], (((base.at 100).modHlk (fun h => { h with held := h.held ++ [⟨7, reqCrc 0x11 (hreq [0x00, 0x10, 0, 0, 1]), 0x11, none⟩] })).objWrite 0x1000 0 [1] 1 7).2.1, by simp only [State.freshReq, State.awake]; decide +kernel⟩
theorem witness_HostLinkRules_1 : ∃ s : State, ∃ r : HReq, ∃ h : HRes, s.awake ∧ (s.at r.cyc).unheard 0 = false ∧ s.hlk.due = none ∧ r.body = [] ∧ r.addr = s.id.addr ∧ s.hlk.held.find? (fun h => h.tag == r.tag) = some h ∧ h.crc = reqCrc 0x02 r :=
  ⟨base.modHlk (fun h => { h with held := [⟨7, reqCrc 0x02 (hreq []), 2, none⟩] }), hreq [], ⟨7, reqCrc 0x02 (hreq []), 2, none⟩, by simp only [State.awake]; decide +kernel⟩
theorem witness_HostLinkRules_2_1 : ∃ s : State, ∃ r : HReq, ∃ k : Nat, ∃ b1 : Nat, ∃ b2 : Nat, ∃ b3 : Nat, s.awake ∧ (s.at r.cyc).unheard 4 = false ∧ s.hlk.due = none ∧ r.addr = s.id.addr ∧ r.body = [k, b1, b2, b3] ∧ k < 256 ∧ s.hlk.held.find? (fun h => h.tag == k) = none :=
  ⟨base, hreq [255, 0, 0, 0], 255, 0, 0, 0, by simp only [State.awake]; decide +kernel⟩
theorem witness_HostLinkRules_2_2 : ∃ s : State, ∃ r : HReq, ∃ k : Nat, ∃ b1 : Nat, ∃ b2 : Nat, ∃ b3 : Nat, ∃ h, s.awake ∧ (s.at r.cyc).unheard 4 = false ∧ s.hlk.due = none ∧ r.addr = s.id.addr ∧ r.body = [k, b1, b2, b3] ∧ k < 256 ∧ s.hlk.held.find? (fun h => h.tag == k) = some h :=
  ⟨base.modHlk (fun h => { h with held := [⟨7, reqCrc 0x02 (hreq []), 2, none⟩] }), hreq [7, 0, 0, 0], 7, 0, 0, 0, ⟨7, reqCrc 0x02 (hreq []), 2, none⟩, by simp only [State.awake]; decide +kernel⟩
theorem witness_HostLinkRules_3 : ∃ s : State, ∃ r : HReq, s.awake ∧ (s.at r.cyc).unheard r.body.length = false ∧ s.hlk.due = none ∧ r.addr = s.id.addr ∧ r.body.length ≤ 1032 ∧ r.body.length ≠ 4 :=
  ⟨base, hreq [], by simp only [State.awake]; decide +kernel⟩
theorem witness_HostLinkRules_4_1 : ∃ s : State, ∃ c : Instr, ∃ r : HReq, (c = .fetch r ∨ c = .ident r ∨ c = .objRead r ∨ c = .objWrite r ∨ c = .regRead r ∨ c = .regWrite r ∨ c = .bulkOpen r ∨ c = .bulkData r ∨ c = .bulkClose r ∨ c = .recRead r ∨ c = .epoch r) ∧ (s.at r.cyc).unheard r.body.length = true :=
  ⟨base.modHlk (fun h => { h with deT := 100 }), .epoch (hreq []), hreq [], by decide +kernel⟩
theorem witness_HostLinkRules_4_2 : ∃ s : State, ∃ c : Instr, ∃ r : HReq, (c = .fetch r ∨ c = .ident r ∨ c = .objRead r ∨ c = .objWrite r ∨ c = .regRead r ∨ c = .regWrite r ∨ c = .bulkOpen r ∨ c = .bulkData r ∨ c = .bulkClose r ∨ c = .recRead r ∨ c = .epoch r) ∧ r.addr ≠ s.id.addr ∧ r.addr ≠ 0xFF ∧ r.body.length ≤ 1032 ∧ s.hlk.due = none :=
  ⟨base, .ident { (hreq []) with addr := 9 }, { (hreq []) with addr := 9 }, by decide +kernel⟩
theorem witness_HostLinkEvents_1_1 : ∃ s : State, ∃ cyc : Nat, ∃ d : HDue, s.awake ∧ s.hlk.due = some d ∧ d.time + 400 + d.ext * 8 ≤ s.ecyc + cyc ∧ s.ecyc + cyc ≤ d.time + 800 + d.ext * 8 ∧ (let u := s.at cyc
   (let p := d.payload (u.dueBody d)
   u.fits d p.length = true)) :=
  ⟨base.modHlk (fun h => { h with due := some ⟨2, 7, false, 2, 7, some (.ok []), 0, false, 0⟩ }), 800, ⟨2, 7, false, 2, 7, some (.ok []), 0, false, 0⟩, by simp only [State.awake]; decide +kernel⟩
theorem witness_HostLinkEvents_1_2 : ∃ s : State, ∃ cyc : Nat, ∃ d : HDue, s.awake ∧ s.hlk.due = some d ∧ d.time + 400 + d.ext * 8 ≤ s.ecyc + cyc ∧ s.ecyc + cyc ≤ d.time + 800 + d.ext * 8 ∧ (let u := s.at cyc
   (let p := d.payload (u.dueBody d)
   u.fits d p.length = false ∧ u.fits d 4 = true)) :=
  ⟨((base.wr Addr.HLK_SLOT 0x00040010)).modHlk (fun h => { h with ep := some 0, due := some ⟨2, 7, false, 2, 7, some (.ok (List.replicate 30 0)), 0, false, 0⟩ }), 400, ⟨2, 7, false, 2, 7, some (.ok (List.replicate 30 0)), 0, false, 0⟩, by simp only [State.awake]; decide +kernel⟩
theorem witness_HostLinkEvents_1_3 : ∃ s : State, ∃ cyc : Nat, ∃ d : HDue, s.awake ∧ s.hlk.due = some d ∧ d.time + 400 + d.ext * 8 ≤ s.ecyc + cyc ∧ s.ecyc + cyc ≤ d.time + 800 + d.ext * 8 ∧ (let u := s.at cyc
   (let p := d.payload (u.dueBody d)
   u.fits d p.length = false ∧ u.fits d 4 = false)) :=
  ⟨((base.wr Addr.HLK_SLOT 0x00040010)).modHlk (fun h => { h with ep := some 0, due := some ⟨2, 7, false, 2, 7, some (.ok []), 2600, false, 0⟩ }), 3100, ⟨2, 7, false, 2, 7, some (.ok []), 2600, false, 0⟩, by simp only [State.awake]; decide +kernel⟩
theorem witness_HostLinkEvents_2 : ∃ s : State, ∃ cyc : Nat, ∃ d : HDue, ∃ e : HBody, s.awake ∧ s.hlk.due = some d ∧ d.body = some e ∧ d.wait = false ∧ s.hlk.ep = none ∧ d.time + 400 + d.ext * 8 ≤ s.ecyc + cyc ∧ s.ecyc + cyc ≤ d.time + 800 + d.ext * 8 :=
  ⟨base.modHlk (fun h => { h with due := some ⟨2, 7, false, 2, 7, some (.ok []), 0, false, 0⟩ }), 400, ⟨2, 7, false, 2, 7, some (.ok []), 0, false, 0⟩, .ok [], by simp only [State.awake]; decide +kernel⟩
theorem witness_HostLinkEvents_3_1 : ∃ s : State, ∃ cyc : Nat, ∃ d : HDue, s.awake ∧ s.hlk.due = some d :=
  ⟨base.modHlk (fun h => { h with due := some ⟨2, 7, false, 2, 7, some (.ok []), 0, false, 0⟩ }), 100, ⟨2, 7, false, 2, 7, some (.ok []), 0, false, 0⟩, by simp only [State.awake]; decide +kernel⟩
theorem witness_HostLinkEvents_3_2 : ∃ s : State, ∃ cyc : Nat, ∃ d : HDue, s.awake ∧ s.hlk.due = some d ∧ (s.ecyc + cyc < d.time + 400 + d.ext * 8 ∨ d.time + 800 + d.ext * 8 < s.ecyc + cyc) :=
  ⟨base.modHlk (fun h => { h with due := some ⟨2, 7, false, 2, 7, some (.ok []), 0, false, 0⟩ }), 801, ⟨2, 7, false, 2, 7, some (.ok []), 0, false, 0⟩, by simp only [State.awake]; decide +kernel⟩
theorem witness_HostLinkEvents_4_1 : ∃ s : State, ∃ r : HReq, ∃ ep : Nat, ∃ len : Nat, ∃ n : Nat, ∃ f : Nat, ∃ w : Nat, s.awake ∧ (s.at r.cyc).unheard 16 = false ∧ s.hlk.due = none ∧ (r.addr = s.id.addr ∨ r.addr = 0xFF) ∧ ep < 2 ^ 32 ∧ f < 2 ∧ w < 2 ^ 48 ∧ r.body = leBytes 4 ep ++ leBytes 2 len ++ leBytes 2 n ++ [f, 0] ++ leBytes 6 w ∧ 16 ≤ len ∧ len ≤ 10000 ∧ 1 ≤ n ∧ n ≤ 1024 :=
  ⟨base, { (hreq (leBytes 4 1 ++ leBytes 2 16 ++ leBytes 2 1024 ++ [1, 0] ++ leBytes 6 77)) with addr := 0xFF }, 1, 16, 1024, 1, 77, by simp only [State.awake]; decide +kernel⟩
theorem witness_HostLinkEvents_4_2 : ∃ s : State, ∃ r : HReq, ∃ ep : Nat, ∃ len : Nat, ∃ n : Nat, ∃ f : Nat, ∃ w : Nat, s.awake ∧ (s.at r.cyc).unheard 16 = false ∧ s.hlk.due = none ∧ (r.addr = s.id.addr ∨ r.addr = 0xFF) ∧ ep < 2 ^ 32 ∧ f < 2 ∧ w < 2 ^ 48 ∧ r.body = leBytes 4 ep ++ leBytes 2 len ++ leBytes 2 n ++ [f, 0] ++ leBytes 6 w ∧ (len < 16 ∨ n = 0) ∧ len < 65536 ∧ n < 65536 :=
  ⟨base, { (hreq (leBytes 4 1 ++ leBytes 2 15 ++ leBytes 2 1024 ++ [0, 0] ++ leBytes 6 0)) with addr := 0xFF }, 1, 15, 1024, 0, 0, by simp only [State.awake]; decide +kernel⟩
theorem witness_HostLinkEvents_5_1 : ∃ s : State, ∃ cyc : Nat, ∃ t0 : Nat, s.awake ∧ s.hlk.ep = some t0 ∧ t0 + 4 * s.slotLen * s.slotN ≤ s.ecyc + cyc :=
  ⟨base.modHlk (fun h => { h with ep := some 0 }), 10 ^ 12, 0, by simp only [State.awake]; decide +kernel⟩
theorem witness_HostLinkEvents_5_2 : ∃ s : State, ∃ cyc : Nat, ∃ t0 : Nat, s.awake ∧ s.hlk.ep = some t0 ∧ s.ecyc + cyc < t0 + 4 * s.slotLen * s.slotN :=
  ⟨(base.wr Addr.HLK_SLOT 0x00040010).modHlk (fun h => { h with ep := some 0 }), 51199, 0, by simp only [State.awake]; decide +kernel⟩
theorem witness_HostLinkEvents_6_1 : ∃ s : State, ∃ cyc : Nat, ∃ len : Nat, ∃ t0 : Nat, s.awake ∧ s.hlk.bulk = some (len, t0) ∧ t0 + 2000000000 ≤ s.ecyc + cyc :=
  ⟨base.modHlk (fun h => { h with bulk := some (132, 0) }), 2000000000, 132, 0, by simp only [State.awake]; decide +kernel⟩
theorem witness_HostLinkEvents_6_2 : ∃ s : State, ∃ cyc : Nat, ∃ len : Nat, ∃ t0 : Nat, s.awake ∧ s.hlk.bulk = some (len, t0) ∧ s.ecyc + cyc < t0 + 2000000000 :=
  ⟨base.modHlk (fun h => { h with bulk := some (132, 0) }), 1999999999, 132, 0, by simp only [State.awake]; decide +kernel⟩
theorem witness_HostLinkEvents_7_1 : ∃ s : State, ∃ e : HErr, s.awake ∧ s.hlk.due = none ∧ e = .crc :=
  ⟨base, .crc, by simp only [State.awake]; decide +kernel⟩
theorem witness_HostLinkEvents_7_2 : ∃ s : State, ∃ e : HErr, s.awake ∧ s.hlk.due = none ∧ (e = .framing ∨ e = .gap ∨ e = .length) :=
  ⟨base, .gap, by simp only [State.awake]; decide +kernel⟩
theorem witness_HostLinkEvents_8 : ∃ s : State, ∃ ty : Nat, ∃ r : HReq, s.freshReq r ∧ ty ∉ [0x01, 0x02, 0x10, 0x11, 0x20, 0x21, 0x30, 0x31, 0x32, 0x33, 0x40] :=
  ⟨base, 85, hreq [], by simp only [State.freshReq, State.awake]; decide +kernel⟩
theorem witness_PairLinkActs_1_1 : ∃ s : State, ∃ b : Beacon, ∃ cyc : Nat, s.awake ∧ s.beaconNew b = true ∧ b.claim < 16 :=
  ⟨base.wf Addr.PAIR_STAT Fl.PAIR_STAT_ROLE 1, ⟨15, 5, 4, true, true, true, 8, 0⟩, 9, by simp only [State.awake]; decide +kernel⟩
theorem witness_PairLinkActs_1_2 : ∃ s : State, ∃ i : PImg, ∃ cyc : Nat, s.awake ∧ s.role = 2 :=
  ⟨(base.wf Addr.PAIR_STAT Fl.PAIR_STAT_ROLE 2), ⟨false, 36, 0, 0, 0, 0, [], [], [], []⟩, 9, by simp only [State.awake]; decide +kernel⟩
theorem witness_PairLinkActs_1_3 : ∃ s : State, ∃ ws : List Word, ∃ cyc : Nat, s.awake ∧ s.pairRole = 2 :=
  ⟨base, [1, 2], 9, by simp only [State.awake]; decide +kernel⟩
theorem witness_PairLinkActs_1_4 : ∃ s : State, ∃ f : Nat, ∃ n : Nat, ∃ cyc : Nat, s.awake ∧ s.role = 2 :=
  ⟨(base.wf Addr.PAIR_STAT Fl.PAIR_STAT_ROLE 2), 8, 1, 9, by simp only [State.awake]; decide +kernel⟩
theorem witness_PairLinkActs_1_5 : ∃ s : State, ∃ e : PktEnds, ∃ cyc : Nat, ∃ c : Instr, s.awake ∧ ((∃ b, c = .beaconReceived e b cyc ∧ e.crcOk b.words = false) ∨ (∃ i, c = .imageReceived e i cyc ∧ e.crcOk i.words = false) ∨ (∃ f n, c = .markerReceived e f n cyc ∧ e.crcOk (markerWords f n) = false)) :=
  ⟨base, ⟨0, 0⟩, 9, .beaconReceived ⟨0, 0⟩ ⟨15, 5, 4, true, true, true, 8, 0⟩ 9, by simp only [State.awake]; decide +kernel, .inl ⟨_, rfl, by decide +kernel⟩⟩
theorem witness_PairLinkActs_1_6 : ∃ s : State, s.awake ∧ s.linkSilent = true :=
  ⟨base.modPair (fun p => { p with bmiss := 255 }), by simp only [State.awake]; decide +kernel⟩
theorem witness_PairLinkActs_2_1 : ∃ s : State, ∃ c : Nat, ∃ cyc : Nat, c < 16 :=
  ⟨base, 15, 9, by decide +kernel⟩
theorem witness_PairLinkActs_2_2 : ∃ s : State, ∃ w : Nat, ∃ cyc : Nat, ¬ (w / 4096 % 16 = 0b1010 ∧ w % 16 = 0b0101 ∧ w / 256 % 16 + w / 16 % 16 = 15) :=
  ⟨base, 0, 9, by decide +kernel⟩
theorem witness_PairLinkActs_2_3 : ∃ s : State, ∃ cyc : Nat, s.fio.peerT + 2400 ≤ s.ecyc + cyc :=
  ⟨base, 2400, by decide +kernel⟩
theorem witness_PairLinkActs_2_4 : ∃ s : State, ∃ cyc : Nat, s.pair.drop ≠ 0 ∧ s.fio.allow = false ∧ s.fio.gapT + s.rf Addr.PAIR_CFG Fl.PAIR_CFG_GAPH * s.fio.per ≤ s.ecyc + cyc :=
  ⟨(base.modFio (fun f => { f with allow := false })).modPair (fun p => { p with drop := 4 }), 10 ^ 9, by decide +kernel⟩
theorem witness_PairRolesChange_1 : ∃ s : State, s.awake ∧ s.cyc = 0 ∧ s.role = 2 ∧ s.rf Addr.PAIR_STAT Fl.PAIR_STAT_PEERCL < s.rf Addr.PAIR_CLAIM Fl.PAIR_CLAIM_CLAIM ∧ s.rf Addr.PAIR_STAT Fl.PAIR_STAT_LINECL < s.rf Addr.PAIR_CLAIM Fl.PAIR_CLAIM_CLAIM :=
  ⟨(base.wf Addr.PAIR_STAT Fl.PAIR_STAT_ROLE 2).wf Addr.PAIR_CLAIM Fl.PAIR_CLAIM_CLAIM 3, by simp only [State.awake]; decide +kernel⟩
theorem witness_PairRolesChange_2 : ∃ s : State, ∃ cyc : Nat, s.awake ∧ s.role = 1 ∧ s.pst Fl.PAIR_STAT_SIDEERR = false ∧ s.pair.alone + 20000000 * s.rf Addr.PAIR_CFG Fl.PAIR_CFG_PALONE ≤ s.ecyc + cyc :=
  ⟨base.wf Addr.PAIR_STAT Fl.PAIR_STAT_ROLE 1, 20000000 * 255, by simp only [State.awake]; decide +kernel⟩
theorem witness_PairRolesChange_3 : ∃ s : State, s.awake ∧ 2 ≤ s.pair.discN :=
  ⟨base.modPair (fun p => { p with discN := 2 }), by simp only [State.awake]; decide +kernel⟩
theorem witness_PairRolesChange_4 : ∃ s : State, s.taking ∧ s.running = true ∧ s.role = 4 ∧ s.pair.drop = 0 ∧ s.pst Fl.PAIR_STAT_SIDEERR = false ∧ 2 ≤ s.rf Addr.PAIR_STAT Fl.PAIR_STAT_PEERCL :=
  ⟨(base.wf Addr.PAIR_STAT Fl.PAIR_STAT_ROLE 4).wf Addr.PAIR_STAT Fl.PAIR_STAT_PEERCL 2, by simp only [State.taking, State.awake]; decide +kernel⟩
theorem witness_PairRolesChange_5 : ∃ s : State, s.awake ∧ s.handOk = false :=
  ⟨base, by simp only [State.awake]; decide +kernel⟩
theorem witness_PairRolesChange_6 : ∃ s : State, s.awake ∧ s.flag Addr.SCH_BANK Fl.SCH_BANK_SWPEND = false :=
  ⟨base, by simp only [State.awake]; decide +kernel⟩
theorem witness_FaultsAct_1_1 : ∃ s : State, ∃ cyc : Nat, ∃ i : Nat, s.awake ∧ s.flt.hcls = 2 ∧ i < 2 ∧ bitOf s.flt.hSel i = true ∧ s.flt.hT + s.rf Addr.FLT_RCFG Fl.FLT_RCFG_SDLY * 2000000 ≤ s.ecyc + cyc :=
  ⟨base.modFlt (fun f => { f with hcls := 2, hSel := 2 }), 2000000 * 255, 1, by simp only [State.awake]; decide +kernel⟩
theorem witness_FaultsAct_1_2 : ∃ s : State, ∃ cyc : Nat, s.awake ∧ s.rests ∧ s.flt.hcls = 2 ∧ s.atStandstill = true :=
  ⟨base.modFlt (fun f => { f with hcls := 2 }), 9, by simp only [State.awake, State.rests]; decide +kernel⟩
theorem witness_FaultsAct_1_3 : ∃ s : State, ∃ cyc : Nat, s.awake ∧ s.rests ∧ s.flt.hcls = 3 ∧ (∀ i, i < 4 → (s.at cyc).chanSettled i = true) :=
  ⟨(base.modFlt (fun f => { f with hcls := 3 })).modFio (fun f => { f with a9 := 15 }), 9, by simp only [State.awake, State.rests]; decide +kernel⟩
theorem witness_FaultsAct_1_4 : ∃ s : State, s.awake ∧ s.rests :=
  ⟨base, by simp only [State.awake, State.rests]; decide +kernel⟩
theorem witness_FaultsAct_2_1 : ∃ s : State, ∃ k : Nat, ∃ e : GEnt, s.awake ∧ s.raised = [] ∧ k < 16 ∧ s.gEnt k = some e ∧ e.st = .holdoff ∧ e.hold = 0 ∧ e.buf = false :=
  ⟨(base.modFlt (fun f => { f with gtab := List.replicate 15 none ++ [some { gent with hold := 0 }] })), 15, { gent with hold := 0 }, by simp only [State.awake]; decide +kernel⟩
theorem witness_FaultsAct_2_2_1 : ∃ s : State, ∃ k : Nat, ∃ cyc : Nat, ∃ e : GEnt, s.awake ∧ s.rests ∧ k < 16 ∧ s.gEnt k = some e ∧ e.st ≠ .pending ∧ e.wend ≤ s.ecyc + cyc ∧ e.own ≤ 1 ∧ e.heard = 0 :=
  ⟨(base.modFlt (fun f => { f with gtab := List.replicate 15 none ++ [some { gent with own := 1 }] })), 15, 0, { gent with own := 1 }, by simp only [State.awake, State.rests]; decide +kernel⟩
theorem witness_FaultsAct_2_2_2 : ∃ s : State, ∃ k : Nat, ∃ cyc : Nat, ∃ e : GEnt, s.awake ∧ s.rests ∧ k < 16 ∧ s.gEnt k = some e ∧ e.st ≠ .pending ∧ e.wend ≤ s.ecyc + cyc ∧ 2 ≤ e.own ∧ s.rstat Fl.REC_STAT_READY = true ∧ s.rcd.unfl < 63 ∧ s.loft.volonly = false :=
  ⟨(base.modFlt (fun f => { f with gtab := List.replicate 15 none ++ [some { gent with own := 2 }] })).wf Addr.REC_STAT Fl.REC_STAT_READY 1, 15, 0, { gent with own := 2 }, by simp only [State.awake, State.rests]; decide +kernel⟩
theorem witness_FaultsAct_2_3 : ∃ s : State, ∃ k : Nat, ∃ cyc : Nat, ∃ e : GEnt, s.awake ∧ s.rests ∧ k < 16 ∧ s.gEnt k = some e ∧ e.st = .pending ∧ e.buf = false ∧ e.own ≤ 1 ∧ e.heard = 0 ∧ e.wend + s.gwin ≤ s.ecyc + cyc :=
  ⟨(base.modFlt (fun f => { f with gtab := List.replicate 15 none ++ [some { gent with st := .pending }] })), 15, 10 ^ 9, { gent with st := .pending }, by simp only [State.awake, State.rests]; decide +kernel⟩
theorem witness_FaultsAct_3 : ∃ s : State, ∃ r : Nat, ∃ high : Bool, s.pwr.inReset = false ∧ s.rests ∧ r < 3 ∧ s.flag Addr.PWR_SUP ⟨r, 1⟩ = true ∧ s.flag Addr.FLT_STAT Fl.FLT_STAT_FVALID = false ∧ s.flt.act.length < 16 :=
  ⟨base.wf Addr.PWR_SUP ⟨2, 1⟩ 1, 2, true, by simp only [State.rests]; decide +kernel⟩
theorem witness_DropLastsUntilReset : ∃ c : Instr, ∃ s : State, s.pair.drop ≠ 0 ∧ s.pair.drop < 16 :=
  ⟨.release, base.modPair (fun p => { p with drop := 15 }), by decide +kernel⟩
theorem witness_CrcPresetsLoad_1 : ∃ s : State, ∃ v : Word, s.awake ∧ s.crcRun = false ∧ getF v Fl.CRC_CFG_PRESET = 1 :=
  ⟨base, setF 0 Fl.CRC_CFG_PRESET 1, by simp only [State.awake]; decide +kernel⟩
theorem witness_CrcPresetsLoad_2 : ∃ s : State, ∃ v : Word, s.awake ∧ s.crcRun = false ∧ getF v Fl.CRC_CFG_PRESET = 2 :=
  ⟨base, setF 0 Fl.CRC_CFG_PRESET 2, by simp only [State.awake]; decide +kernel⟩
theorem witness_CrcPresetsLoad_3 : ∃ s : State, ∃ v : Word, s.awake ∧ s.crcRun = false ∧ getF v Fl.CRC_CFG_PRESET = 3 :=
  ⟨base, setF 0 Fl.CRC_CFG_PRESET 3, by simp only [State.awake]; decide +kernel⟩
theorem witness_CrcPresetsLoad_4 : ∃ s : State, ∃ v : Word, s.awake ∧ s.crcRun = false ∧ getF v Fl.CRC_CFG_PRESET = 4 :=
  ⟨base, setF 0 Fl.CRC_CFG_PRESET 4, by simp only [State.awake]; decide +kernel⟩
theorem witness_CrcPresetsLoad_5 : ∃ s : State, s.awake ∧ s.crcRun = false :=
  ⟨base, by simp only [State.awake]; decide +kernel⟩
theorem witness_CrcJobsRun_1_1 : ∃ s : State, s.awake ∧ s.crcRun = false ∧ 1 ≤ (s.rd Addr.CRC_LEN).toNat ∧ (s.rd Addr.CRC_LEN).toNat ≤ 262144 ∧ oneArea (s.rd Addr.CRC_ADDR).toNat (s.rd Addr.CRC_LEN).toNat = true :=
  ⟨(base.wr Addr.CRC_LEN 262144).wr Addr.CRC_ADDR 0x20080000, by simp only [State.awake]; decide +kernel⟩
theorem witness_CrcJobsRun_1_2 : ∃ s : State, s.awake ∧ s.crcRun = false :=
  ⟨base, by simp only [State.awake]; decide +kernel⟩
theorem witness_CrcJobsRun_2 : ∃ s : State, ∃ v : Word, s.awake ∧ s.crcFeed = true :=
  ⟨base.wf Addr.CRC_STAT Fl.CRC_STAT_FEED 1, 5, by simp only [State.awake]; decide +kernel⟩
theorem witness_CrcJobsRun_3 : ∃ s : State, s.awake ∧ s.crcFeed = true ∧ s.flt.crcMem = none :=
  ⟨base.wf Addr.CRC_STAT Fl.CRC_STAT_FEED 1, by simp only [State.awake]; decide +kernel⟩
theorem witness_CrcJobsRun_4 : ∃ s : State, s.awake :=
  ⟨base, by simp only [State.awake]; decide +kernel⟩
theorem witness_CrcJobsRun_5_1 : ∃ s : State, ∃ a : Nat, ∃ n : Nat, s.awake ∧ s.flt.crcMem = some (a, n) :=
  ⟨base.modFlt (fun f => { f with crcMem := some (0x20080000, 4) }), 0x20080000, 4, by simp only [State.awake]; decide +kernel⟩
theorem witness_CrcJobsRun_6 : ∃ s : State, ∃ c : Instr, s.awake ∧ s.crcRun = true ∧ (c = .crcStart ∨ c = .crcOpen ∨ (∃ p, 1 ≤ p ∧ p ≤ 4 ∧ c = .crcPreset p)) :=
  ⟨base.wf Addr.CRC_STAT Fl.CRC_STAT_FEED 1, .crcPreset 4, by simp only [State.awake]; decide +kernel, by decide +kernel,
    .inr (.inr ⟨4, by decide, by decide, rfl⟩)⟩
theorem witness_RecorderActs_1_1_1 : ∃ s : State, s.awake ∧ s.loft.volonly = false ∧ s.rstat Fl.REC_STAT_READY = true :=
  ⟨(base.wf Addr.REC_STAT Fl.REC_STAT_READY 1), by simp only [State.awake]; decide +kernel⟩
theorem witness_RecorderActs_1_1_2 : ∃ s : State, ∃ cyc, s.awake ∧ s.loft.volonly = false ∧ s.rstat Fl.REC_STAT_READY = true ∧ 0 < s.rcd.unfl ∧ s.rcd.flushE + 200000000 ≤ s.ecyc + cyc :=
  ⟨(base.wf Addr.REC_STAT Fl.REC_STAT_READY 1).modRec (fun r => { r with ring := [⟨rec0, false, false⟩] }), 200000000, by simp only [State.awake]; decide +kernel⟩
theorem witness_RecorderActs_1_2 : ∃ s : State, ∃ u : State, s.awake ∧ s.rests ∧ s.rstat Fl.REC_STAT_READY = true ∧ s.rstat Fl.REC_STAT_FLUSHING = true ∧ s.rcd.again = false ∧ s.rcd.dropRun = false ∧ s.programAll [] s.rcd.due 0 = (u, true) :=
  ⟨((base.wf Addr.REC_STAT Fl.REC_STAT_READY 1).wf Addr.REC_STAT Fl.REC_STAT_FLUSHING 1).modRec (fun r => { r with ring := [⟨rec0, false, false⟩] }), ((((base.wf Addr.REC_STAT Fl.REC_STAT_READY 1).wf Addr.REC_STAT Fl.REC_STAT_FLUSHING 1).modRec (fun r => { r with ring := [⟨rec0, false, false⟩] })).programAll [] (((base.wf Addr.REC_STAT Fl.REC_STAT_READY 1).wf Addr.REC_STAT Fl.REC_STAT_FLUSHING 1).modRec (fun r => { r with ring := [⟨rec0, false, false⟩] })).rcd.due 0).1, by simp only [State.due, State.awake, State.rests]; decide +kernel⟩
theorem witness_RecorderActs_1_3 : ∃ s : State, ∃ b : LoftBlk, ∃ b2 : LoftBlk, ∃ bs : List LoftBlk, s.awake ∧ s.rests ∧ s.loft.volonly = false ∧ s.rcd.pfmode = false ∧ s.loft.erased.length < 2 ∧ s.loft.blocks = b :: b2 :: bs ∧ b.failing = false :=
  ⟨base.modLoft (fun l => { l with erased := [(3, 0)], blocks := [⟨7, false, 0, 1, [rec0]⟩, ⟨8, false, 1, 2, []⟩] }), ⟨7, false, 0, 1, [rec0]⟩, ⟨8, false, 1, 2, []⟩, [], by simp only [State.awake, State.rests]; decide +kernel⟩
theorem witness_RecorderActs_1_4 : ∃ s : State, ∃ bad : Bool, s.awake ∧ s.rests ∧ s.rcd.pfmode = true :=
  ⟨base.modRec (fun r => { r with pfmode := true }), true, by simp only [State.awake, State.rests]; decide +kernel⟩
theorem witness_RecorderActs_1_5 : ∃ s : State, s.awake ∧ s.rests ∧ s.mode ≠ .RUN ∧ s.rcd.dropRun = false ∧ (∀ b ∈ s.loft.blocks, b.failing = false) :=
  ⟨baseIn .HOLD, by simp only [State.awake, State.rests]; decide +kernel⟩
theorem witness_RecorderActs_1_6 : ∃ s : State, s.rests ∧ s.mode = .RUN :=
  ⟨base, by simp only [State.rests]; decide +kernel⟩
theorem witness_RecorderActs_2_1 : ∃ s : State, ∃ hi : Word, s.awake ∧ s.rests ∧ s.rstat Fl.REC_STAT_WTV = false :=
  ⟨base, 5, by simp only [State.awake, State.rests]; decide +kernel⟩
theorem witness_RecorderActs_2_2 : ∃ s : State, ∃ hi : Word, s.awake ∧ s.rests ∧ (let w := hi.toNat % 65536 * 2 ^ 32 + (s.rd Addr.REC_WALL_LO).toNat
   (let tol := s.rf Addr.REC_CFG Fl.REC_CFG_TSTOL
   s.rstat Fl.REC_STAT_WTV = true ∧ s.wall ≤ w ∧ w ≤ s.wall + tol)) :=
  ⟨((base.wf Addr.REC_STAT Fl.REC_STAT_WTV 1).modRec (fun r => { r with clkW := 5000 })).wr Addr.REC_WALL_LO 5000, 0, by simp only [State.awake, State.rests]; decide +kernel⟩
theorem witness_RecorderActs_2_3 : ∃ s : State, ∃ hi : Word, s.awake ∧ s.rests ∧ (let w := hi.toNat % 65536 * 2 ^ 32 + (s.rd Addr.REC_WALL_LO).toNat
   (let tol := s.rf Addr.REC_CFG Fl.REC_CFG_TSTOL
   s.rstat Fl.REC_STAT_WTV = true ∧ w < s.wall ∧ s.wall ≤ w + tol)) :=
  ⟨((base.wf Addr.REC_STAT Fl.REC_STAT_WTV 1).modRec (fun r => { r with clkW := 5000 })).wr Addr.REC_WALL_LO 4999, 0, by simp only [State.awake, State.rests]; decide +kernel⟩
theorem witness_RecorderActs_2_4 : ∃ s : State, ∃ hi : Word, s.awake ∧ s.rests ∧ (let w := hi.toNat % 65536 * 2 ^ 32 + (s.rd Addr.REC_WALL_LO).toNat
   (let tol := s.rf Addr.REC_CFG Fl.REC_CFG_TSTOL
   s.rstat Fl.REC_STAT_WTV = true ∧ (s.wall + tol < w ∨ w + tol < s.wall))) :=
  ⟨((base.wf Addr.REC_STAT Fl.REC_STAT_WTV 1).modRec (fun r => { r with clkW := 5000 })).wr Addr.REC_WALL_LO 0, 65535, by simp only [State.awake, State.rests]; decide +kernel⟩
theorem witness_RecorderActs_3_1 : ∃ s : State, ∃ r : RecR, ∃ lost : Bool, s.awake ∧ s.flag Addr.REC_CFG Fl.REC_CFG_AINC = true ∧ s.recAt s.recCur = some (r, lost) :=
  ⟨(base.wf Addr.REC_CFG Fl.REC_CFG_AINC 1).modRec (fun r => { r with ring := [⟨rec0, false, false⟩] }), rec0, false, by simp only [State.awake]; decide +kernel⟩
theorem witness_RecorderActs_3_2 : ∃ s : State, s.awake ∧ s.rstat Fl.REC_STAT_READY = false ∧ s.raised = [] ∧ s.rcd.queue = [] ∧ s.rcd.wait.length ≤ 32 ∧ s.rcd.ring = [] :=
  ⟨base, by simp only [State.awake]; decide +kernel⟩
theorem witness_ResetAndStartUp_1_1_3 : ∃ s : State, s.pwr.lock = true :=
  ⟨base.modPwr (fun p => { p with lock := true }), by decide +kernel⟩
theorem witness_ResetAndStartUp_1_1_4 : ∃ s : State, s.awake ∧ s.mode ≠ .RUN ∧ s.flag Addr.SCH_BANK Fl.SCH_BANK_SWPEND = false :=
  ⟨baseIn .HOLD, by simp only [State.awake]; decide +kernel⟩
theorem witness_ResetAndStartUp_1_2 : ∃ s : State, s.pwr.inReset = true :=
  ⟨base.modPwr (fun p => { p with inReset := true }), by decide +kernel⟩
theorem witness_ResetAndStartUp_1_3 : ∃ s : State, s.pwr.inReset = false :=
  ⟨base, by decide +kernel⟩
theorem witness_ResetAndStartUp_1_4 : ∃ s : State, s.mode = .RUN :=
  ⟨base, by decide +kernel⟩
theorem witness_ResetAndStartUp_2_1 : ∃ s : State, s.mode = .RESET ∧ s.pwr.inReset = false :=
  ⟨State.reset, by decide +kernel⟩
theorem witness_ResetAndStartUp_2_2 : ∃ s : State, ∃ us : Nat, s.pwr.xok = true ∧ s.pwr.lock = false ∧ us < 256 :=
  ⟨State.reset.modPwr (fun p => { p with xok := true }), 255, by decide +kernel⟩
theorem witness_ResetAndStartUp_2_3 : ∃ s : State, s.mode = .RESET ∧ s.pwr.lock = true :=
  ⟨State.reset.modPwr (fun p => { p with lock := true }), by decide +kernel⟩
theorem witness_ResetAndStartUp_2_4 : ∃ s : State, s.pwr.memInit = true ∧ s.pwr.lock = true :=
  ⟨State.reset.modPwr (fun p => { p with lock := true }), by decide +kernel⟩
set_option maxRecDepth 100000 in
theorem witness_StoresAndSupply_1_1_1 : ∃ s : State, ∃ k : Nat, ∃ c, ∃ h, s.mode = .LOAD ∧ s.pwr.load = 1 ∧ s.pwr.memInit = false ∧ s.rstat Fl.REC_STAT_READY = true ∧ k < 2 ∧ s.nextSlot = some k ∧ (let img := s.loft.imgs.getD k []
   (let u := ({ s with mem := putBytes (clearRange s.mem (bankBase 0) (bankBase 0 + img.length)) (bankBase 0) img } : State).modPwr (fun p => { p with tried := p.tried ||| 2 ^ k })
   u.checkBank 0 = (c, some h))) :=
  ⟨bootState, 1, _, _, by decide +kernel, by decide +kernel, by decide +kernel, by decide +kernel, by decide +kernel, by decide +kernel,
    some_of _ wSheaf (by decide +kernel)⟩
theorem witness_StoresAndSupply_1_1_2 : ∃ s : State, ∃ k : Nat, ∃ c, s.mode = .LOAD ∧ s.pwr.load = 1 ∧ s.pwr.memInit = false ∧ s.rstat Fl.REC_STAT_READY = true ∧ k < 2 ∧ s.nextSlot = some k ∧ (let img := s.loft.imgs.getD k []
   (let u := ({ s with mem := putBytes (clearRange s.mem (bankBase 0) (bankBase 0 + img.length)) (bankBase 0) img } : State).modPwr (fun p => { p with tried := p.tried ||| 2 ^ k })
   u.checkBank 0 = (c, none))) :=
  ⟨(bootState.modLoft (fun l => { l with imgs := [[], [1]] })), 1, ((({ (bootState.modLoft (fun l => { l with imgs := [[], [1]] })) with mem := putBytes (clearRange ((bootState.modLoft (fun l => { l with imgs := [[], [1]] }))).mem (bankBase 0) (bankBase 0 + (((bootState.modLoft (fun l => { l with imgs := [[], [1]] }))).loft.imgs.getD 1 []).length)) (bankBase 0) (((bootState.modLoft (fun l => { l with imgs := [[], [1]] }))).loft.imgs.getD 1 []) } : State).modPwr (fun p => { p with tried := p.tried ||| 2 })).checkBank 0).1, by decide +kernel⟩
set_option maxRecDepth 100000 in
theorem witness_StoresAndSupply_1_2_1 : ∃ s : State, ∃ c, ∃ h, s.mode = .LOAD ∧ s.pwr.load = 2 ∧ s.checkBank s.inactive = (c, some h) :=
  ⟨(withImg (inMode .LOAD)).modPwr (fun p => { p with load := 2 }), (((withImg (inMode .LOAD)).modPwr (fun p => { p with load := 2 })).checkBank 1).1, ((((withImg (inMode .LOAD)).modPwr (fun p => { p with load := 2 })).checkBank 1).2).getD wSheaf, by decide +kernel⟩
theorem witness_StoresAndSupply_1_2_2 : ∃ s : State, ∃ c, s.mode = .LOAD ∧ s.pwr.load = 2 ∧ s.checkBank s.inactive = (c, none) :=
  ⟨(inMode .LOAD).modPwr (fun p => { p with load := 2 }), (((inMode .LOAD).modPwr (fun p => { p with load := 2 })).checkBank 1).1, by decide +kernel⟩
theorem witness_StoresAndSupply_1_3_1 : ∃ s : State, ∃ st : StoreS, s.awake ∧ s.pwr.store = some st ∧ (let x : LoftSlot := ⟨true, st.img.length, crc32c (st.img.take (st.img.length - 4)), st.rdy, (s.slotDesc st.slot).cnt + 1⟩
   st.bad = false) :=
  ⟨base.modPwr (fun p => { p with store := some ⟨1, true, true, [1], false, 0⟩ }), ⟨1, true, true, [1], false, 0⟩, by simp only [State.awake]; decide +kernel⟩
theorem witness_StoresAndSupply_1_3_2 : ∃ s : State, ∃ st : StoreS, s.awake ∧ s.pwr.store = some st ∧ (let x : LoftSlot := ⟨true, st.img.length, crc32c (st.img.take (st.img.length - 4)), st.rdy, (s.slotDesc st.slot).cnt + 1⟩
   st.bad = true) :=
  ⟨base.modPwr (fun p => { p with store := some ⟨1, true, true, [1], true, 0⟩ }), ⟨1, true, true, [1], true, 0⟩, by simp only [State.awake]; decide +kernel⟩
theorem witness_StoresAndSupply_2_1 : ∃ s : State, ∃ r : Nat, r < 3 :=
  ⟨base, 2, by decide +kernel⟩
theorem witness_StoresAndSupply_2_2 : ∃ s : State, s.pwr.inReset = false ∧ s.flag Addr.PWR_SUP Fl.PWR_SUP_PFW = false :=
  ⟨base, by decide +kernel⟩
theorem witness_StateCommandsAct_1_1 : ∃ s : State, s.taking ∧ s.mode = .READY :=
  ⟨baseIn .READY, by simp only [State.taking, State.awake]; decide +kernel⟩
theorem witness_StateCommandsAct_1_2 : ∃ s : State, s.taking ∧ (s.mode = .CONFIG ∨ (s.mode = .HOLD ∧ s.axesIdle = true)) :=
  ⟨baseIn .HOLD, by simp only [State.taking, State.awake]; decide +kernel⟩
theorem witness_StateCommandsAct_1_3 : ∃ s : State, s.taking ∧ s.runReason = 0 :=
  ⟨((baseIn .READY).wf Addr.REC_STAT Fl.REC_STAT_READY 1).wf Addr.PWR_SUP Fl.PWR_SUP_OK 7, by simp only [State.taking, State.awake]; decide +kernel⟩
theorem witness_StateCommandsAct_1_4 : ∃ s : State, s.taking ∧ s.mode = .RUN :=
  ⟨base, by simp only [State.taking, State.awake]; decide +kernel⟩
theorem witness_StateCommandsAct_1_5_1 : ∃ s : State, s.taking ∧ s.fclrReason = 0 :=
  ⟨(baseIn .FAULT).wf Addr.PWR_SUP Fl.PWR_SUP_OK 7, by simp only [State.taking, State.awake]; decide +kernel⟩
theorem witness_StateCommandsAct_1_5_2 : ∃ s : State, s.taking ∧ s.fclrReason = 0 ∧ s.rests ∧ s.rcd.unfl < 63 :=
  ⟨(baseIn .FAULT).wf Addr.PWR_SUP Fl.PWR_SUP_OK 7, by simp only [State.taking, State.rests, State.awake]; decide +kernel⟩
theorem witness_StateCommandsAct_1_6 : ∃ s : State, s.taking ∧ (s.mode = .CONFIG ∨ s.mode = .LOAD_FAIL) ∧ s.pwr.store = none :=
  ⟨baseIn .CONFIG, by simp only [State.taking, State.awake]; decide +kernel⟩
theorem witness_StateCommandsAct_1_7 : ∃ s : State, s.taking ∧ s.mode ≠ .RUN ∧ s.mode ≠ .LOAD ∧ s.pwr.store = none ∧ s.rcd.pfmode = false :=
  ⟨baseIn .CONFIG, by simp only [State.taking, State.awake]; decide +kernel⟩
theorem witness_StateCommandsAct_2 : ∃ s : State, ∃ k : Nat, ∃ c : Instr, s.taking ∧ (k, c) ∈ [(1, Instr.configCommand), (2, .readyCommand), (3, .runCommand), (4, .holdCommand), (5, .fclr), (6, .loadCommand), (7, .storeCommand), (15, .resetCommand)] ∧ s.cmdReason k ≠ 0 :=
  ⟨base, 15, .resetCommand, by simp only [State.taking, State.awake]; decide +kernel⟩
theorem witness_VerificationChecks_1 : ∃ s : State, s.awake ∧ s.checking = false ∧ s.flag Addr.SCH_BANK Fl.SCH_BANK_SWPEND = false :=
  ⟨base, by simp only [State.awake]; decide +kernel⟩
theorem witness_VerificationChecks_2 : ∃ s : State, s.awake ∧ s.sch.chkKind = 1 :=
  ⟨base.modSch (fun x => { x with chkKind := 1 }), by simp only [State.awake]; decide +kernel⟩
theorem witness_VerificationChecks_3 : ∃ s : State, s.awake ∧ (s.checking = true ∨ s.flag Addr.SCH_BANK Fl.SCH_BANK_SWPEND = true) :=
  ⟨base.modSch (fun x => { x with chkKind := 2 }), by simp only [State.awake]; decide +kernel⟩
theorem witness_SwitchesAndSwaps_1_1 : ∃ s : State, s.awake ∧ s.standby = false ∧ s.pwr.store = none ∧ s.switchOk = true :=
  ⟨baseIn .READY, by simp only [State.awake]; decide +kernel⟩
theorem witness_SwitchesAndSwaps_1_2 : ∃ s : State, s.awake ∧ s.standby = false ∧ s.pwr.store = none ∧ s.switchOk = false :=
  ⟨base, by simp only [State.awake]; decide +kernel⟩
set_option maxRecDepth 100000 in
theorem witness_SwitchesAndSwaps_2_1 : ∃ s : State, s.awake ∧ s.sch.chkKind = 2 ∧ s.sch.cancel = false ∧ (s.checkBank s.inactive).1.cause = 0 :=
  ⟨withImg (base.modSch (fun x => { x with chkKind := 2 })), by simp only [State.awake]; decide +kernel⟩
theorem witness_SwitchesAndSwaps_2_2 : ∃ s : State, s.awake ∧ s.sch.chkKind = 2 ∧ s.sch.cancel = false ∧ (s.checkBank s.inactive).1.cause ≠ 0 :=
  ⟨base.modSch (fun x => { x with chkKind := 2 }), by simp only [State.awake]; decide +kernel⟩
theorem witness_SwitchesAndSwaps_3_1 : ∃ s : State, ∃ k : Dbl, s.awake ∧ s.standby = false ∧ k ∈ Dbl.all ∧ k.here s = true ∧ s.swapBusy k = false ∧ (s.dblCheck k).2 = true :=
  ⟨base, .coef 5, by simp only [State.awake]; decide +kernel⟩
theorem witness_SwitchesAndSwaps_3_2 : ∃ s : State, ∃ k : Dbl, s.awake ∧ s.standby = false ∧ k ∈ Dbl.all ∧ k.here s = true ∧ s.swapBusy k = false ∧ (s.dblCheck k).2 = false :=
  ⟨base, .table 5, by simp only [State.awake]; decide +kernel⟩
theorem witness_SwitchesAndSwaps_4_1 : ∃ s : State, ∃ k : Dbl, s.awake ∧ s.standby = false ∧ k ∈ Dbl.all ∧ k.here s = true ∧ s.swapBusy k = false ∧ s.flag Addr.SCH_JSWCTL Fl.SCH_JSWCTL_PEND = false ∧ s.jswPlaces = [k.index, 0, 0, 0] ∧ (let u := s.plainPut Addr.SCH_JSWCTL (one Fl.SCH_JSWCTL_GO)
   (u.dblCheck k).2 = true) :=
  ⟨base.wf Addr.SCH_JSW01 Fl.SCH_JSW01_IDX0 (Dbl.coef 5).index, .coef 5, by simp only [State.awake]; decide +kernel⟩
theorem witness_SwitchesAndSwaps_4_2 : ∃ s : State, ∃ k : Dbl, s.awake ∧ s.standby = false ∧ k ∈ Dbl.all ∧ k.here s = true ∧ s.swapBusy k = false ∧ s.flag Addr.SCH_JSWCTL Fl.SCH_JSWCTL_PEND = false ∧ s.jswPlaces = [k.index, 0, 0, 0] ∧ (let u := s.plainPut Addr.SCH_JSWCTL (one Fl.SCH_JSWCTL_GO)
   (u.dblCheck k).2 = false) :=
  ⟨base.wf Addr.SCH_JSW01 Fl.SCH_JSW01_IDX0 (Dbl.table 5).index, .table 5, by simp only [State.awake]; decide +kernel⟩
theorem witness_FrameCounterReads_1 : ∃ s : State, s.awake ∧ s.frm < 2 ^ 48 :=
  ⟨{ base with frm := 2 ^ 48 - 1 }, by simp only [State.awake]; decide +kernel⟩
theorem witness_ReadsAndWrites_1_1 : ∃ s : State, ∃ a : Nat, ∃ r : RegRow, s.awake ∧ regRow? a = some r ∧ r.has .rc = true ∧ s.addrErr a = 0 ∧ a ∉ [Addr.FLT_GCNT, Addr.REC_DROPCNT, Addr.FIO_EFL 0, Addr.FIO_EFL 1, Addr.FIO_EFL 2, Addr.FIO_EFL 3] :=
  ⟨base, Addr.SCH_HOP_FULL, (regRow? Addr.SCH_HOP_FULL).getD ⟨0, 0, 0, 0, 0, []⟩, by simp only [State.awake]; decide +kernel⟩
theorem witness_ReadsAndWrites_1_2_1 : ∃ s : State, s.awake ∧ s.rests ∧ ((s.canS 1).txO 128).st ≠ 0 :=
  ⟨base.modCan 1 (fun c => { c with tx := [(128, { CTx.init with st := 1 })] }), by simp only [State.awake, State.rests]; decide +kernel⟩
theorem witness_ReadsAndWrites_1_3_1 : ∃ s : State, s.awake :=
  ⟨base, by simp only [State.awake]; decide +kernel⟩
theorem witness_ReadsAndWrites_1_3_5 : ∃ s : State, ∃ n, s.awake ∧ s.hasAx n = true :=
  ⟨base, 5, by simp only [State.awake]; decide +kernel⟩
theorem witness_ReadsAndWrites_2_1 : ∃ s : State, ∃ a : Nat, ∃ v : Word, s.awake ∧ s.writeErr a v = 0 ∧ stagedReg a = true ∧ a ≠ Addr.STP_CALLQ ∧ s.stgFree ≠ 0 :=
  ⟨base, Addr.AX_TGT 5, 9, by simp only [State.awake]; decide +kernel⟩
theorem witness_ReadsAndWrites_2_2 : ∃ s : State, ∃ a : Nat, ∃ v : Word, s.awake ∧ s.writeErr a v = 0 ∧ stagedReg a = true ∧ a ≠ Addr.STP_CALLQ ∧ s.stgFree = 0 :=
  ⟨base.modSch (fun x => { x with staging := List.replicate 64 ⟨Addr.AX_TGT 5, false, 9, 0, noTag, false⟩ }), Addr.AX_TGT 5, 9, by simp only [State.awake]; decide +kernel⟩
theorem witness_ReadsAndWrites_2_3 : ∃ s : State, ∃ g : Nat, ∃ v : Word, s.awake ∧ g < 16 :=
  ⟨base, 15, 0xFF, by simp only [State.awake]; decide +kernel⟩
theorem witness_ReadsAndWrites_2_4 : ∃ s : State, ∃ a : Nat, ∃ v : Word, s.awake ∧ s.writeErr a v ≠ 0 :=
  ⟨base, Addr.SCH_FRM_LO, 0, by simp only [State.awake]; decide +kernel⟩
theorem witness_ReadsAndWrites_2_5 : ∃ s : State, ∃ a : Nat, ∃ v : Word, ∃ r : RegRow, s.awake ∧ regRow? a = some r ∧ r.has .rwf = true ∧ s.addrErr a = 0 ∧ inMem a = false ∧ (s.flag Addr.SCH_BANK Fl.SCH_BANK_SWPEND = true ∨ (s.standby = true ∧ standbyTakes a v = false)) :=
  ⟨base.wf Addr.SCH_BANK Fl.SCH_BANK_SWPEND 1, Addr.AX_TGT 5, 9, (regRow? (Addr.AX_TGT 5)).getD ⟨0, 0, 0, 0, 0, []⟩, by simp only [State.awake]; decide +kernel⟩
theorem witness_FrameOfSlots : ∃ c : Instr, ∃ s : State, (groupOf c = .frame ∨ groupOf c = .slots) :=
  ⟨.hmove 0, base, by decide +kernel⟩
theorem witness_FrameOfMotion : ∃ c : Instr, ∃ s : State, (groupOf c = .feedback ∨ groupOf c = .motion ∨ groupOf c = .doors) :=
  ⟨.axHalt 5, base, by decide +kernel⟩
theorem witness_FrameOfUnits : ∃ c : Instr, ∃ s : State, (groupOf c = .stops ∨ groupOf c = .group ∨ groupOf c = .guard ∨ groupOf c = .field ∨ groupOf c = .energy) :=
  ⟨.tripclr, base, by decide +kernel⟩
theorem witness_FrameOfLinks_1 : ∃ c : Instr, ∃ s : State, (groupOf c = .can ∨ groupOf c = .services) :=
  ⟨.sleep 1, base, by decide +kernel⟩
theorem witness_FrameOfLinks_2 : ∃ c : Instr, ∃ s : State, groupOf c = .host :=
  ⟨.response 5 false, base, by decide +kernel⟩
theorem witness_FrameOfServices : ∃ c : Instr, ∃ s : State, (groupOf c = .pair ∨ groupOf c = .faults ∨ groupOf c = .crc ∨ groupOf c = .recorder) :=
  ⟨.crcData 5, base, by decide +kernel⟩
theorem witness_FrameOfModule : ∃ c : Instr, ∃ s : State, (groupOf c = .power ∨ groupOf c = .bank ∨ groupOf c = .reads) :=
  ⟨.wallTimeRead, base, by decide +kernel⟩

end Sys2Proof.Tests
end

section
/-! SUPPORT. What a command leaves to answer: nothing, since the end of every command (`settle`) drops what its answers still raised
and the claim, the field island and the readback times, which come after that, raise and record nothing. -/

namespace Sys2Proof.Machine

/-! ### Updates that raise and record nothing -/

@[simp] theorem State.wr_quiet (s : State) (a : Nat) (v : Word) : (s.wr a v).quiet = s.quiet := rfl
@[simp] theorem State.wf_quiet (s : State) (a : Nat) (f : Fld) (x : Nat) : (s.wf a f x).quiet = s.quiet := rfl
@[simp] theorem State.modPair_quiet (s : State) (f : PairS → PairS) : (s.modPair f).quiet = s.quiet := rfl
@[simp] theorem State.modFio_quiet (s : State) (f : FioS → FioS) : (s.modFio f).quiet = s.quiet := rfl
@[simp] theorem State.modFlt_quiet (s : State) (f : FltS → FltS) : (s.modFlt f).quiet = s.quiet := rfl

@[simp] theorem State.irq_quiet (s : State) (g b : Nat) : (s.irq g b).quiet = s.quiet := by
  simp only [State.irq]
  split <;> rfl

/-! ### The parts of `settle` that follow the answers -/

@[simp] theorem State.sendBeacon_quiet (s : State) : s.sendBeacon.quiet = s.quiet := by
  simp only [State.sendBeacon]
  split <;> rfl

@[simp] theorem State.claimUpd_quiet (s : State) : s.claimUpd.quiet = s.quiet := by
  simp only [State.claimUpd, State.setPst]
  split <;> simp

@[simp] theorem State.gateWindow_quiet (s : State) : s.gateWindow.quiet = s.quiet := rfl

/-- The comparator, the latches and the gates change FIO and its status registers; a channel that stops conducting interrupts only. -/
@[simp] theorem State.fioEval_quiet (s : State) : s.fioEval.quiet = s.quiet := by
  simp [State.fioEval, State.setFstat, apply_ite State.quiet]

@[simp] theorem State.zeroTimes_quiet (s : State) : s.zeroTimes.quiet = s.quiet := rfl

/-- The state in which `settle` has dropped what the answers still raised and recorded. -/
theorem dropped_quiet (s : State) : ({ s with raised := [], rcd := { s.rcd with queue := [] } } : State).quiet = true := by
  simp [State.quiet]

/-- Whatever a command and its answers raised or recorded, its end leaves nothing to answer (R594, R631). -/
theorem settle_quiet (s : State) : s.settle.quiet = true := by
  simp only [State.settle, State.zeroTimes_quiet, State.fioEval_quiet, State.claimUpd_quiet]
  exact dropped_quiet _

/-- The end of a command restores identity and queue (R7), whatever the command's effect `t` made of them, and leaves nothing to answer. -/
theorem done_answers (s t : State) : ∃ u, s.done t = .next u ∧ u.id = s.id ∧ u.pending = s.pending ∧ u.quiet = true := by
  simp only [State.done]
  have hid : ({ t with id := s.id } : State).settle.id = s.id := (keep_settle _).id
  have hquiet := settle_quiet { t with id := s.id }
  generalize ({ t with id := s.id } : State).settle = w at hid hquiet
  exact ⟨_, rfl, hid, rfl, hquiet⟩

/-- Settles O2: every command, one that cannot happen too (log entry 6), ends through `State.done`. -/
theorem everyCommandAnswers : Obligations.EveryCommandAnswers := by
  intro c s
  obtain ⟨t, ht⟩ := exec_done c s
  obtain ⟨u, hu, hanswers⟩ := done_answers s t
  exact ⟨u, ht.trans hu, hanswers⟩

end Sys2Proof.Machine
end
